-- ==== Sys2Proof/Word.lean ====
section
/-! DEFINITION. The plain words of the model: bytes, uptimes, rack times, and the two fixed-size
tables (four lanes or lines, eight points) that the station's state is made of. -/

namespace Sys2Proof

/-- One byte of a frame or of the fixture memory. -/
abbrev Byte := BitVec 8

/-- A reading of uptime: milliseconds since reset, wrapping at 2^48 (R151, R152). -/
abbrev Uptime := BitVec 48

/-- A moment of rack time (R151): seconds, wrapping at 2^32, and nanoseconds 0 to 999,999,999. -/
structure RackTime where
  s : BitVec 32
  ns : Nat
  deriving DecidableEq, Repr

/-- 0 s 0 ns, where rack time begins at reset (R153). -/
def RackTime.zero : RackTime := ⟨0, 0⟩

/-- Four like things, indexed 0 to 3: the link lanes, the watch lines, the profiles. -/
structure Quad (α : Type) where
  a : α
  b : α
  c : α
  d : α
  deriving DecidableEq, Repr

/-- Eight like things, indexed 0 to 7: the analog points. -/
structure Oct (α : Type) where
  a : α
  b : α
  c : α
  d : α
  e : α
  f : α
  g : α
  h : α
  deriving DecidableEq, Repr

namespace Quad

variable {α β : Type}

/-- The same thing four times. -/
def fill (x : α) : Quad α := ⟨x, x, x, x⟩

/-- The four things that a function of the index gives. -/
def ofFn (f : Fin 4 → α) : Quad α := ⟨f 0, f 1, f 2, f 3⟩

/-- The thing at an index. -/
def get (q : Quad α) : Fin 4 → α
  | 0 => q.a
  | 1 => q.b
  | 2 => q.c
  | 3 => q.d

/-- The four with one replaced. -/
def set (q : Quad α) : Fin 4 → α → Quad α
  | 0, x => { q with a := x }
  | 1, x => { q with b := x }
  | 2, x => { q with c := x }
  | 3, x => { q with d := x }

/-- Each thing changed by a function of its index and itself. -/
def mapIdx (f : Fin 4 → α → β) (q : Quad α) : Quad β := ⟨f 0 q.a, f 1 q.b, f 2 q.c, f 3 q.d⟩

/-- Each thing changed alike. -/
def map (f : α → β) (q : Quad α) : Quad β := q.mapIdx fun _ x => f x

/-- The four in index order. -/
def toList (q : Quad α) : List α := [q.a, q.b, q.c, q.d]

end Quad

namespace Oct

variable {α β : Type}

/-- The same thing eight times. -/
def fill (x : α) : Oct α := ⟨x, x, x, x, x, x, x, x⟩

/-- The eight things that a function of the index gives. -/
def ofFn (f : Fin 8 → α) : Oct α := ⟨f 0, f 1, f 2, f 3, f 4, f 5, f 6, f 7⟩

/-- The thing at an index. -/
def get (q : Oct α) : Fin 8 → α
  | 0 => q.a
  | 1 => q.b
  | 2 => q.c
  | 3 => q.d
  | 4 => q.e
  | 5 => q.f
  | 6 => q.g
  | 7 => q.h

/-- The eight with one replaced. -/
def set (q : Oct α) : Fin 8 → α → Oct α
  | 0, x => { q with a := x }
  | 1, x => { q with b := x }
  | 2, x => { q with c := x }
  | 3, x => { q with d := x }
  | 4, x => { q with e := x }
  | 5, x => { q with f := x }
  | 6, x => { q with g := x }
  | 7, x => { q with h := x }

/-- Each thing changed by a function of its index and itself. -/
def mapIdx (f : Fin 8 → α → β) (q : Oct α) : Oct β :=
  ⟨f 0 q.a, f 1 q.b, f 2 q.c, f 3 q.d, f 4 q.e, f 5 q.f, f 6 q.g, f 7 q.h⟩

/-- Each thing changed alike. -/
def map (f : α → β) (q : Oct α) : Oct β := q.mapIdx fun _ x => f x

/-- The eight in index order. -/
def toList (q : Oct α) : List α := [q.a, q.b, q.c, q.d, q.e, q.f, q.g, q.h]

end Oct

end Sys2Proof
end

