-- ==== Sys2Proof/Config.lean ====
section
/-! DEFINITION. The free values: what the manual leaves open although the station goes on. Each is
an opaque constant, so nothing can evaluate it and a claim about it holds whatever it is.
The functions of a `Nat` are applied to the model's own counter `State.free`, which each use
advances. -/

namespace Sys2Proof

/-- The tag byte of the BAD_REQUEST answer to a request with an empty payload: R166 makes the first
payload byte the tag and R167 answers such a request, and no rule gives the tag (log entry 4). -/
opaque Config.missingTag : Nat → Byte

/-- The seconds that a SNAPSHOT stores for a line whose last rise is absent: Table 10-11 gives the
nanoseconds FFFFFFFFh as the mark of absence and no fill for the seconds (log entry 5). -/
opaque Config.absentRiseSeconds : Nat → BitVec 32

/-- The base id that a control source entry takes from a stored byte above 63: R168 gives the range
0 to 63 and no rule corrects a stored byte outside it (log entry 6). -/
opaque Config.baseIdOf : Byte → BitVec 6

/-- Whether a sample of the open reach point is taken for the reach condition before its window is
judged: R102 orders the two judgements neither way (log entry 7). -/
opaque Config.reachJudgedFirst : Nat → Bool

/-- Whether a raise made in the event of a conversion completion reads the context values after
that completion: R87 and R137 allow the value before it or after it (log entry 8). -/
opaque Config.contextReadsAfter : Nat → Bool

/-- The code table of the lanes as a list of its patterns: the data groups by their byte value, the
MARKER, the three fill groups. R105 says what the table is like and prints none of it (log entry 9). -/
opaque Config.codeTable : List (BitVec 10)

/-- How many bytes the fixture memory answers in a millisecond of a load: R178 reads it byte by byte,
gives its rate as about 2048 bytes in 150 ms, and lets it be slower or stop (log entry 31). -/
opaque Config.bytesAnswered : Nat → Nat

/-- The longest payload that a frame may have (R160). -/
def Config.payloadLimit : Nat := 48

end Sys2Proof
end

