-- ==== Sys2Proof/Syntax.lean ====
section
/-! DEFINITION. The commands: one constructor of `Instr` per row of spec/opcode_table.json, with the
operands that the row's event brings from outside the station. -/

namespace Sys2Proof

/-- A frame that completes on the rack bus, as the station receives it (R160, Table 10-2), less its
kind, which the command's row gives. `length` is the length field and `payload` the payload bytes
that arrived, so a frame that ended early has fewer of them than `length`. `age` is the time from
the frame's first bit on the bus to the event of its completion, in oscillator periods of 20 ns
(R153, log entry 37): the receive stamp of R154 is computed from it and the station's rack time. -/
structure RxFrame where
  cls : BitVec 2
  source : BitVec 6
  spare : BitVec 2
  dest : BitVec 6
  length : BitVec 8
  payload : List Byte
  check : BitVec 16
  age : Nat
  deriving DecidableEq, Repr

/-- The commands of the station, in the order of spec/opcode_table.json. -/
inductive Instr where
  /-- POWER_ON_RESET (R175): module power leaves its operating range. -/
  | powerOnReset
  /-- RACK_RESET (R175): the rack reset line is asserted. -/
  | rackReset
  /-- RESET_END (R183): the reset ends; the operands are the straps as they read. -/
  | resetEnd (slot : BitVec 5) (code : BitVec 4)
  /-- START (R20): a request frame of kind 20h. -/
  | start (f : RxFrame)
  /-- PAUSE (R21): a request frame of kind 21h. -/
  | pause (f : RxFrame)
  /-- RESUME (R22): a request frame of kind 22h. -/
  | resume (f : RxFrame)
  /-- ABORT (R23): a request frame of kind 23h. -/
  | abort (f : RxFrame)
  /-- CLEAR (R24): a request frame of kind 24h. -/
  | clear (f : RxFrame)
  /-- SNAPSHOT (R170): a request frame of kind 25h. -/
  | snapshot (f : RxFrame)
  /-- STATUS (R171): a request frame of kind 30h. -/
  | status (f : RxFrame)
  /-- READ_LOG (R149): a request frame of kind 31h. -/
  | readLog (f : RxFrame)
  /-- READ_COUNTERS (R171): a request frame of kind 32h. -/
  | readCounters (f : RxFrame)
  /-- READ_POINT (R171): a request frame of kind 33h. -/
  | readPoint (f : RxFrame)
  /-- BEACON_RECEIVED (R156): a frame of kind 01h. -/
  | beaconReceived (f : RxFrame)
  /-- INTENT_RECEIVED (R54): a frame of kind 02h. -/
  | intentReceived (f : RxFrame)
  /-- COMMIT_RECEIVED (R54): a frame of kind 03h. -/
  | commitReceived (f : RxFrame)
  /-- FRAME_RECEIVED (R160): a frame of any other kind, which the first operand gives. -/
  | frameReceived (kind : Byte) (f : RxFrame)
  /-- ATTEMPT_START (R161): the bus is free. -/
  | attemptStart
  /-- ARBITRATION_LOSS (R161): the attempt reads a 0 against a sent 1 in the arbitration field. -/
  | arbitrationLoss
  /-- BUS_ERROR (R162): a bus error after the arbitration field of the attempt. -/
  | busError
  /-- TRANSMIT_COMPLETE (R161): the attempt sends its last check bit with no bus error. -/
  | transmitComplete
  /-- BEACON_TIMER_EXPIRY (R164). -/
  | beaconTimerExpiry
  /-- TRANSMIT_SUCCESS_TIMER_EXPIRY (R165). -/
  | transmitSuccessTimerExpiry
  /-- OUTPUT_TICK (R35, R152): a millisecond boundary of uptime. -/
  | outputTick
  /-- PRESS_TIMER_EXPIRY (R42). -/
  | pressTimerExpiry
  /-- POWER_GOOD_WAIT_EXPIRY (R128). -/
  | powerGoodWaitExpiry
  /-- DURATION_TIMER_EXPIRY (R13). -/
  | durationTimerExpiry
  /-- REACH_TIMER_EXPIRY (R103). -/
  | reachTimerExpiry
  /-- OFF_TIMER_EXPIRY (R14). -/
  | offTimerExpiry
  /-- ON_TIMER_EXPIRY (R16). -/
  | onTimerExpiry
  /-- BLANKING_TIMER_EXPIRY (R18). -/
  | blankingTimerExpiry
  /-- OUTPUT_LIMIT_INPUT_CHANGE (R43): the level the input takes. -/
  | outputLimitInputChange (asserted : Bool)
  /-- OUTPUT_LIMIT_TIMER_EXPIRY (R44). -/
  | outputLimitTimerExpiry
  /-- SUPPLY_SENSE_CHANGE (R45): the reading the line takes. -/
  | supplySenseChange (present : Bool)
  /-- START_SWITCH_CLOSE (R25). -/
  | startSwitchClose
  /-- START_SWITCH_RELEASE (R25). -/
  | startSwitchRelease
  /-- SCAN_START (R73). -/
  | scanStart
  /-- CONVERSION_COMPLETION (R75): the input voltage of the point being converted, in microvolts
  (log entry 10). -/
  | conversionCompletion (microvolts : Int)
  /-- CODE_GROUP_ARRIVAL (R105, R106): the lane and the 10-bit pattern that arrives on it. -/
  | codeGroupArrival (lane : Fin 4) (group : BitVec 10)
  /-- WATCH_LINE_EDGE (R123): the line, and whether the edge rises. -/
  | watchLineEdge (line : Fin 4) (rising : Bool)
  /-- HEARTBEAT_INTERVAL_EXPIRY (R125): the line whose interval timer expires. -/
  | heartbeatIntervalExpiry (line : Fin 4)
  /-- RATE_WINDOW_EXPIRY (R126): the line whose window timer expires. -/
  | rateWindowExpiry (line : Fin 4)
  /-- CLAIM_WINDOW_EXPIRY (R59). -/
  | claimWindowExpiry
  /-- RETRY_INTERVAL_EXPIRY (R62). -/
  | retryIntervalExpiry
  /-- WAITING_LIMIT_REACHED (R63). -/
  | waitingLimitReached
  /-- LISTENING_INTERVAL_END (R57). -/
  | listeningIntervalEnd
  /-- PEER_ENTRY_STALE (R55): the slot of the entry. -/
  | peerEntryStale (slot : BitVec 5)
  /-- PEER_ENTRY_REMOVAL (R55): the slot of the entry. -/
  | peerEntryRemoval (slot : BitVec 5)
  /-- PEER_INTENT_LIFETIME_EXPIRY (R56): the slot of the entry. -/
  | peerIntentLifetimeExpiry (slot : BitVec 5)
  /-- SETTLE_TIMER_EXPIRY (R157). -/
  | settleTimerExpiry
  /-- FIXTURE_PRESENT_CHANGE (R177): the fixture that the line now reads, by the bytes with which its
  memory answers, from its first byte (log entry 31); `none` where the line reads absent. -/
  | fixturePresentChange (fixture : Option (List Byte))
  /-- FIXTURE_DEBOUNCE_EXPIRY (R177). -/
  | fixtureDebounceExpiry
  /-- LOAD_COMPLETION (R178): how many bytes had been read when the tests ended the load. -/
  | loadCompletion (answered : Nat)
  /-- LOAD_TIMER_EXPIRY (R178): how many bytes the memory answered before the expiry. -/
  | loadTimerExpiry (answered : Nat)
  /-- CLOSE_TIMER_EXPIRY (R142): of the group that was opened first. -/
  | closeTimerExpiry
  /-- RACK_TIME_ADVANCE (R153): an oscillator period. -/
  | rackTimeAdvance
  /-- MEMORY_NO_RESPONSE (R178): how many bytes the memory answered before it stopped. -/
  | memoryNoResponse (answered : Nat)
  deriving DecidableEq, Repr

end Sys2Proof
end

