-- ==== Sys2Proof/Machine/State.lean ====
section
/-! DEFINITION. The station's state, block by block as the manual tabulates it, the state after
reset, and the reasons a command can stop. -/

namespace Sys2Proof.Machine

/-! ### The loaded configuration (R1 to R3, Chapters 1 to 10, R174) -/

/-- The kind of a step (Table 1-1). -/
inductive StepKind where
  | hold
  | cycle
  | margin
  deriving DecidableEq, Repr

/-- A policy: the three step policies of Table 1-1 and ABORT, which is only ever forced (R27). -/
inductive Policy where
  | goOn
  | nextStep
  | stop
  | abort
  deriving DecidableEq, Repr

/-- A step record of the plan (Table 1-1), its fields corrected by R3. The reach fields are held
whether or not the reach is present (Section 10.7.1). -/
structure StepRec where
  kind : StepKind
  policy : Policy
  mainMv : Nat
  marginBp : Int
  standbyMv : Nat
  fanPct : Nat
  profile : Fin 4
  slew : Nat
  durationS : Nat
  onMs : Nat
  offMs : Nat
  repeats : Nat
  claimW : Nat
  blankingMs : Nat
  pressMs : Nat
  reachPresent : Bool
  reachPoint : Nat
  reachTarget : Int
  reachBand : Nat
  reachTimeoutS : Nat
  deriving DecidableEq, Repr

/-- The record used where no plan is loaded, which no run can reach (log entry 11). -/
def StepRec.blank : StepRec :=
  { kind := .hold, policy := .goOn, mainMv := 0, marginBp := 0, standbyMv := 0, fanPct := 0,
    profile := 0, slew := 0, durationS := 1, onMs := 100, offMs := 100, repeats := 1, claimW := 0,
    blankingMs := 0, pressMs := 0, reachPresent := false, reachPoint := 0, reachTarget := 0,
    reachBand := 1, reachTimeoutS := 1 }

/-- The range codes of Table 4-3. -/
inductive PointRange where
  | off
  | v2p5
  | v6
  | v16
  | i10
  | i20
  | temp
  deriving DecidableEq, Repr

/-- The filter settings of R80. -/
inductive Filter where
  | none
  | short
  | medium
  | long
  deriving DecidableEq, Repr

/-- A point record (Tables 4-1 and 5-1), corrected by R78 and R90. `calDefault` says whether the
check of R78 replaced the gain and the offset. -/
structure PointRec where
  range : PointRange
  filter : Filter
  gain : Nat
  offset : Int
  calDefault : Bool
  nominal : Nat
  tolerance : Nat
  persistence : Nat
  deriving DecidableEq, Repr

/-- The line roles of R120. -/
inductive Role where
  | unused
  | heartbeat
  | rate
  | powerGood
  | resetWatch
  deriving DecidableEq, Repr

/-- A line record (Table 7-1), corrected by R121. -/
structure LineRec where
  role : Role
  hbMaxMs : Nat
  rateMin : Nat
  rateMax : Nat
  pgTimeoutMs : Nat
  deriving DecidableEq, Repr

/-- A watch profile (R88): the check set as one bit per watch point id, bit i for id i (log entry 42),
and the tolerance overrides of the points. -/
structure Profile where
  checkSet : BitVec 16
  overrides : Oct (Option Nat)
  deriving DecidableEq, Repr

/-- The safe sources of Table 2-1. -/
inductive SafeSource where
  | zero
  | hold
  | value
  deriving DecidableEq, Repr

/-- The settings of one lane error class (Table 6-1). -/
structure ErrorClass where
  threshold : Nat
  roll : Bool
  autoClear : Bool
  deriving DecidableEq, Repr

/-- An entry of the control source table (R168). -/
structure SourceEntry where
  baseId : BitVec 6
  length : Nat
  control : Bool
  deriving DecidableEq, Repr

/-- The corrected values that a VALID load hands on (R178, Section 11.5). -/
structure LoadedConfig where
  steps : List StepRec
  mainNominal : Nat
  mainMaxMv : Nat
  standbyMaxMv : Nat
  out1Safe : SafeSource
  out1SafeMv : Nat
  out2Safe : SafeSource
  out2SafePct : Nat
  overdrawCount : Nat
  scanInterval : Nat
  points : Oct PointRec
  profiles : Quad Profile
  signClass : ErrorClass
  codeClass : ErrorClass
  markClass : ErrorClass
  laneEnable : BitVec 4
  lines : Quad LineRec
  coalesceMs : Nat
  maxFaults : Nat
  contextPoint : Option (Fin 8)
  sources : List SourceEntry
  deriving DecidableEq, Repr

/-- The values the blocks read before any VALID load, when R176 gives `none` (log entry 11). -/
def LoadedConfig.blank : LoadedConfig :=
  { steps := [], mainNominal := 0, mainMaxMv := 0, standbyMaxMv := 0, out1Safe := .zero,
    out1SafeMv := 0, out2Safe := .zero, out2SafePct := 0, overdrawCount := 40, scanInterval := 2,
    points := .fill ⟨.off, .none, 32768, 0, false, 0, 0, 1⟩,
    profiles := .fill ⟨0, .fill .none⟩,
    signClass := ⟨1, false, false⟩, codeClass := ⟨1, false, false⟩, markClass := ⟨1, false, false⟩,
    laneEnable := 0, lines := .fill ⟨.unused, 10, 0, 0, 10⟩,
    coalesceMs := 0, maxFaults := 64, contextPoint := .none, sources := [] }

/-! ### Run Controller (Table 1-2) -/

/-- A timer in milliseconds of uptime (R152): `none` is stopped, `some r` is running (or halted by
PAUSE) with `r` ms remaining; at `some 0` its expiry is due. -/
abbrev Timer := Option Nat

/-- The run states (R5). -/
inductive RunState where
  | idle
  | claiming
  | waiting
  | running
  | paused
  | ended
  | isolated
  deriving DecidableEq, Repr

/-- The phases of a step (Table 1-2). -/
inductive Phase where
  | none
  | settling
  | reaching
  | timing
  | off
  | powering
  | on
  deriving DecidableEq, Repr

/-- The verdicts (R29). -/
inductive Verdict where
  | none
  | pass
  | fail
  | aborted
  deriving DecidableEq, Repr

/-- The end causes (Table 1-3). -/
inductive EndCause where
  | none
  | completed
  | requested
  | faultPolicy
  | faultLimit
  | overdraw
  | outputLimit
  | notReached
  | fixtureRemoved
  | busLost
  | supplyLost
  | budgetTimeout
  deriving DecidableEq, Repr

/-- The Run Controller's state (Table 1-2). The last five fields hold what R11, R12, R16, R25 and
R30 say the controller keeps: completions held for RESUME, a held expiry of the on timer, the
isolation's kept verdict, and the closing time of the start switch. -/
structure Rcu where
  /-- run state; reset IDLE -/
  run : RunState
  /-- step index, 0 to 31; reset 0 -/
  step : Nat
  /-- phase; reset NONE -/
  phase : Phase
  /-- iteration, 0 to 999; reset 0 -/
  iteration : Nat
  /-- governing step; reset none -/
  governing : Option Nat
  /-- step timers; reset all stopped -/
  duration : Timer
  reach : Timer
  off : Timer
  on : Timer
  blankingTimer : Timer
  /-- arrival taken, for the current phase; reset no -/
  arrivalTaken : Bool
  /-- power-on pending; reset no -/
  powerOnPending : Bool
  /-- verdict and end cause; reset NONE -/
  verdict : Verdict
  cause : EndCause
  /-- blanking, board-on and CLAMPED flags; reset clear -/
  blanking : Bool
  boardOn : Bool
  clamped : Bool
  /-- a completion of the power-on sequence held in PAUSED (R11) -/
  heldPowerOn : Bool
  /-- a reach met report held in PAUSED (R12) -/
  heldReach : Bool
  /-- an expiry of the on timer held until POWERING ends (R16) -/
  heldOn : Bool
  /-- in ISOLATED: a run was active at the report, so ABORTED with BUS_LOST is kept (R30) -/
  isolatedRun : Bool
  /-- the uptime at which the start switch closed, while it is closed (R25) -/
  switchClosed : Option Uptime
  deriving DecidableEq, Repr

/-! ### Supply Output Unit (Table 2-2) -/

/-- The output-limit timer (R43). -/
inductive LimitTimer where
  | idle
  | counting (elapsed : Nat)
  | expired
  deriving DecidableEq, Repr

/-- The Supply Output Unit's state (Table 2-2). A channel's stage is computed from its target and
present level (R32). `limitInput` is the output-limit input as it reads. -/
structure Sou where
  target0 : Nat
  level0 : Nat
  target1 : Nat
  level1 : Nat
  target2 : Nat
  level2 : Nat
  slew : Nat
  pressed : Bool
  pressTimer : Timer
  limitInput : Bool
  limit : LimitTimer
  sensePresent : Bool
  deriving DecidableEq, Repr

/-! ### Budget Unit (Table 3-2) -/

/-- The stage of the own intent (R49); in WINDOW it has its intent time (R50). -/
inductive IntentStage where
  | held
  | queued
  | window (time : RackTime)
  deriving DecidableEq, Repr

/-- The station's own intent (R49). -/
structure OwnIntent where
  claim : Nat
  stage : IntentStage
  deriving DecidableEq, Repr

/-- A peer's open intent (R53). -/
structure PeerIntent where
  claim : Nat
  time : RackTime
  heard : Uptime
  deriving DecidableEq, Repr

/-- An entry of the peer view (R53). -/
structure Peer where
  slot : Nat
  committed : Nat
  intent : Option PeerIntent
  lastHeard : Uptime
  fresh : Bool
  deriving DecidableEq, Repr

/-- The Budget Unit's state (Table 3-2). The rack budget B is computed from the budget code, which
stands in `State.code` (R48). `waitingSince` is the wait state: `some u` is WAITING with the uptime
of the last refusal. `listening` is what remains of the listening interval of Table 3-1. -/
structure Bgu where
  committed : Nat
  intent : Option OwnIntent
  window : Timer
  pendingLower : Option Nat
  waitingSince : Option Uptime
  accumulator : Nat
  refusals : Nat
  peers : List Peer
  overdrawSamples : Nat
  overdrawEpisodes : Nat
  slotConflict : Bool
  listening : Nat
  deriving DecidableEq, Repr

/-! ### Analog Scanner (Table 4-4) -/

/-- The scanner state with the next scan start and the scan position, each present where Table 4-4
says it is. -/
inductive Scanner where
  | stopped
  | between (next : Uptime)
  | scanning (next : Uptime) (position : Fin 8)
  deriving DecidableEq, Repr

/-- The scanner's values of one point (Table 4-4). `running` is the filter state. -/
structure PointValue where
  code : Nat
  underRange : Bool
  overRange : Bool
  m : Int
  running : Bool
  acc : Int
  y : Int
  calDefault : Bool
  deriving DecidableEq, Repr

/-- A point's reset values (Table 4-4). -/
def PointValue.reset : PointValue :=
  { code := 0, underRange := false, overRange := false, m := 0, running := false, acc := 0, y := 0,
    calDefault := false }

/-- The Analog Scanner's state (Table 4-4). `power` is the measured power P in dW. -/
structure Asc where
  scanner : Scanner
  points : Oct PointValue
  power : Nat
  deriving DecidableEq, Repr

/-! ### Window Checker (Table 5-2) -/

/-- A point's window (Table 5-2). -/
structure Window where
  out : Bool
  excursionRun : Nat
  returnRun : Nat
  episodes : Nat
  deriving DecidableEq, Repr

/-- An open reach request (Table 5-2). -/
structure ReachRequest where
  point : Nat
  target : Int
  band : Nat
  deriving DecidableEq, Repr

/-- The Window Checker's state (Table 5-2). -/
structure Wck where
  points : Oct Window
  reach : Option ReachRequest
  deriving DecidableEq, Repr

/-! ### Lane Monitor (Table 6-2) -/

/-- The lock states (Table 6-3). -/
inductive Lock where
  | off
  | search
  | codeLock
  | frameLock
  deriving DecidableEq, Repr

/-- The running sign (R106). -/
inductive Sign where
  | pos
  | neg
  | undetermined
  deriving DecidableEq, Repr

/-- An error counter with its terminal flag (R115, R116). -/
structure ErrorCounter where
  count : Nat
  terminal : Bool
  deriving DecidableEq, Repr

/-- A lane's state (Table 6-2). -/
structure Lane where
  lock : Lock
  sign : Sign
  searchRun : Nat
  unknownRun : Nat
  distance : Option Nat
  framePosition : Nat
  markErrorRun : Nat
  signErrors : ErrorCounter
  codeErrors : ErrorCounter
  markErrors : ErrorCounter
  lockLosses : Nat
  deriving DecidableEq, Repr

/-- A lane's reset values (Table 6-2). -/
def Lane.reset : Lane :=
  { lock := .off, sign := .undetermined, searchRun := 0, unknownRun := 0, distance := .none,
    framePosition := 0, markErrorRun := 0, signErrors := ⟨0, false⟩, codeErrors := ⟨0, false⟩,
    markErrors := ⟨0, false⟩, lockLosses := 0 }

/-! ### Watch Line Unit (Tables 7-2 and 7-3) -/

/-- The states of a HEARTBEAT line (Table 7-3). -/
inductive Heartbeat where
  | disarmed
  | armed
  | hung
  deriving DecidableEq, Repr

/-- The states of a POWER_GOOD line (Table 7-3). In UP the rise of R127 to R129 is kept. -/
inductive PowerGood where
  | off
  | waiting
  | up (rise : Uptime)
  | unseen
  deriving DecidableEq, Repr

/-- The supervision state of a line, by role (Table 7-3). -/
inductive Supervision where
  | unused
  | heartbeat (state : Heartbeat)
  | rate (armed outOfRange : Bool)
  | powerGood (state : PowerGood)
  | resetWatch (asserted : Bool)
  deriving DecidableEq, Repr

/-- A line's state (Table 7-2). `high` is the level; `timer` is the interval, window or wait timer
of the line's role. -/
structure Line where
  high : Bool
  pulses : BitVec 32
  riseRack : Option RackTime
  riseUptime : Option Uptime
  sup : Supervision
  timer : Timer
  windowCount : Nat
  episodes : Nat
  deriving DecidableEq, Repr

/-- A line's reset values (Table 7-2) at a level that it reads. -/
def Line.reset (high : Bool) : Line :=
  { high := high, pulses := 0, riseRack := .none, riseUptime := .none, sup := .unused,
    timer := .none, windowCount := 0, episodes := 0 }

/-! ### Fault Capture Unit (Tables 8-1, 8-4 and 8-5) -/

/-- The fault kinds, in the order of Table 8-1. -/
inductive FaultKind where
  | excursionLow
  | excursionHigh
  | notReached
  | overdraw
  | outputLimit
  | laneErrors
  | laneLost
  | hang
  | fanRate
  | pgDrop
  | noPowerGood
  | spontaneousReset
  | supplyLost
  | budgetTimeout
  | fixtureRemoved
  | busLost
  deriving DecidableEq, Repr

/-- The context of a record (R139). -/
structure Context where
  mainMv : Int
  mainMa : Int
  temp : Int
  deriving DecidableEq, Repr

/-- A fault record (Table 8-5). In an open group or a raise not yet written, `index` is 0. -/
structure Record where
  index : Nat
  kind : FaultKind
  rack : RackTime
  uptime : Uptime
  step : Nat
  phase : Phase
  iteration : Nat
  points : List Nat
  value : Int
  context : Option Context
  deriving DecidableEq, Repr

/-- An open coalescing group (R140): the record it will be written as, and its close timer. -/
structure Group where
  record : Record
  closeTimer : Nat
  deriving DecidableEq, Repr

/-- The closing mode (R135). -/
inductive ClosingMode where
  | none
  | completing
  | ending
  deriving DecidableEq, Repr

/-- The Fault Capture Unit's state (Table 8-4). The stored count is the length of the log. -/
structure Fcu where
  groups : List Group
  log : List Record
  recordCount : Nat
  lostCount : Nat
  logFull : Bool
  mode : ClosingMode
  deriving DecidableEq, Repr

/-! ### Time Unit (Table 9-2) -/

/-- The Time Unit's state (Table 9-2). -/
structure Tmu where
  rack : RackTime
  uptime : Uptime
  jumps : Nat
  settled : Bool
  settleTimer : Timer
  deriving DecidableEq, Repr

/-! ### Bus Interface (Table 10-1) -/

/-- A frame queued in an outbox class, with its bus-error run (R162). -/
structure Queued (α : Type) where
  frame : α
  errorRun : Nat
  deriving DecidableEq, Repr

/-- A frame of the BUDGET class. `own` says of an INTENT that it is the frame queued for the own
intent, and so not one whose intent has been withdrawn (R161). -/
inductive BudgetFrame where
  | intent (claim : Nat) (own : Bool)
  | commit
  deriving DecidableEq, Repr

/-- The content of a RUN notice (Table 10-8), fixed when it is queued (R172). -/
structure RunNotice where
  rack : RackTime
  verdict : Verdict
  cause : EndCause
  step : Nat
  phase : Phase
  iteration : Nat
  recordCount : Nat
  storedCount : Nat
  lostCount : Nat
  logFull : Bool
  clamped : Bool
  deriving DecidableEq, Repr

/-- A frame of the NOTICE class (R172). -/
inductive Notice where
  | fault (record : Record)
  | run (notice : RunNotice)
  deriving DecidableEq, Repr

/-- A frame of the RESPONSE class (R167): the data stand as read (R171). -/
structure Response where
  dest : BitVec 6
  tag : Byte
  kind : Byte
  code : Byte
  data : List Byte
  deriving DecidableEq, Repr

/-- The outbox classes (R163). -/
inductive FrameClass where
  | budget
  | notice
  | response
  | beacon
  deriving DecidableEq, Repr

/-- The frame in attempt: the class whose head it is, the attempt's start-of-frame stamp (R154) and
the bytes that go out. -/
structure Attempt where
  cls : FrameClass
  stamp : RackTime
  bytes : List Byte
  deriving DecidableEq, Repr

/-- A lane's copies in the snapshot store (R170). -/
structure LaneCopy where
  sign : ErrorCounter
  code : ErrorCounter
  mark : ErrorCounter
  lockLosses : Nat
  deriving DecidableEq, Repr

/-- A line's copies in the snapshot store (R170). `riseAbsent` marks an absent last rise. -/
structure LineCopy where
  pulses : BitVec 32
  episodes : Nat
  riseAbsent : Bool
  rise : RackTime
  deriving DecidableEq, Repr

/-- The snapshot store (R170). -/
structure Snapshot where
  lanes : Quad LaneCopy
  lines : Quad LineCopy
  pointEpisodes : Oct Nat
  overdrawEpisodes : Nat
  rack : RackTime
  deriving DecidableEq, Repr

/-- The snapshot store after reset: all zero, each last rise marked absent (R170). -/
def Snapshot.reset : Snapshot :=
  { lanes := .fill ⟨⟨0, false⟩, ⟨0, false⟩, ⟨0, false⟩, 0⟩, lines := .fill ⟨0, 0, true, .zero⟩,
    pointEpisodes := .fill 0, overdrawEpisodes := 0, rack := .zero }

/-- The Bus Interface's state (Table 10-1). `budgetNext` and `beaconNext` are the newer frames that
wait for an attempt of their class to finish (R161). The control source table is the loaded
configuration's, in force while the configuration is VALID (R159). -/
structure Bif where
  budget : Option (Queued BudgetFrame)
  budgetNext : Option BudgetFrame
  notices : List (Queued Notice)
  responses : List (Queued Response)
  beacon : Option (Queued Unit)
  beaconNext : Bool
  attempt : Option Attempt
  noticeDrops : Nat
  requestDrops : Nat
  lastSuccess : Uptime
  successTimer : Timer
  isolated : Bool
  snapshot : Snapshot
  beaconTimer : Nat
  deriving DecidableEq, Repr

/-! ### Configuration Loader (Table 11-1) -/

/-- The configuration statuses (R176). -/
inductive ConfigStatus where
  | absent
  | loading
  | valid
  | invalid
  deriving DecidableEq, Repr

/-- The reasons of an INVALID configuration (R176). -/
inductive Reason where
  | none
  | noResponse
  | length
  | version
  | checksum
  | badStructure
  deriving DecidableEq, Repr

/-- The fixture-present state (R177). -/
inductive FixtureState where
  | absent
  | debouncing (elapsed : Nat)
  | present
  deriving DecidableEq, Repr

/-- The Configuration Loader's state (Table 11-1). `memory` is what stands outside on the harness:
the bytes with which the memory of the present fixture answers, from its first byte, and none
without a fixture. `read` is how many of them the load in progress has read, and 0 outside LOADING
(R178, log entry 31). -/
structure Cfl where
  status : ConfigStatus
  reason : Reason
  fixture : FixtureState
  loadTimer : Timer
  modelCode : BitVec 16
  serial : BitVec 32
  config : Option LoadedConfig
  memory : List Byte
  read : Nat
  deriving DecidableEq, Repr

/-! ### The station -/

/-- The station's state: the eleven blocks, the straps as read at the last reset (R175), whether a
reset holds the station, and the model's own two fields: the counter that the free values read
(`free`) and the queue of the commands that wait (`pending`, first in, first out). -/
structure State where
  pending : List Instr
  inReset : Bool
  slot : BitVec 5
  code : BitVec 4
  rcu : Rcu
  sou : Sou
  bgu : Bgu
  asc : Asc
  wck : Wck
  lanes : Quad Lane
  lines : Quad Line
  fcu : Fcu
  tmu : Tmu
  bus : Bif
  cfl : Cfl
  free : Nat
  deriving DecidableEq, Repr

/-- Why the station would stop. The manual describes no event after which the part stops working,
so no command raises a fault and there is no constructor: safe, since a claim about a fault says
nothing of the model. -/
inductive Fault where
  deriving DecidableEq, Repr

/-- Why a command would have no meaning. -/
inductive Refusal where
  /-- Raised by an arm of `exec` whose command has no meaning yet: safe. No arm raises it. -/
  | notModelled (mnemonic : String)
  deriving DecidableEq, Repr

/-! ### Reset values -/

/-- Table 1-2. The start switch is kept as it stands: closed at reset counts from uptime 0 (R25). -/
def Rcu.reset (switchClosed : Bool) : Rcu :=
  { run := .idle, step := 0, phase := .none, iteration := 0, governing := .none,
    duration := .none, reach := .none, off := .none, on := .none, blankingTimer := .none,
    arrivalTaken := false, powerOnPending := false, verdict := .none, cause := .none,
    blanking := false, boardOn := false, clamped := false, heldPowerOn := false,
    heldReach := false, heldOn := false, isolatedRun := false,
    switchClosed := if switchClosed then some 0 else .none }

/-- Table 2-2. The two inputs are kept as they read. -/
def Sou.reset (limitInput sensePresent : Bool) : Sou :=
  { target0 := 0, level0 := 0, target1 := 0, level1 := 0, target2 := 0, level2 := 0, slew := 0,
    pressed := false, pressTimer := .none, limitInput := limitInput, limit := .idle,
    sensePresent := sensePresent }

/-- Table 3-2. -/
def Bgu.reset : Bgu :=
  { committed := 0, intent := .none, window := .none, pendingLower := .none,
    waitingSince := .none, accumulator := 0, refusals := 0, peers := [], overdrawSamples := 0,
    overdrawEpisodes := 0, slotConflict := false, listening := 1000 }

/-- Table 4-4. -/
def Asc.reset : Asc := { scanner := .stopped, points := .fill PointValue.reset, power := 0 }

/-- Table 5-2. -/
def Wck.reset : Wck := { points := .fill ⟨false, 0, 0, 0⟩, reach := .none }

/-- Table 8-4. -/
def Fcu.reset : Fcu :=
  { groups := [], log := [], recordCount := 0, lostCount := 0, logFull := false, mode := .none }

/-- Table 9-2. -/
def Tmu.reset : Tmu :=
  { rack := .zero, uptime := 0, jumps := 0, settled := false, settleTimer := some 1000 }

/-- Table 10-1. The beacon timer's first expiry is at uptime 0. -/
def Bif.reset : Bif :=
  { budget := .none, budgetNext := .none, notices := [], responses := [], beacon := .none,
    beaconNext := false, attempt := .none, noticeDrops := 0, requestDrops := 0, lastSuccess := 0,
    successTimer := some 2000, isolated := false, snapshot := Snapshot.reset, beaconTimer := 0 }

/-- Table 11-1, at a reading of the fixture-present line and with the memory on the harness. -/
def Cfl.reset (present : Bool) (memory : List Byte) : Cfl :=
  { status := .absent, reason := .none, fixture := if present then .present else .absent,
    loadTimer := .none, modelCode := 0, serial := 0, config := .none, memory := memory, read := 0 }

/-- The station while a reset holds it: every block at its reset values, the outputs at 0 and the
button released (R175). RESET_END is the command that ends the reset (R183, log entry 1). The lines
that come from outside read as log entry 2 says, and the straps as 0 until RESET_END reads them. -/
def State.reset : State :=
  { pending := [], inReset := true, slot := 0, code := 0, rcu := .reset false,
    sou := .reset false true, bgu := .reset, asc := .reset, wck := .reset,
    lanes := .fill Lane.reset, lines := .fill (Line.reset false), fcu := .reset, tmu := .reset,
    bus := .reset, cfl := .reset false [], free := 0 }

end Sys2Proof.Machine
end

