-- ==== Sys2Proof/Machine/Operands.lean ====
section
/-! DEFINITION. The operand forms: counters at the top of their range (0.7.4), clamping, multi-byte
fields (R173), the check of frames and of the configuration block (R160, R179), rack time and uptime
arithmetic (Chapter 9), received and sent frames (Table 10-2), and the codes of Table 10-4. -/

namespace Sys2Proof.Machine

/-! ### Counters and clamps -/

/-- A saturating count: it stays at its largest value (0.7.4). -/
def satInc (top n : Nat) : Nat := min (n + 1) top

/-- The nearest value of a range. -/
def clampNat (lo hi n : Nat) : Nat := max lo (min n hi)

/-- The nearest value of a range of integers. -/
def clampInt (lo hi n : Int) : Int := max lo (min n hi)

/-! ### Bytes (R173) -/

/-- A value as `n` bytes, most significant first. -/
def beBytes : Nat → Nat → List Byte
  | 0, _ => []
  | n + 1, v => BitVec.ofNat 8 (v / 256 ^ n) :: beBytes n v

/-- A signed value as `n` bytes of two's complement, most significant first. -/
def beInt (n : Nat) (v : Int) : List Byte := beBytes n (v % (256 ^ n : Nat)).toNat

/-- The value of bytes, most significant first. -/
def ofBe (bytes : List Byte) : Nat := bytes.foldl (fun acc b => acc * 256 + b.toNat) 0

/-- The byte at an offset. -/
def byteAt (bytes : List Byte) (i : Nat) : Nat := (bytes.getD i 0).toNat

/-- The two-byte field at an offset. -/
def wordAt (bytes : List Byte) (i : Nat) : Nat := ofBe ((bytes.drop i).take 2)

/-- The four-byte field at an offset. -/
def longAt (bytes : List Byte) (i : Nat) : Nat := ofBe ((bytes.drop i).take 4)

/-- The signed two-byte field at an offset. -/
def signedAt (bytes : List Byte) (i : Nat) : Int := (BitVec.ofNat 16 (wordAt bytes i)).toInt

/-- A flag as its bit at a position of a byte. -/
def bitOf (flag : Bool) (i : Nat) : Nat := if flag then 2 ^ i else 0

/-- One bit of the check of R160: a shift by one, with the polynomial x^16 + x^12 + x^5 + 1. -/
def crcBit (c : BitVec 16) : BitVec 16 :=
  if c.getLsbD 15 then (c <<< 1) ^^^ 0x1021#16 else c <<< 1

/-- One byte of the check, most significant bit first. -/
def crcByte (c : BitVec 16) (b : Byte) : BitVec 16 :=
  crcBit (crcBit (crcBit (crcBit (crcBit (crcBit (crcBit (crcBit
    (c ^^^ (b.setWidth 16 <<< 8)))))))))

/-- The CRC-16 of R160 and R179: initial value FFFFh, no final inversion. -/
def crc16 (bytes : List Byte) : BitVec 16 := bytes.foldl crcByte 0xFFFF#16

/-! ### Time (Chapter 9) -/

/-- Rack time moved forward, with the carry into the seconds and their wrap (R153, R156). -/
def addNanos (t : RackTime) (n : Nat) : RackTime :=
  let total := t.s.toNat * 1000000000 + t.ns + n
  ⟨BitVec.ofNat 32 (total / 1000000000), total % 1000000000⟩

/-- Rack time moved back, with the borrow from the seconds and their wrap (R153, log entry 37). -/
def subNanos (t : RackTime) (n : Nat) : RackTime :=
  let cycle := 2 ^ 32 * 1000000000
  addNanos t (cycle - n % cycle)

/-- D = Ts − Tr in nanoseconds, its seconds part read as signed modulo 2^32 (R156). -/
def leadNanos (ts tr : RackTime) : Int :=
  (ts.s - tr.s).toInt * 1000000000 + ((ts.ns : Int) - (tr.ns : Int))

/-- The order of rack times by seconds and then nanoseconds (R58). -/
def earlier (x y : RackTime) : Bool :=
  decide (x.s.toNat < y.s.toNat ∨ (x.s.toNat = y.s.toNat ∧ x.ns < y.ns))

/-- The uptime in ms from one reading to a later one (0.7.5), across the wrap of R152. -/
def elapsed (now since : Uptime) : Nat := (now - since).toNat

/-- Uptime has reached a moment set at most half its range ahead. -/
def reached (now moment : Uptime) : Bool := decide (elapsed now moment < 2 ^ 47)

/-- A running timer after one millisecond. -/
def Timer.tick (t : Timer) : Timer := t.map (· - 1)

/-- The expiry of a timer is due. -/
def Timer.due (t : Timer) : Bool := decide (t = some 0)

/-! ### Frames (R160, Table 10-2) -/

/-- The header and payload of a received frame, over which its check is computed. -/
def frameBody (kind : Byte) (f : RxFrame) : List Byte :=
  (f.cls ++ f.source) :: (f.spare ++ f.dest) :: kind :: f.length :: f.payload

/-- The frame completed whole and with a good check: R160 discards it where its check fails, its
length field exceeds 48, or it ended before its last byte. -/
def frameIntact (kind : Byte) (f : RxFrame) : Bool :=
  decide (f.length.toNat ≤ Config.payloadLimit) && decide (f.payload.length = f.length.toNat) &&
    decide (crc16 (frameBody kind f) = f.check)

/-- The frame that a node sends with a class, source, destination, kind and payload, as a receiver
has it whole `age` oscillator periods after its first bit. -/
def sentFrame (cls : BitVec 2) (source dest : BitVec 6) (kind : Byte) (payload : List Byte)
    (age : Nat) : RxFrame :=
  let f : RxFrame :=
    { cls := cls, source := source, spare := 0, dest := dest,
      length := BitVec.ofNat 8 payload.length, payload := payload, check := 0, age := age }
  { f with check := crc16 (frameBody kind f) }

/-- The bytes of a frame that the station sends (Table 10-2). -/
def frameBytes (cls : BitVec 2) (slot : BitVec 5) (dest : BitVec 6) (kind : Byte)
    (payload : List Byte) : List Byte :=
  let body := (cls ++ slot.setWidth 6) :: dest.setWidth 8 :: kind ::
    BitVec.ofNat 8 payload.length :: payload
  body ++ beBytes 2 (crc16 body).toNat

/-- The destination that addresses every node (R160). -/
def everyNode : BitVec 6 := 63

/-! ### Codes (Tables 10-3 and 10-4) -/

def RunState.code : RunState → Nat
  | .idle => 0
  | .claiming => 1
  | .waiting => 2
  | .running => 3
  | .paused => 4
  | .ended => 5
  | .isolated => 6

def Phase.code : Phase → Nat
  | .none => 0
  | .settling => 1
  | .reaching => 2
  | .timing => 3
  | .off => 4
  | .powering => 5
  | .on => 6

def Verdict.code : Verdict → Nat
  | .none => 0
  | .pass => 1
  | .fail => 2
  | .aborted => 3

def EndCause.code : EndCause → Nat
  | .none => 0
  | .completed => 1
  | .requested => 2
  | .faultPolicy => 3
  | .faultLimit => 4
  | .overdraw => 5
  | .outputLimit => 6
  | .notReached => 7
  | .fixtureRemoved => 8
  | .busLost => 9
  | .supplyLost => 10
  | .budgetTimeout => 11

def FaultKind.code : FaultKind → Nat
  | .excursionLow => 1
  | .excursionHigh => 2
  | .notReached => 3
  | .overdraw => 4
  | .outputLimit => 5
  | .laneErrors => 6
  | .laneLost => 7
  | .hang => 8
  | .fanRate => 9
  | .pgDrop => 10
  | .noPowerGood => 11
  | .spontaneousReset => 12
  | .supplyLost => 13
  | .budgetTimeout => 14
  | .fixtureRemoved => 15
  | .busLost => 16

def ConfigStatus.code : ConfigStatus → Nat
  | .absent => 0
  | .loading => 1
  | .valid => 2
  | .invalid => 3

def Reason.code : Reason → Nat
  | .none => 0
  | .noResponse => 1
  | .length => 2
  | .version => 3
  | .checksum => 4
  | .badStructure => 5

/-- The response codes (R167, Table 10-4). -/
inductive ResponseCode where
  | ok
  | wrongState
  | notReady
  | notPermitted
  | slotConflict
  | badIndex
  | badRequest
  deriving DecidableEq, Repr

def ResponseCode.code : ResponseCode → Byte
  | .ok => 0
  | .wrongState => 1
  | .notReady => 2
  | .notPermitted => 3
  | .slotConflict => 4
  | .badIndex => 5
  | .badRequest => 6

/-- The stage code of the own intent; 0 is NONE (Table 10-4). -/
def intentStageCode : Option OwnIntent → Nat
  | .none => 0
  | some ⟨_, .held⟩ => 1
  | some ⟨_, .queued⟩ => 2
  | some ⟨_, .window _⟩ => 3

/-! ### Layouts of the records (Tables 10-7 and 10-8) -/

/-- The point mask of a record: bit i for id i (Table 10-7). -/
def pointMask (points : List Nat) : Nat :=
  (List.range 16).foldl (fun acc i => acc + bitOf (points.contains i) i) 0

/-- A fault record as a FAULT notice and a READ_LOG response carry it (Table 10-7). -/
def recordBytes (r : Record) : List Byte :=
  beBytes 1 r.index ++ beBytes 1 r.kind.code ++ beBytes 4 r.rack.s.toNat ++ beBytes 4 r.rack.ns ++
  beBytes 6 r.uptime.toNat ++ beBytes 1 r.step ++ beBytes 1 r.phase.code ++
  beBytes 2 r.iteration ++ beInt 4 r.value ++ beBytes 2 (pointMask r.points) ++
  match r.context with
  | .none => beBytes 1 0 ++ beBytes 2 0 ++ beBytes 2 0 ++ beBytes 2 0
  | some c => beBytes 1 1 ++ beInt 2 c.mainMv ++ beInt 2 c.mainMa ++ beInt 2 c.temp

/-- A RUN notice's payload (Table 10-8). -/
def runNoticeBytes (n : RunNotice) : List Byte :=
  beBytes 4 n.rack.s.toNat ++ beBytes 4 n.rack.ns ++ beBytes 1 n.verdict.code ++
  beBytes 1 n.cause.code ++ beBytes 1 n.step ++ beBytes 1 n.phase.code ++ beBytes 2 n.iteration ++
  beBytes 1 n.recordCount ++ beBytes 1 n.storedCount ++ beBytes 2 n.lostCount ++
  beBytes 1 (bitOf n.logFull 0 + bitOf n.clamped 1)

end Sys2Proof.Machine
end

