-- ==== Sys2Proof/Machine/Flags.lean ====
section
/-! DEFINITION. The flags and conditions that the blocks compute from one another: the loaded values
in force, the governing step and its profile, active run, board-on, supervision in force, VIEW_STALE,
the stages of the outputs, and the flag bytes of the frames and responses. -/

namespace Sys2Proof.Machine

/-- The loaded values that the blocks work from (R176). -/
def State.cfg (s : State) : LoadedConfig := s.cfl.config.getD LoadedConfig.blank

/-- The step record at an index of the plan (R1). -/
def State.stepAt (s : State) (n : Nat) : StepRec := s.cfg.steps.getD n StepRec.blank

/-- The step in progress or being entered (R6). -/
def State.theStep (s : State) : StepRec := s.stepAt s.rcu.step

/-- The step that supplies profile and policy: the governing step, or step 0 before it has
started (R6, R89, R132). -/
def State.policyStep (s : State) : StepRec := s.stepAt (s.rcu.governing.getD 0)

/-- The step index is the last of the plan (R19). -/
def State.lastStep (s : State) : Bool := decide (s.cfg.steps.length ≤ s.rcu.step + 1)

/-- An active run: CLAIMING, WAITING, RUNNING or PAUSED (0.6). -/
def RunState.active : RunState → Bool
  | .claiming => true
  | .waiting => true
  | .running => true
  | .paused => true
  | .idle => false
  | .ended => false
  | .isolated => false

/-- The board-on condition of R17. -/
def State.boardOnNow (s : State) : Bool :=
  s.rcu.run.active && decide (0 < s.sou.target0) && decide (s.rcu.phase ≠ .off)

/-- Heartbeat, rate and reset supervision are in force (R124). -/
def State.supervising (s : State) : Bool := s.rcu.boardOn && !s.rcu.blanking

/-- The active profile (R89). -/
def State.profile (s : State) : Option Profile :=
  if s.rcu.run.active then some (s.cfg.profiles.get s.policyStep.profile) else .none

/-- A watch point id is in the active check set, which is empty where no profile is active (R89): bit i
of the mask stands for id i (log entry 42). -/
def State.checked (s : State) (id : Nat) : Bool :=
  match s.profile with
  | .none => false
  | some p => p.checkSet.getLsbD id

/-- The OUT0 set-point of a step before the main maximum is applied (R4). -/
def rawSetPoint (c : LoadedConfig) (t : StepRec) : Int :=
  match t.kind with
  | .margin => (c.mainNominal : Int) * (10000 + t.marginBp) / 10000
  | .hold => t.mainMv
  | .cycle => t.mainMv

/-- The OUT0 set-point of a step (R4). -/
def setPoint (c : LoadedConfig) (t : StepRec) : Nat :=
  (min (rawSetPoint c t) (c.mainMaxMv : Int)).toNat

/-- The set-point was limited to the main maximum (R4). -/
def setPointClamped (c : LoadedConfig) (t : StepRec) : Bool :=
  decide ((c.mainMaxMv : Int) < rawSetPoint c t)

/-- The level that the current phase asks of OUT0 (R10); no phase, no level. -/
def State.phaseLevel (s : State) : Option Nat :=
  match s.rcu.phase with
  | .none => .none
  | .off => some 0
  | .settling => some (setPoint s.cfg s.theStep)
  | .reaching => some (setPoint s.cfg s.theStep)
  | .timing => some (setPoint s.cfg s.theStep)
  | .powering => some (setPoint s.cfg s.theStep)
  | .on => some (setPoint s.cfg s.theStep)

/-- The power-on sequence of the current phase is in progress: its arrival was a power-on and neither
the phase nor the step has ended (R11, R15, R42). -/
def State.poweringOn (s : State) : Bool :=
  (decide (s.rcu.run = .running) || decide (s.rcu.run = .paused)) &&
    (decide (s.rcu.phase = .settling) || decide (s.rcu.phase = .powering)) &&
    s.rcu.powerOnPending && s.rcu.arrivalTaken

/-- The line of role POWER_GOOD, when one is configured (R121). -/
def State.powerGoodLine (s : State) : Option (Fin 4) :=
  let is (i : Fin 4) : Bool := match (s.lines.get i).sup with
    | .powerGood _ => true
    | _ => false
  if is 0 then some 0 else if is 1 then some 1 else if is 2 then some 2
  else if is 3 then some 3 else .none

/-- VIEW_STALE: at least one entry of the peer view is STALE (R52). -/
def State.viewStale (s : State) : Bool := s.bgu.peers.any fun p => !p.fresh

/-- The rack budget B in W (R48). -/
def State.rackBudget (s : State) : Nat := 400 + 200 * s.code.toNat

/-- A channel's stage is ON while its target or its present level is above 0 (R32). -/
def stageOn (target level : Nat) : Bool := decide (0 < target ∨ 0 < level)

/-- The flag byte of a BEACON (Table 10-6). -/
def State.beaconFlags (s : State) : Nat :=
  bitOf s.bgu.slotConflict 0 + bitOf s.viewStale 1 + bitOf s.tmu.settled 2 +
    bitOf (!s.sou.sensePresent) 3 + bitOf s.fcu.logFull 4 + bitOf s.rcu.clamped 5

/-- Byte 25 of STATUS page 0: the stages of OUT2, OUT1 and OUT0 in bits 2 to 0 (log entry 12), the
button and the supply sense (Table 10-9). The bits that the table does not name are 0 (DESIGN CHOICE,
log entry 43). -/
def State.outputFlags (s : State) : Nat :=
  bitOf (stageOn s.sou.target0 s.sou.level0) 0 + bitOf (stageOn s.sou.target1 s.sou.level1) 1 +
    bitOf (stageOn s.sou.target2 s.sou.level2) 2 + bitOf s.sou.pressed 3 +
    bitOf (!s.sou.sensePresent) 4

/-- The overdraw limit in dW for a committed claim in W (R67). -/
def overdrawLimit (claim : Nat) : Nat := claim * 10 + claim * 10 / 8

/-- The effect of a command while no reset holds the station; in reset no block acts (R175). -/
def State.live (s : State) (f : State → State) : Host.Outcome State Fault Refusal :=
  if s.inReset then .next s else .next (f s)

end Sys2Proof.Machine
end

