-- ==== Sys2Proof/Machine/Ops.lean ====
section
/-! DEFINITION. The shared operations of the Bus Interface's outbox, the Supply Output Unit, the lanes
and lines as the board-on and blanking flags switch them, the Budget Unit's claim, and the Fault
Capture Unit's log. -/

namespace Sys2Proof.Machine

/-! ### Outbox (R161 to R164) -/

/-- An attempt of a class's frame is under way. -/
def Bif.attempting (b : Bif) (c : FrameClass) : Bool :=
  match b.attempt with
  | .none => false
  | some a => decide (a.cls = c)

/-- A frame enters the BUDGET class: it replaces the queued frame, or waits for the frame in attempt
to finish (R161, R163). A frame that enters a class has bus-error run 0 (R162). -/
def Bif.queueBudget (f : BudgetFrame) (b : Bif) : Bif :=
  if b.attempting .budget then { b with budgetNext := some f }
  else { b with budget := some ⟨f, 0⟩ }

/-- A BEACON enters its class (R163, R164). -/
def Bif.queueBeacon (b : Bif) : Bif :=
  if b.attempting .beacon then { b with beaconNext := true }
  else { b with beacon := some ⟨(), 0⟩ }

/-- A notice enters its class, or is dropped and counted when eight stand there (R163). -/
def Bif.queueNotice (n : Notice) (b : Bif) : Bif :=
  if b.notices.length < 8 then { b with notices := b.notices ++ [⟨n, 0⟩] }
  else { b with noticeDrops := satInc 65535 b.noticeDrops }

/-- A response enters its class; step 1 of R167 has found room for it. -/
def Bif.queueResponse (r : Response) (b : Bif) : Bif :=
  { b with responses := b.responses ++ [⟨r, 0⟩] }

/-- The newer frames that waited for an attempt of their class stand in it when the attempt is lost
or aborted, or alone in it when the attempt completes (R161). -/
def Bif.admitNewer (b : Bif) : Bif :=
  { b with
    budget := match b.budgetNext with
      | .none => b.budget
      | some f => some ⟨f, 0⟩
    budgetNext := .none
    beacon := if b.beaconNext then some ⟨(), 0⟩ else b.beacon
    beaconNext := false }

/-- An INTENT whose intent has been withdrawn is no longer the own intent's frame (R161). -/
def BudgetFrame.disowned : BudgetFrame → BudgetFrame
  | .intent c _ => .intent c false
  | .commit => .commit

/-- The queued INTENTs stop being the own intent's frame (R161). -/
def Bif.disown (b : Bif) : Bif :=
  { b with budget := b.budget.map fun q => { q with frame := q.frame.disowned }
           budgetNext := b.budgetNext.map BudgetFrame.disowned }

/-! ### Supply outputs (Chapter 2) -/

/-- The upper limit of OUT0 (R33). -/
def limit0 (c : LoadedConfig) : Nat := min c.mainMaxMv 13200

/-- The upper limit of OUT1 (R33). -/
def limit1 (c : LoadedConfig) : Nat := min c.standbyMaxMv 5500

/-- The output-limit timer after a change of its input or of OUT0's present level: it counts while
the input is asserted and OUT0 is above 0 mV, and is IDLE otherwise (R43). -/
def Sou.syncLimit (u : Sou) : Sou :=
  { u with limit :=
      if u.level0 = 0 ∨ u.limitInput = false then .idle
      else match u.limit with
        | .idle => .counting 0
        | .counting n => .counting n
        | .expired => .expired }

/-- Targets for all three channels, taken at slew (R33, R34). -/
def Sou.atSlew (c : LoadedConfig) (t0 t1 t2 slew : Nat) (u : Sou) : Sou :=
  let x0 := min t0 (limit0 c)
  let x1 := min t1 (limit1 c)
  let x2 := min t2 100
  { u with target0 := x0, target1 := x1, target2 := x2, slew := slew, level2 := x2
           level0 := if slew = 0 then x0 else u.level0
           level1 := if slew = 0 then x1 else u.level1 }.syncLimit

/-- A target for OUT0 alone, taken at slew (R15, R34). -/
def Sou.atSlew0 (c : LoadedConfig) (t0 slew : Nat) (u : Sou) : Sou :=
  let x0 := min t0 (limit0 c)
  { u with target0 := x0, slew := slew
           level0 := if slew = 0 then x0 else u.level0 }.syncLimit

/-- A target for OUT0, taken at once (R34). -/
def Sou.atOnce0 (c : LoadedConfig) (t0 : Nat) (u : Sou) : Sou :=
  { u with target0 := min t0 (limit0 c), level0 := min t0 (limit0 c) }.syncLimit

/-- A target for OUT1, taken at once (R34). -/
def Sou.atOnce1 (c : LoadedConfig) (t1 : Nat) (u : Sou) : Sou :=
  { u with target1 := min t1 (limit1 c), level1 := min t1 (limit1 c) }

/-- A target for OUT2, taken at once (R34). -/
def Sou.atOnce2 (t2 : Nat) (u : Sou) : Sou :=
  { u with target2 := min t2 100, level2 := min t2 100 }

/-- The forced zero of OUT0: 0 mV at once, the button released, a press cancelled (R38). -/
def Sou.forceZero (u : Sou) : Sou :=
  { u with target0 := 0, level0 := 0, pressed := false, pressTimer := .none }.syncLimit

/-- OUT1 and OUT2 to 0 at once. -/
def Sou.zero12 (u : Sou) : Sou := { u with target1 := 0, level1 := 0, target2 := 0, level2 := 0 }

/-- PAUSE: each channel's present level becomes its target, at once (R37). -/
def Sou.hold (c : LoadedConfig) (u : Sou) : Sou :=
  ((u.atOnce0 c u.level0).atOnce1 c u.level1).atOnce2 u.level2

/-- OUT1 at its safe source (R39). -/
def Sou.safe1 (c : LoadedConfig) (u : Sou) : Sou :=
  match c.out1Safe with
  | .zero => u.atOnce1 c 0
  | .hold => u.atOnce1 c u.level1
  | .value => u.atOnce1 c c.out1SafeMv

/-- OUT2 at its safe source (R39). -/
def Sou.safe2 (c : LoadedConfig) (u : Sou) : Sou :=
  match c.out2Safe with
  | .zero => u.atOnce2 0
  | .hold => u.atOnce2 u.level2
  | .value => u.atOnce2 c.out2SafePct

/-- The outputs at a run end: OUT0 forced to 0, OUT1 and OUT2 to 0 for FIXTURE_REMOVED and
SUPPLY_LOST and to their safe sources for every other cause (R28, R38, R39). -/
def Sou.runEnd (c : LoadedConfig) (cause : EndCause) (u : Sou) : Sou :=
  if cause = .fixtureRemoved ∨ cause = .supplyLost then u.forceZero.zero12
  else (u.forceZero.safe1 c).safe2 c

/-- A press command: the line is asserted and the timer started, unless OUT0 stands at 0 mV
(R41). -/
def Sou.press (ms : Nat) (u : Sou) : Sou :=
  if u.level0 = 0 then u else { u with pressed := true, pressTimer := some ms }

/-- One move of a present level toward its target: it never passes it and lands on it (R35). -/
def approach (level target slew : Nat) : Nat :=
  if level ≤ target then (if target - level ≤ slew then target else level + slew)
  else (if level - target ≤ slew then target else level - slew)

/-- One millisecond of the output-limit count (R43). -/
def LimitTimer.tick : LimitTimer → LimitTimer
  | .idle => .idle
  | .counting n => .counting (min (n + 1) 10)
  | .expired => .expired

/-- The output tick of the channels, with one millisecond of the press timer and of the output-limit
count (R35, R41, R43). A count that reaches 10 ms on the tick on which OUT0 reaches 0 mV ends IDLE:
the manual orders the two neither way (DESIGN CHOICE, log entry 38). -/
def Sou.tick (u : Sou) : Sou :=
  { u with pressTimer := u.pressTimer.tick, limit := u.limit.tick
           level0 := approach u.level0 u.target0 u.slew
           level1 := approach u.level1 u.target1 u.slew }.syncLimit

/-- The tick lands OUT0 on its target (R36). -/
def Sou.tickLands (u : Sou) : Bool :=
  decide (u.level0 ≠ u.target0) && decide (u.tick.level0 = u.target0)

/-! ### Lanes and lines under the board-on and blanking flags -/

/-- Entry to SEARCH (R109). -/
def Lane.enterSearch (l : Lane) : Lane :=
  { l with lock := .search, sign := .undetermined, searchRun := 0, unknownRun := 0,
           markErrorRun := 0, framePosition := 0, distance := .none }

/-- A lane follows the board-on flag: an ENABLED lane leaves OFF while it is set, and every lane is
OFF while it is clear (R109). -/
def Lane.sync (on enabled : Bool) (l : Lane) : Lane :=
  match l.lock with
  | .off => if on && enabled then l.enterSearch else l
  | .search => if on then l else { l with lock := .off }
  | .codeLock => if on then l else { l with lock := .off }
  | .frameLock => if on then l else { l with lock := .off }

/-- A line's supervision follows the flags: HEARTBEAT and RATE lines are armed and disarmed (R124 to
R126), a POWER_GOOD line is OFF while the board is off (R129), and a RESET_WATCH line is CLEAR while
it is not supervised (R130). -/
def Line.sync (on force : Bool) (hbMaxMs : Nat) (l : Line) : Line :=
  match l.sup with
  | .unused => l
  | .heartbeat .disarmed =>
    if force then { l with sup := .heartbeat .armed, timer := some hbMaxMs } else l
  | .heartbeat .armed =>
    if force then l else { l with sup := .heartbeat .disarmed, timer := .none }
  | .heartbeat .hung =>
    if force then l else { l with sup := .heartbeat .disarmed, timer := .none }
  | .rate false o =>
    if force then { l with sup := .rate true o, windowCount := 0, timer := some 1000 } else l
  | .rate true o => if force then l else { l with sup := .rate false o, timer := .none }
  | .powerGood _ => if on then l else { l with sup := .powerGood .off, timer := .none }
  | .resetWatch _ => if force then l else { l with sup := .resetWatch false }

/-- The board-on flag is computed anew, and the lanes and lines follow it and the blanking flag in
the same event (R17, R109, R124). -/
def State.refresh (s : State) : State :=
  let on := s.boardOnNow
  let force := on && !s.rcu.blanking
  { s with
    rcu := { s.rcu with boardOn := on }
    lanes := s.lanes.mapIdx fun i l => l.sync on (s.cfg.laneEnable.getLsbD i.val)
    lines := s.lines.mapIdx fun i l => l.sync on force (s.cfg.lines.get i).hbMaxMs }

/-- The blanking flag is set, and the Window Checker returns every point to IN with both runs at 0
(R18, R99). The caller refreshes. -/
def State.setBlanking (s : State) : State :=
  { s with
    rcu := { s.rcu with blanking := true }
    wck := { s.wck with points := s.wck.points.map fun w =>
      { w with out := false, excursionRun := 0, returnRun := 0 } } }

/-- The first state of a line's role (Table 7-3). -/
def Supervision.first : Supervision → Supervision
  | .unused => .unused
  | .heartbeat _ => .heartbeat .disarmed
  | .rate _ _ => .rate false false
  | .powerGood _ => .powerGood .off
  | .resetWatch _ => .resetWatch false

/-- The supervision state at which a role takes effect (R121, Table 7-3). -/
def Role.first : Role → Supervision
  | .unused => .unused
  | .heartbeat => .heartbeat .disarmed
  | .rate => .rate false false
  | .powerGood => .powerGood .off
  | .resetWatch => .resetWatch false

/-! ### The claim (Chapter 3) -/

/-- A COMMIT is queued (R51). It carries the committed claim of its transmission. -/
def State.queueCommit (s : State) : State :=
  { s with bus := s.bus.queueBudget .commit }

/-- The two conditions of R57 under which an INTENT may be queued. -/
def State.mayAnnounce (s : State) : Bool := s.tmu.settled && decide (s.bgu.listening = 0)

/-- A HELD intent is queued as an INTENT once both conditions of R57 hold. -/
def State.promoteIntent (s : State) : State :=
  match s.bgu.intent with
  | some ⟨w, .held⟩ =>
    if s.mayAnnounce then
      { s with bgu := { s.bgu with intent := some ⟨w, .queued⟩ }
               bus := s.bus.queueBudget (.intent w true) }
    else s
  | some ⟨_, .queued⟩ => s
  | some ⟨_, .window _⟩ => s
  | .none => s

/-- The time-settled flag is set, and a HELD intent may be queued on it (R57, R157). A station that is
settled already stays as it is. -/
def State.becomeSettled (s : State) : State :=
  if s.tmu.settled then s
  else { s with tmu := { s.tmu with settled := true } }.promoteIntent

/-- The own intent is withdrawn, by its stage (R64). -/
def State.withdrawIntent (s : State) : State :=
  match s.bgu.intent with
  | .none => s
  | some ⟨_, .held⟩ => { s with bgu := { s.bgu with intent := .none } }
  | some ⟨_, .queued⟩ =>
    { s with bgu := { s.bgu with intent := .none }
             bus := s.bus.disown.queueBudget .commit }
  | some ⟨_, .window _⟩ =>
    { s with bgu := { s.bgu with intent := .none, window := .none }
             bus := s.bus.queueBudget .commit }

/-- The asking of a claim (R57): an open own intent is withdrawn first. -/
def State.askClaim (w : Nat) (s : State) : State :=
  let s := s.withdrawIntent
  { s with bgu := { s.bgu with intent := some ⟨w, .held⟩ } }.promoteIntent

/-- The committed claim takes a value: the overdraw sample count starts again and a COMMIT is queued
(R51, R60, R66, R67). -/
def State.commitClaim (w : Nat) (s : State) : State :=
  { s with bgu := { s.bgu with committed := w, overdrawSamples := 0 } }.queueCommit

/-- The pending lower claim, if any, is committed at an arrival (R66). -/
def State.commitPending (s : State) : State :=
  match s.bgu.pendingLower with
  | .none => s
  | some w => { s with bgu := { s.bgu with pendingLower := .none } }.commitClaim w

/-- The claim at a run end: an own intent withdrawn with its window, WAITING left, the accumulator at 0, and claim 0
committed unless it already was (R66). -/
def State.releaseClaim (s : State) : State :=
  let s := s.withdrawIntent
  let s := { s with bgu := { s.bgu with
    window := .none, waitingSince := .none, accumulator := 0 } }
  if s.bgu.committed = 0 then s else s.commitClaim 0

/-- A retry begins: WAITING is left, short of its limit, and the same claim is asked again (R62,
R63). -/
def State.beginRetry (s : State) : State :=
  let s := { s with
    bgu := { s.bgu with waitingSince := .none, accumulator := min s.bgu.accumulator 599999 }
    rcu := { s.rcu with run := .claiming } }
  s.askClaim s.theStep.claimW

/-- A retry cause: it begins a retry only in WAITING (R62). -/
def State.retryCause (s : State) : State :=
  if s.bgu.waitingSince.isSome then s.beginRetry else s

/-- An intent precedes another: by intent time, then by slot (R58). -/
def precedes (tx : RackTime) (slotX : Nat) (ty : RackTime) (slotY : Nat) : Bool :=
  earlier tx ty || (decide (tx = ty) && decide (slotX < slotY))

/-- What an entry adds to the rack sum: its open intent's claim when that intent precedes the own
intent, and its committed claim otherwise (R59). -/
def Peer.counts (own : RackTime) (slot : Nat) (p : Peer) : Nat :=
  match p.intent with
  | .none => p.committed
  | some i => if precedes i.time p.slot own slot then i.claim else p.committed

/-- The rack sum S in W (R59). -/
def State.rackSum (claim : Nat) (time : RackTime) (s : State) : Nat :=
  claim + (s.bgu.peers.map (Peer.counts time s.slot.toNat)).sum

/-! ### The fault log (R146, R147) -/

/-- A record is written: counted, and stored with a FAULT notice while fewer than 64 stand in the
log, or lost and counted (R146, R148). A write that brings the count to max_faults in COMPLETING
turns the closing into ENDING, which stands for the report of FAULT_LIMIT (R147). -/
def State.writeRecord (r : Record) (s : State) : State :=
  let n := s.fcu.recordCount + 1
  let mode := if n = s.cfg.maxFaults ∧ s.fcu.mode = .completing then .ending else s.fcu.mode
  if s.fcu.log.length < 64 then
    let stored := { r with index := s.fcu.log.length }
    { s with
      fcu := { s.fcu with log := s.fcu.log ++ [stored], recordCount := n, mode := mode }
      bus := s.bus.queueNotice (.fault stored) }
  else
    { s with fcu := { s.fcu with recordCount := n, mode := mode
                                 lostCount := satInc 65535 s.fcu.lostCount, logFull := true } }

/-- Every open group is closed in opening order (R144, R145). -/
def State.closeGroups (s : State) : State :=
  s.fcu.groups.foldl (fun s g => s.writeRecord g.record)
    { s with fcu := { s.fcu with groups := [] } }

/-- A final closing in a mode (R145). -/
def State.finalClosing (mode : ClosingMode) (s : State) : State :=
  { s with fcu := { s.fcu with mode := mode } }.closeGroups

/-- A point id inserted into an ascending list that does not hold it (R141). -/
def insertPoint (p : Nat) : List Nat → List Nat
  | [] => [p]
  | q :: qs => if p < q then p :: q :: qs else if p = q then q :: qs else q :: insertPoint p qs

/-- The points of a raise join a list of points (R141). -/
def joinPoints (points : List Nat) (into : List Nat) : List Nat :=
  points.foldl (fun acc p => insertPoint p acc) into

/-- A raise joins the open group of its kind, or opens one at the end of the list (R140, R141). -/
def State.joinOrOpen (r : Record) (s : State) : State :=
  let groups :=
    if s.fcu.groups.any fun g => decide (g.record.kind = r.kind) then
      s.fcu.groups.map fun g =>
        if g.record.kind = r.kind then
          { g with record := { g.record with points := joinPoints r.points g.record.points } }
        else g
    else s.fcu.groups ++ [⟨r, s.cfg.coalesceMs⟩]
  { s with fcu := { s.fcu with groups := groups } }

/-- The context of a raise, as the scanner values that it reads show the board (R137). -/
def State.contextFrom (asc : Asc) (s : State) : Option Context :=
  if s.sou.level0 = 0 then .none
  else some
    { mainMv := (asc.points.get 0).y, mainMa := (asc.points.get 1).y
      temp := match s.cfg.contextPoint with
        | .none => 0
        | some p => (asc.points.get p).y }

/-- The record of a raise: its kind, points and value, and the circumstances at its acceptance
(R133, R137, R139). The value is stored as a signed 32-bit quantity. -/
def State.formRecord (asc : Asc) (kind : FaultKind) (points : List Nat) (value : Int)
    (s : State) : Record :=
  { index := 0, kind := kind, rack := s.tmu.rack, uptime := s.tmu.uptime, step := s.rcu.step
    phase := s.rcu.phase, iteration := s.rcu.iteration, points := points
    value := min value 2147483647, context := s.contextFrom asc }

end Sys2Proof.Machine
end

