-- ==== Sys2Proof/Machine/Run.lean ====
section
/-! DEFINITION. The shared operations of the Run Controller (Chapter 1): the run end and isolation,
arrivals, the power-on sequence, the phases of a step, step entry, start and end, and the fault
policies with the Fault Capture Unit's taking of a raise (Chapter 8). -/

namespace Sys2Proof.Machine

/-! ### Timers and lines of a step -/

/-- Every step timer stopped (R7, R19, R28). -/
def Rcu.stopTimers (r : Rcu) : Rcu :=
  { r with duration := .none, reach := .none, off := .none, on := .none, blankingTimer := .none }

/-- No completion is held for RESUME or for the end of POWERING. -/
def Rcu.dropHeld (r : Rcu) : Rcu :=
  { r with heldPowerOn := false, heldReach := false, heldOn := false }

/-- The power-good wait of a line starts, or ends at once on a line that is HIGH (R127). -/
def Line.startWait (timeout : Nat) (now : Uptime) (l : Line) : Line :=
  if l.high then
    { l with sup := .powerGood (.up (l.riseUptime.getD now)), timer := .none }
  else { l with sup := .powerGood .waiting, timer := some timeout }

/-- A wait whose power-on sequence ended first is abandoned while the board stays on (R128). -/
def Line.abandonWait (now : Uptime) (l : Line) : Line :=
  if l.sup = .powerGood .waiting then
    { l with timer := .none
             sup := if l.high then .powerGood (.up (l.riseUptime.getD now))
                    else .powerGood .unseen }
  else l

/-- At a step start without a power-on while the board is on, a POWER_GOOD line leaves OFF by its
level (R129). -/
def Line.joinPowered (now : Uptime) (l : Line) : Line :=
  if l.sup = .powerGood .off then
    { l with sup := if l.high then .powerGood (.up (l.riseUptime.getD now))
                    else .powerGood .unseen }
  else l

/-! ### Run end (R28) and isolation (R30) -/

/-- The RUN notice of a verdict and cause, with the state of the moment (R172). -/
def State.runNotice (v : Verdict) (c : EndCause) (s : State) : RunNotice :=
  { rack := s.tmu.rack, verdict := v, cause := c, step := s.rcu.step, phase := s.rcu.phase
    iteration := s.rcu.iteration, recordCount := s.fcu.recordCount
    storedCount := s.fcu.log.length, lostCount := s.fcu.lostCount, logFull := s.fcu.logFull
    clamped := s.rcu.clamped }

/-- A RUN notice is queued (R28, R30, R172). -/
def State.queueRunNotice (v : Verdict) (c : EndCause) (s : State) : State :=
  { s with bus := s.bus.queueNotice (.run (s.runNotice v c)) }

/-- The run end, in the order of R28; the open groups have been closed before. -/
def State.runEnd (v : Verdict) (c : EndCause) (s : State) : State :=
  let s := { s with rcu := { s.rcu with verdict := v, cause := c } }
  let s := { s with sou := s.sou.runEnd s.cfg c }
  let s := s.releaseClaim
  let s := { s with
    rcu := { s.rcu.stopTimers.dropHeld with blanking := false, boardOn := false }
    bgu := { s.bgu with pendingLower := .none }
    wck := { s.wck with reach := .none } }
  let s := s.queueRunNotice v c
  { s with
    rcu := { s.rcu with run := .ended, governing := .none }
    fcu := { s.fcu with mode := .none } }.refresh

/-- The run end that follows a closing in COMPLETING: FAULT_LIMIT when a write of the closing
reached max_faults, and otherwise COMPLETED with the verdict of the record count (R19, R147). -/
def State.finishCompletion (s : State) : State :=
  if s.fcu.mode = .ending then s.runEnd .fail .faultLimit
  else if s.fcu.recordCount = 0 then s.runEnd .pass .completed
  else s.runEnd .fail .completed

/-- The run completes at the end of its last step (R19, R145). -/
def State.completeRun (s : State) : State := (s.finalClosing .completing).finishCompletion

/-- FAULT_LIMIT while the run proceeds: final closing and run end (R27, R145, R147). -/
def State.faultLimitEnd (s : State) : State := (s.finalClosing .ending).runEnd .fail .faultLimit

/-- A record written in closing mode NONE, with the FAULT_LIMIT that its write may report (R142,
R143, R147). -/
def State.writeInRun (r : Record) (s : State) : State :=
  let s := s.writeRecord r
  if s.fcu.recordCount = s.cfg.maxFaults then s.faultLimitEnd else s

/-- The Budget Unit at entry to ISOLATED (R65). -/
def State.isolateClaim (s : State) : State :=
  { s with
    bus := s.bus.disown
    bgu := { s.bgu with intent := .none, window := .none, waitingSince := .none, accumulator := 0,
                        pendingLower := .none } }.commitClaim 0

/-- The closing of an active run that isolation ends: the groups, then the BUS_LOST record with the
circumstances and the supply level that the report found, then the RUN notice (R30, R145, R172). -/
def State.busLostClosing (ms : Nat) (s : State) : State :=
  let r := s.formRecord s.asc .busLost [] ms
  ((s.finalClosing .ending).writeRecord r).queueRunNotice .aborted .busLost

/-- Entry to ISOLATED, from any run state (R30). `ms` is the uptime since the last success. -/
def State.enterIsolated (ms : Nat) (s : State) : State :=
  let active := s.rcu.run.active
  let s := if active then s.busLostClosing ms else s
  let s := { s with sou := s.sou.forceZero.zero12 }
  let s := s.isolateClaim
  { s with
    rcu := { s.rcu.stopTimers.dropHeld with
      run := .isolated, governing := .none, verdict := .none, cause := .none, blanking := false,
      boardOn := false, isolatedRun := active }
    wck := { s.wck with reach := .none }
    fcu := { s.fcu with mode := .none } }.refresh

/-- Departure from ISOLATED at the first successful transmission (R30). -/
def State.leaveIsolated (s : State) : State :=
  if s.rcu.isolatedRun then
    { s with rcu := { s.rcu with run := .ended, verdict := .aborted, cause := .busLost
                                 isolatedRun := false } }
  else
    { s with rcu := { s.rcu with run := .idle, step := 0, phase := .none, iteration := 0 } }

/-! ### Arrivals and the power-on sequence (R10, R11, R15, R16, R18) -/

/-- The blanking flag clears, and the supervision that it suspended is armed (R18, R124). -/
def State.clearBlanking (s : State) : State :=
  { s with rcu := { s.rcu with blanking := false, blankingTimer := .none } }.refresh

/-- The blanking timer starts at the arrival; with blanking_ms 0 the flag clears there (R18). -/
def State.startBlanking (s : State) : State :=
  if s.theStep.blankingMs = 0 then s.clearBlanking
  else { s with rcu := { s.rcu with blankingTimer := some s.theStep.blankingMs } }

/-- Entry to TIMING (R13). -/
def State.enterTiming (s : State) : State :=
  { s with rcu := { s.rcu with phase := .timing, reach := .none
                               duration := some (s.theStep.durationS * 1000) } }

/-- Entry to REACHING: the reach timer starts and the reach request opens (R12, R101). -/
def State.enterReaching (s : State) : State :=
  { s with
    rcu := { s.rcu with phase := .reaching, reach := some (s.theStep.reachTimeoutS * 1000) }
    wck := { s.wck with reach := some (ReachRequest.mk s.theStep.reachPoint s.theStep.reachTarget
      s.theStep.reachBand) } }

/-- SETTLING or POWERING ends: the phase becomes REACHING or TIMING, or ON (R11, R15). -/
def State.advancePhase (s : State) : State :=
  match s.rcu.phase with
  | .settling => if s.theStep.reachPresent then s.enterReaching else s.enterTiming
  | .powering => { s with rcu := { s.rcu with phase := .on } }
  | .none => s
  | .reaching => s
  | .timing => s
  | .off => s
  | .on => s

/-- The power-good wait of a line starts (R127). -/
def State.startWait (i : Fin 4) (s : State) : State :=
  let line := (s.lines.get i).startWait (s.cfg.lines.get i).pgTimeoutMs s.tmu.uptime
  { s with lines := s.lines.set i line }

/-- The arrival of a power-on: the button press, or the power-good wait, or neither and the phase
ends (R11, R127). -/
def State.powerOnArrival (s : State) : State :=
  if 0 < s.theStep.pressMs then { s with sou := s.sou.press s.theStep.pressMs }
  else match s.powerGoodLine with
    | .none => s.advancePhase
    | some i => if (s.lines.get i).high then (s.startWait i).advancePhase else s.startWait i

/-- The arrival of SETTLING or POWERING beyond its timers. -/
def State.arrivalSequence (s : State) : State :=
  if s.rcu.powerOnPending then s.powerOnArrival else s.advancePhase

/-- An arrival is taken (R10): the pending lower claim is committed (R66), and in SETTLING and
POWERING the timers of the arrival start and the power-on sequence begins or the phase ends. -/
def State.arrive (s : State) : State :=
  let s := { s with rcu := { s.rcu with arrivalTaken := true } }.commitPending
  match s.rcu.phase with
  | .settling => s.startBlanking.arrivalSequence
  | .powering =>
    let s := s.startBlanking
    { s with rcu := { s.rcu with on := some s.theStep.onMs } }.arrivalSequence
  | .none => s
  | .reaching => s
  | .timing => s
  | .off => s
  | .on => s

/-- A landing report: it is the arrival when the run is RUNNING, none has been taken in this phase,
and the level is the phase level (R10). -/
def State.takeArrival (s : State) : State :=
  if s.rcu.run = .running ∧ s.rcu.arrivalTaken = false ∧ s.phaseLevel = some s.sou.level0 then
    s.arrive
  else s

/-- The landing report of a command that leaves OUT0 on its target (R36). -/
def State.commandLanding (s : State) : State :=
  if s.sou.level0 = s.sou.target0 then s.takeArrival else s

/-! ### Phases of a CYCLE step (R14 to R16) -/

/-- Entry to OFF: OUT0 forced to 0 mV, the off timer started, and the arrival of OFF taken (R14). -/
def State.enterOff (s : State) : State :=
  let s := { s with sou := s.sou.forceZero
                    rcu := { s.rcu with phase := .off, arrivalTaken := false, heldOn := false } }
  let s := s.refresh
  { s with rcu := { s.rcu with off := some s.theStep.offMs } }.takeArrival

/-- Entry to POWERING (R15). -/
def State.enterPowering (s : State) : State :=
  let sp := setPoint s.cfg s.theStep
  let s := s.setBlanking
  let s := { s with sou := s.sou.atSlew0 s.cfg sp s.theStep.slew
                    rcu := { s.rcu with phase := .powering, arrivalTaken := false
                                        powerOnPending := decide (0 < sp) } }
  s.refresh.commandLanding

/-! ### Step start, entry and end (R7, R9, R19) -/

/-- The start of a HOLD or MARGIN step (R9). -/
def State.startSettling (s : State) : State :=
  let t := s.theStep
  let sp := setPoint s.cfg t
  let pend := decide (s.sou.level0 = 0) && decide (0 < sp)
  let s := s.setBlanking
  let s := { s with
    sou := s.sou.atSlew s.cfg sp t.standbyMv t.fanPct t.slew
    rcu := { s.rcu with run := .running, phase := .settling, powerOnPending := pend
                        governing := some s.rcu.step } }
  let s := s.refresh
  let s := if s.rcu.boardOn && !pend then
      { s with lines := s.lines.map (Line.joinPowered s.tmu.uptime) }
    else s
  s.commandLanding

/-- The start of a CYCLE step: OUT1 and OUT2 take the step's targets at its slew, and the step
begins in OFF, whose entry takes OUT0 to 0 mV (R9, R14, log entry 13). -/
def State.startCycle (s : State) : State :=
  let t := s.theStep
  let s := s.setBlanking
  let s := { s with
    sou := s.sou.atSlew s.cfg 0 t.standbyMv t.fanPct t.slew
    rcu := { s.rcu with run := .running, phase := .off, governing := some s.rcu.step } }
  s.enterOff

/-- The step of the step index starts (R9). -/
def State.startStep (s : State) : State :=
  match s.theStep.kind with
  | .cycle => s.startCycle
  | .hold => s.startSettling
  | .margin => s.startSettling

/-- Entry to step `n` (R7): it starts at once unless it claims more than is committed. -/
def State.enterStep (n : Nat) (s : State) : State :=
  let t := s.stepAt n
  let s := { s with
    rcu := { s.rcu.stopTimers.dropHeld with
      step := n, iteration := 0, arrivalTaken := false, powerOnPending := false
      clamped := s.rcu.clamped || setPointClamped s.cfg t }
    bgu := { s.bgu with waitingSince := .none, accumulator := 0, pendingLower := .none } }
  if s.bgu.committed < t.claimW then
    ({ s with rcu := { s.rcu with run := .claiming, phase := .none } }.refresh).askClaim t.claimW
  else if t.claimW < s.bgu.committed then
    { s with bgu := { s.bgu with pendingLower := some t.claimW } }.startStep
  else s.startStep

/-- The end of the step in progress or being entered: the timers stop, the outputs stay, and the
next step is entered or the run completes (R19). -/
def State.endStep (s : State) : State :=
  let s := { s with
    rcu := s.rcu.stopTimers.dropHeld
    wck := { s.wck with reach := .none }
    lines := s.lines.map (Line.abandonWait s.tmu.uptime) }
  if s.lastStep then s.completeRun else s.enterStep (s.rcu.step + 1)

/-- The end of an iteration (R16). -/
def State.endIteration (s : State) : State :=
  if s.rcu.iteration + 1 < s.theStep.repeats then
    { s with rcu := { s.rcu with iteration := s.rcu.iteration + 1 } }.enterOff
  else s.endStep

/-- The power-on sequence completes (R11, R15): the phase ends, and with a held expiry of the on
timer the iteration ends with it (R16). In PAUSED the completion is held for RESUME. -/
def State.powerOnComplete (s : State) : State :=
  if s.rcu.run = .paused then { s with rcu := { s.rcu with heldPowerOn := true } }
  else
    let s := s.advancePhase
    if s.rcu.phase = .on ∧ s.rcu.heldOn = true then s.endIteration else s

/-- The reach met report (R12): the reach timer stops and TIMING is entered, or the report is held
in PAUSED. -/
def State.reachMet (s : State) : State :=
  if s.rcu.run = .paused then { s with rcu := { s.rcu with heldReach := true } }
  else if s.rcu.phase = .reaching then s.enterTiming
  else s

/-! ### Policies and the taking of a raise (R26, R27, R132 to R144) -/

/-- NEXT_STEP (R26): an abandoned claim is withdrawn, and the step ends. -/
def State.nextStepAction (s : State) : State :=
  let s := s.withdrawIntent
  { s with bgu := { s.bgu with waitingSince := .none } }.endStep

/-- The forced policy of a kind (Table 8-1). -/
def FaultKind.forced : FaultKind → Option Policy
  | .overdraw => some .stop
  | .outputLimit => some .stop
  | .supplyLost => some .abort
  | .budgetTimeout => some .abort
  | .fixtureRemoved => some .abort
  | .busLost => some .abort
  | .excursionLow => .none
  | .excursionHigh => .none
  | .notReached => .none
  | .laneErrors => .none
  | .laneLost => .none
  | .hang => .none
  | .fanRate => .none
  | .pgDrop => .none
  | .noPowerGood => .none
  | .spontaneousReset => .none

/-- The point-less kinds (Table 8-1). -/
def FaultKind.pointLess : FaultKind → Bool
  | .outputLimit => true
  | .supplyLost => true
  | .budgetTimeout => true
  | .fixtureRemoved => true
  | .busLost => true
  | .excursionLow => false
  | .excursionHigh => false
  | .notReached => false
  | .overdraw => false
  | .laneErrors => false
  | .laneLost => false
  | .hang => false
  | .fanRate => false
  | .pgDrop => false
  | .noPowerGood => false
  | .spontaneousReset => false

/-- The policy of a raise: the kind's forced policy, or the step policy (R132). -/
def State.policyOf (kind : FaultKind) (s : State) : Policy :=
  kind.forced.getD s.policyStep.policy

/-- The end cause of a STOP (R27). -/
def FaultKind.stopCause : FaultKind → EndCause
  | .overdraw => .overdraw
  | .outputLimit => .outputLimit
  | .notReached => .notReached
  | _ => .faultPolicy

/-- The end cause of an ABORT (R27). -/
def FaultKind.abortCause : FaultKind → EndCause
  | .supplyLost => .supplyLost
  | .budgetTimeout => .budgetTimeout
  | .fixtureRemoved => .fixtureRemoved
  | .busLost => .busLost
  | _ => .faultPolicy

/-- CONTINUE changes nothing, but a NOT_REACHED raise moves the step to TIMING (R12, R26). -/
def State.goOnAction (kind : FaultKind) (s : State) : State :=
  if kind = .notReached ∧ s.rcu.phase = .reaching then s.enterTiming else s

/-- A raise that did not end the run becomes a record at once, or joins or opens a group (R138, R140
to R143). -/
def State.captureRaise (r : Record) (s : State) : State :=
  if s.cfg.coalesceMs = 0 then s.writeInRun r else s.joinOrOpen r

/-- The final closing for a raise that ends the run (R144). -/
def State.raiseClosing (mode : ClosingMode) (r : Record) (s : State) : State :=
  let s := { s with fcu := { s.fcu with mode := mode } }
  if r.kind.pointLess then s.closeGroups.writeRecord r
  else if s.cfg.coalesceMs = 0 then (s.writeRecord r).closeGroups
  else (s.joinOrOpen r).closeGroups

/-- A raise reaches the Fault Capture Unit, with the scanner values that its context reads. It is
discarded unless a run is active (R136); otherwise its circumstances are taken (R137), its policy
acts, and it is recorded (R138). -/
def State.raiseSeeing (asc : Asc) (kind : FaultKind) (points : List Nat) (value : Int)
    (s : State) : State :=
  if s.rcu.run.active then
    let r := s.formRecord asc kind points value
    match s.policyOf kind with
    | .goOn => (s.goOnAction kind).captureRaise r
    | .nextStep =>
      if s.lastStep then (s.raiseClosing .completing r).finishCompletion
      else s.nextStepAction.captureRaise r
    | .stop => (s.raiseClosing .ending r).runEnd .fail kind.stopCause
    | .abort => (s.raiseClosing .ending r).runEnd .aborted kind.abortCause
  else s

/-- A raise outside a conversion completion: its context reads the scanner as it stands. -/
def State.raise (kind : FaultKind) (points : List Nat) (value : Int) (s : State) : State :=
  s.raiseSeeing s.asc kind points value

end Sys2Proof.Machine
end

