-- ==== Sys2Proof/Machine/Budget.lean ====
section
/-! DEFINITION. The timed events of the Budget Unit (R55, R56, R59 to R63), with the commands
CLAIM_WINDOW_EXPIRY, RETRY_INTERVAL_EXPIRY, WAITING_LIMIT_REACHED, PEER_ENTRY_STALE,
PEER_ENTRY_REMOVAL and PEER_INTENT_LIFETIME_EXPIRY. -/

namespace Sys2Proof.Machine

/-! ### The claim window (R59 to R61) -/

/-- A commit at the window end (R60): the claim is committed, and the step being entered starts
(R8). It is the one commit that sets the refusal count to 0; those of R66 keep it (DESIGN CHOICE,
log entry 39). -/
def State.commitWindow (claim : Nat) (s : State) : State :=
  let s := { s with bgu := { s.bgu with intent := .none, window := .none, accumulator := 0,
                                        refusals := 0 } }.commitClaim claim
  if s.rcu.run = .claiming then s.startStep else s

/-- A refusal at the window end (R61, R8). -/
def State.refuseWindow (s : State) : State :=
  { s with
    bgu := { s.bgu with intent := .none, window := .none, waitingSince := some s.tmu.uptime
                        refusals := satInc 65535 s.bgu.refusals }
    rcu := { s.rcu with run := .waiting } }.queueCommit

/-- CLAIM_WINDOW_EXPIRY (R59): the rack sum decides. -/
def windowExpires (s : State) : State :=
  match s.bgu.intent with
  | some ⟨w, .window time⟩ =>
    if s.bgu.window.due then
      if s.rackSum w time ≤ s.rackBudget then s.commitWindow w else s.refuseWindow
    else s
  | some ⟨_, .held⟩ => s
  | some ⟨_, .queued⟩ => s
  | .none => s

/-! ### Waiting (R62, R63) -/

/-- RETRY_INTERVAL_EXPIRY (R62): 2000 ms after the refusal, WAITING begins a retry. -/
def retryExpires (s : State) : State :=
  match s.bgu.waitingSince with
  | .none => s
  | some u => if 2000 ≤ elapsed s.tmu.uptime u then s.beginRetry else s

/-- WAITING_LIMIT_REACHED (R63). -/
def waitingLimit (s : State) : State :=
  if s.bgu.waitingSince.isSome = true ∧ 600000 ≤ s.bgu.accumulator then
    s.raise .budgetTimeout [] s.bgu.refusals
  else s

/-! ### The peer view (R55, R56) -/

/-- An entry changed by a function, where its slot has one. -/
def changePeer (slot : Nat) (act : Peer → Peer) (peers : List Peer) : List Peer :=
  peers.map fun p => if p.slot = slot then act p else p

/-- An entry 1000 ms unheard is STALE (R55). -/
def Peer.age (now : Uptime) (p : Peer) : Peer :=
  if 1000 ≤ elapsed now p.lastHeard then { p with fresh := false } else p

/-- PEER_ENTRY_STALE (R55). -/
def peerStale (slot : BitVec 5) (s : State) : State :=
  { s with bgu := { s.bgu with
      peers := changePeer slot.toNat (Peer.age s.tmu.uptime) s.bgu.peers } }

/-- An entry's lifetime is over (R55). -/
def Peer.expired (now : Uptime) (p : Peer) : Bool := decide (10000 ≤ elapsed now p.lastHeard)

/-- PEER_ENTRY_REMOVAL (R55): the entry is removed with its intent, and the removal is a retry
cause (R62). -/
def peerRemoved (slot : BitVec 5) (s : State) : State :=
  if s.bgu.peers.any fun p => decide (p.slot = slot.toNat) && p.expired s.tmu.uptime then
    { s with bgu := { s.bgu with
        peers := s.bgu.peers.filter fun p => decide (p.slot ≠ slot.toNat) } }.retryCause
  else s

/-- An open intent closes 1000 ms after its reception (R56). -/
def Peer.closeOldIntent (now : Uptime) (p : Peer) : Peer :=
  match p.intent with
  | .none => p
  | some i => if 1000 ≤ elapsed now i.heard then { p with intent := .none } else p

/-- PEER_INTENT_LIFETIME_EXPIRY (R56). The closing is no retry cause. -/
def peerIntentExpires (slot : BitVec 5) (s : State) : State :=
  { s with bgu := { s.bgu with
      peers := changePeer slot.toNat (Peer.closeOldIntent s.tmu.uptime) s.bgu.peers } }

/-- CLAIM_WINDOW_EXPIRY. -/
def execClaimWindowExpiry (s : State) : Host.Outcome State Fault Refusal := s.live windowExpires

/-- RETRY_INTERVAL_EXPIRY. -/
def execRetryIntervalExpiry (s : State) : Host.Outcome State Fault Refusal := s.live retryExpires

/-- WAITING_LIMIT_REACHED. -/
def execWaitingLimitReached (s : State) : Host.Outcome State Fault Refusal := s.live waitingLimit

/-- PEER_ENTRY_STALE. -/
def execPeerEntryStale (slot : BitVec 5) (s : State) : Host.Outcome State Fault Refusal :=
  s.live (peerStale slot)

/-- PEER_ENTRY_REMOVAL. -/
def execPeerEntryRemoval (slot : BitVec 5) (s : State) : Host.Outcome State Fault Refusal :=
  s.live (peerRemoved slot)

/-- PEER_INTENT_LIFETIME_EXPIRY. -/
def execPeerIntentLifetimeExpiry (slot : BitVec 5) (s : State) :
    Host.Outcome State Fault Refusal := s.live (peerIntentExpires slot)

end Sys2Proof.Machine
end

