-- ==== Sys2Proof/Machine/Scan.lean ====
section
/-! DEFINITION. The Analog Scanner (Chapter 4), the Window Checker (Chapter 5) and the overdraw
judgement of the Budget Unit (R67, R68), with the commands SCAN_START and CONVERSION_COMPLETION. -/

namespace Sys2Proof.Machine

/-! ### The stages of a conversion (R75 to R81) -/

/-- The code of an input voltage in microvolts: min(4095, floor(4096 × v / 2500 + 1/2)) with v in
mV, and 0 for an input below 0 (R75). -/
def codeOf (microvolts : Int) : Nat :=
  min 4095 ((8192 * microvolts + 2500000) / 5000000).toNat

/-- The full scale of a range (Table 4-3); TEMP scales over the sensor span. -/
def PointRange.fullScale : PointRange → Nat
  | .off => 0
  | .v2p5 => 2500
  | .v6 => 6250
  | .v16 => 16000
  | .i10 => 10000
  | .i20 => 20000
  | .temp => 2500

/-- The scaled value m_raw of a code (R76, R77). -/
def scaleCode (r : PointRange) (c : Nat) : Int :=
  ((c : Int) * r.fullScale + 2048) / 4096 - (if r = .temp then 500 else 0)

/-- The calibrated sample m (R79). -/
def calibrate (gain : Nat) (offset raw : Int) : Int := (raw * gain + 16384) / 32768 + offset

/-- The shift k of a filter setting (R80). -/
def Filter.shift : Filter → Nat
  | .none => 0
  | .short => 2
  | .medium => 4
  | .long => 6

/-- The filter stage: initialised by the first sample, and updated by each later one (R80, R81). -/
def PointValue.filter (f : Filter) (m : Int) (v : PointValue) : PointValue :=
  let scale : Int := 2 ^ f.shift
  if v.running then
    let acc := v.acc + m - v.acc / scale
    { v with m := m, acc := acc, y := acc / scale }
  else { v with m := m, acc := m * scale, y := m, running := true }

/-- A conversion completion of a point: code, range flags, scale, calibrate and filter (R75). -/
def PointValue.convert (p : PointRec) (microvolts : Int) (v : PointValue) : PointValue :=
  let c := codeOf microvolts
  { v with code := c, underRange := decide (c = 0), overRange := decide (c = 4095) }.filter p.filter
    (calibrate p.gain p.offset (scaleCode p.range c))

/-! ### Windows (R92 to R97) -/

/-- The nominal of a point's window: OUT0's present level for point 0 (R92). -/
def State.nominal (i : Fin 8) (s : State) : Nat :=
  if i = 0 then s.sou.level0 else (s.cfg.points.get i).nominal

/-- The tolerance in force: the active profile's override, or the configured one (R93). -/
def State.tolerance (i : Fin 8) (s : State) : Nat :=
  match s.profile with
  | .none => (s.cfg.points.get i).tolerance
  | some p => (p.overrides.get i).getD (s.cfg.points.get i).tolerance

/-- The half-width of a window (R93). -/
def halfWidth (nominal tolerance : Nat) : Nat := nominal * tolerance / 10000

/-- The lower bound L of a window (R93). -/
def windowLow (nominal tolerance : Nat) : Nat := nominal - halfWidth nominal tolerance

/-- The upper bound H of a window (R93). -/
def windowHigh (nominal tolerance : Nat) : Nat := min 32767 (nominal + halfWidth nominal tolerance)

/-- The class of a judged sample (R95). -/
inductive SampleClass where
  | low
  | inside
  | high
  deriving DecidableEq, Repr

/-- A sample against the window bounds (R95). -/
def classify (nominal tolerance : Nat) (y : Int) : SampleClass :=
  if y < windowLow nominal tolerance then .low
  else if (windowHigh nominal tolerance : Int) < y then .high
  else .inside

/-- A judged sample acts on a window; the second part says that the point went OUT (R96, R97). -/
def Window.judge (persistence : Nat) (c : SampleClass) (w : Window) : Window × Bool :=
  if w.out then
    if c = .inside then
      if persistence ≤ w.returnRun + 1 then
        ({ w with out := false, excursionRun := 0, returnRun := 0 }, false)
      else ({ w with returnRun := w.returnRun + 1 }, false)
    else ({ w with returnRun := 0 }, false)
  else
    if c = .inside then ({ w with excursionRun := 0 }, false)
    else if persistence ≤ w.excursionRun + 1 then
      ({ w with out := true, excursionRun := 0, returnRun := 0,
                episodes := satInc 65535 w.episodes }, true)
    else ({ w with excursionRun := w.excursionRun + 1 }, false)

/-- Whether a sample of a point is judged for its window (R94). -/
def State.judges (i : Fin 8) (s : State) : Bool :=
  s.checked i.val && s.rcu.boardOn && s.rcu.run.active && !s.rcu.blanking

/-- A sample is judged for its point's window, and an excursion is raised (R94 to R96). `seen` is
what a context reads of the scanner. -/
def State.windowSample (seen : Asc) (i : Fin 8) (y : Int) (s : State) : State :=
  if s.judges i then
    let c := classify (s.nominal i) (s.tolerance i) y
    let r := (s.wck.points.get i).judge (s.cfg.points.get i).persistence c
    let s := { s with wck := { s.wck with points := s.wck.points.set i r.1 } }
    if r.2 then
      s.raiseSeeing seen (if c = .low then .excursionLow else .excursionHigh) [i.val] y
    else s
  else s

/-- The reach condition (R100). -/
def ReachRequest.met (r : ReachRequest) (y : Int) : Bool :=
  decide (r.target - r.band ≤ y ∧ y ≤ r.target + r.band)

/-- A sample of the reach point of an OPEN request is judged for the reach condition (R101, R102). -/
def State.reachSample (i : Fin 8) (y : Int) (s : State) : State :=
  match s.wck.reach with
  | .none => s
  | some r =>
    if r.point = i.val ∧ r.met y = true then
      { s with wck := { s.wck with reach := .none } }.reachMet
    else s

/-- A sample is an OPEN request's reach sample. -/
def State.reachOpenOn (i : Fin 8) (s : State) : Bool :=
  match s.wck.reach with
  | .none => false
  | some r => decide (r.point = i.val)

/-- A sample handed to the Window Checker (R83): its window is judged, and the reach condition when
it is a reach sample, in the order that the free value picks (log entry 7). A request that the raise
of the window itself opens, by NEXT_STEP, takes the sample only where an older request on the point
had made it a reach sample (DESIGN CHOICE, log entry 40). -/
def State.takeSample (seen : Asc) (i : Fin 8) (y : Int) (s : State) : State :=
  if s.reachOpenOn i then
    let n := s.free
    let s := { s with free := n + 1 }
    if Config.reachJudgedFirst n then (s.reachSample i y).windowSample seen i y
    else (s.windowSample seen i y).reachSample i y
  else s.windowSample seen i y

/-! ### Power and overdraw (R67, R68, R84) -/

/-- The measured power P in dW from the filtered values of points 0 and 1 (R84). -/
def boardPower (y0 y1 : Int) : Nat := (y0 * y1 / 100000).toNat

/-- The overdraw judgement at a scan completion (R67, R68). -/
def State.judgeOverdraw (seen : Asc) (s : State) : State :=
  if s.sou.level0 = 0 then { s with bgu := { s.bgu with overdrawSamples := 0 } }
  else if overdrawLimit s.bgu.committed < s.asc.power then
    if s.cfg.overdrawCount ≤ s.bgu.overdrawSamples + 1 then
      let p := s.asc.power
      { s with bgu := { s.bgu with
          overdrawSamples := 0
          overdrawEpisodes := satInc 65535 s.bgu.overdrawEpisodes } }.raiseSeeing
        seen .overdraw [0, 1] p
    else { s with bgu := { s.bgu with overdrawSamples := s.bgu.overdrawSamples + 1 } }
  else { s with bgu := { s.bgu with overdrawSamples := 0 } }

/-- The scan completion: P is computed and handed to the Budget Unit, and the scanner waits for the
next scan start (R73, R84, R85). -/
def State.completeScan (seen : Asc) (next : Uptime) (s : State) : State :=
  { s with asc := { s.asc with
      scanner := .between next
      power := boardPower (s.asc.points.get 0).y (s.asc.points.get 1).y } }.judgeOverdraw seen

/-! ### Scans (R72, R73) -/

/-- The first enabled point whose number is at least `k`. -/
def nextEnabled (points : Oct PointRec) (k : Nat) : Option (Fin 8) :=
  [0, 1, 2, 3, 4, 5, 6, 7].find? fun i : Fin 8 =>
    decide (k ≤ i.val) && decide ((points.get i).range ≠ .off)

/-- The time from one scan start to the next, in ms (Table 4-2). -/
def scanPeriod (c : LoadedConfig) : Nat := c.scanInterval * 5

/-- A scan starts, with the next scan start it leaves; a scan with no enabled point completes at its
start (R73). -/
def State.beginScan (next : Uptime) (s : State) : State :=
  match nextEnabled s.cfg.points 0 with
  | some i => { s with asc := { s.asc with scanner := .scanning next i } }
  | .none => s.completeScan s.asc next

/-- SCAN_START (R73): due in BETWEEN_SCANS when uptime has reached the next scan start. -/
def startScan (s : State) : State :=
  match s.asc.scanner with
  | .between next =>
    if reached s.tmu.uptime next then s.beginScan (next + BitVec.ofNat 48 (scanPeriod s.cfg))
    else s
  | .stopped => s
  | .scanning _ _ => s

/-- CONVERSION_COMPLETION (R75, R83): the point at the scan position is converted, its sample handed
to the Window Checker, and the next enabled point follows or the scan completes. A context raised in
this event reads the values before it or after it (log entry 8). -/
def completeConversion (microvolts : Int) (s : State) : State :=
  match s.asc.scanner with
  | .scanning next i =>
    let before := s.asc
    let v := (s.asc.points.get i).convert (s.cfg.points.get i) microvolts
    let asc := { s.asc with points := s.asc.points.set i v }
    let seen := if Config.contextReadsAfter s.free then asc else before
    let s := { s with asc := asc, free := s.free + 1 }.takeSample seen i v.y
    match nextEnabled s.cfg.points (i.val + 1) with
    | some j => { s with asc := { s.asc with scanner := .scanning next j } }
    | .none => s.completeScan seen next
  | .stopped => s
  | .between _ => s

/-- SCAN_START. -/
def execScanStart (s : State) : Host.Outcome State Fault Refusal := s.live startScan

/-- CONVERSION_COMPLETION. -/
def execConversionCompletion (microvolts : Int) (s : State) : Host.Outcome State Fault Refusal :=
  s.live (completeConversion microvolts)

end Sys2Proof.Machine
end

