-- ==== Sys2Proof/Machine/Block.lean ====
section
/-! DEFINITION. The configuration block (R174, R178 to R181): its checks, its corrected values, and
the load that the Configuration Loader makes of it, with the commands LOAD_COMPLETION,
LOAD_TIMER_EXPIRY and MEMORY_NO_RESPONSE. -/

namespace Sys2Proof.Machine

/-! ### Corrected values (Section 11.5, Tables 10-12 and 10-13) -/

/-- The offset of step record `i` (Table 10-12). -/
def stepOffset (i : Nat) : Nat := 245 + 34 * i

/-- The offset of point record `i`. -/
def pointOffset (i : Nat) : Nat := 31 + 11 * i

/-- The offset of line record `i`. -/
def lineOffset (i : Nat) : Nat := 119 + 9 * i

/-- The offset of profile record `i`. -/
def profileOffset (i : Nat) : Nat := 169 + 19 * i

/-- A step kind code; the structure test has refused any code above 2 (R180). -/
def stepKindOf : Nat → StepKind
  | 0 => .hold
  | 1 => .cycle
  | _ => .margin

/-- A step policy code; the structure test has refused any code above 2 (R180). -/
def stepPolicyOf : Nat → Policy
  | 0 => .goOn
  | 1 => .nextStep
  | _ => .stop

/-- The correction of press_ms (R3): 0 stays 0, and 1 to 49 becomes 50. -/
def pressOf (n : Nat) : Nat := if n = 0 then 0 else clampNat 50 5000 n

/-- The step record at an offset, corrected by R3. -/
def stepOf (b : List Byte) (o : Nat) : StepRec :=
  { kind := stepKindOf (byteAt b o)
    policy := stepPolicyOf (byteAt b (o + 1))
    mainMv := wordAt b (o + 2)
    marginBp := clampInt (-2000) 2000 (signedAt b (o + 4))
    standbyMv := clampNat 0 5500 (wordAt b (o + 6))
    fanPct := clampNat 0 100 (byteAt b (o + 8))
    profile := Fin.ofNat 4 (byteAt b (o + 9))
    slew := clampNat 0 1000 (wordAt b (o + 10))
    durationS := clampNat 1 65535 (wordAt b (o + 12))
    onMs := clampNat 100 60000 (wordAt b (o + 14))
    offMs := clampNat 100 60000 (wordAt b (o + 16))
    repeats := clampNat 1 1000 (wordAt b (o + 18))
    claimW := clampNat 0 400 (wordAt b (o + 20))
    blankingMs := clampNat 0 5000 (wordAt b (o + 22))
    pressMs := pressOf (wordAt b (o + 24))
    reachPresent := decide (byteAt b (o + 26) ≠ 0)
    reachPoint := byteAt b (o + 27)
    reachTarget := signedAt b (o + 28)
    reachBand := clampNat 1 255 (wordAt b (o + 30))
    reachTimeoutS := clampNat 1 65535 (wordAt b (o + 32)) }

/-- A range code; the structure test has refused any code above 6 (R180). -/
def rangeOf : Nat → PointRange
  | 0 => .off
  | 1 => .v2p5
  | 2 => .v6
  | 3 => .v16
  | 4 => .i10
  | 5 => .i20
  | _ => .temp

/-- A filter code; one that is not valid is taken as NONE (Table 4-1). -/
def filterOf : Nat → Filter
  | 1 => .short
  | 2 => .medium
  | 3 => .long
  | _ => .none

/-- The gain and offset of a point are both in range (R78). -/
def calibrationGood (gain : Nat) (offset : Int) : Bool :=
  decide (29491 ≤ gain ∧ gain ≤ 36045 ∧ -500 ≤ offset ∧ offset ≤ 500)

/-- The point record at an offset, corrected by R78 and Table 5-1. -/
def pointOf (b : List Byte) (o : Nat) : PointRec :=
  let gain := wordAt b (o + 2)
  let offset := signedAt b (o + 4)
  let good := calibrationGood gain offset
  { range := rangeOf (byteAt b o)
    filter := filterOf (byteAt b (o + 1))
    gain := if good then gain else 32768
    offset := if good then offset else 0
    calDefault := !good
    nominal := (signedAt b (o + 6)).toNat
    tolerance := clampNat 0 5000 (wordAt b (o + 8))
    persistence := clampNat 1 255 (byteAt b (o + 10)) }

/-- A role code; the structure test has refused any code above 4 (R180). -/
def roleOf : Nat → Role
  | 0 => .unused
  | 1 => .heartbeat
  | 2 => .rate
  | 3 => .powerGood
  | _ => .resetWatch

/-- The line record at an offset, corrected by R121. -/
def lineOf (b : List Byte) (o : Nat) : LineRec :=
  let top := clampNat 0 10000 (wordAt b (o + 5))
  { role := roleOf (byteAt b o)
    hbMaxMs := clampNat 10 60000 (wordAt b (o + 1))
    rateMin := min (clampNat 0 10000 (wordAt b (o + 3))) top
    rateMax := top
    pgTimeoutMs := clampNat 10 5000 (wordAt b (o + 7)) }

/-- The profile record at an offset (R88): an override is present where its mask bit is set, and is
at most 5000. That bit i of the stored check_set mask stands for watch point id i is the model's
choice: Table 10-12 and R181 give the mask one bit per id and name the bit of the override mask alone
(DESIGN CHOICE, log entry 42). -/
def profileOf (b : List Byte) (o : Nat) : Profile :=
  let mask := BitVec.ofNat 8 (byteAt b (o + 2))
  { checkSet := BitVec.ofNat 16 (wordAt b o)
    overrides := .ofFn fun i =>
      if mask.getLsbD i.val then some (clampNat 0 5000 (wordAt b (o + 3 + 2 * i.val)))
      else .none }

/-- A safe source code; one that is not valid is taken as ZERO (R31). -/
def safeOf : Nat → SafeSource
  | 1 => .hold
  | 2 => .value
  | _ => .zero

/-- The base id of a control source entry (R168): a byte of 0 to 63 as stored, and a free value for
a byte outside the range (log entry 6). -/
def baseIdOf (n : Nat) : BitVec 6 :=
  if n < 64 then BitVec.ofNat 6 n else Config.baseIdOf (BitVec.ofNat 8 n)

/-- The control source entry at an offset, corrected by R168. -/
def sourceOf (b : List Byte) (o : Nat) : SourceEntry :=
  { baseId := baseIdOf (byteAt b o)
    length := min (byteAt b (o + 1)) 6
    control := decide (byteAt b (o + 2) = 1) }

/-- The settings of the error class of a bit position (Table 10-12, Table 6-1). -/
def errorClassOf (b : List Byte) (i : Nat) : ErrorClass :=
  { threshold := clampNat 1 255 (byteAt b (12 + i))
    roll := (byteAt b 15).testBit i
    autoClear := (byteAt b 16).testBit i }

/-- A stored zero takes a default, and a value above the top the top (R48, R70). -/
def orDefault (dflt top n : Nat) : Nat := if n = 0 then dflt else min n top

/-- A stored max_faults of 0 or above 64 is taken as 64 (R134). -/
def maxFaultsOf (n : Nat) : Nat := if n = 0 ∨ 64 < n then 64 else n

/-- A stored context_point of 8 or more is taken as none (R134). -/
def contextPointOf (n : Nat) : Option (Fin 8) :=
  if h : n < 8 then some ⟨n, h⟩ else .none

/-- The corrected values of a block that has passed every check (R178, R181). -/
def configOf (b : List Byte) : LoadedConfig :=
  let standbyMax := clampNat 0 5500 (wordAt b 24)
  { steps := (List.range (byteAt b 1)).map fun i => stepOf b (stepOffset i)
    mainNominal := min (wordAt b 20) 13200
    mainMaxMv := clampNat 0 13200 (wordAt b 22)
    standbyMaxMv := standbyMax
    out1Safe := safeOf (byteAt b 26)
    out1SafeMv := clampNat 0 standbyMax (wordAt b 27)
    out2Safe := safeOf (byteAt b 29)
    out2SafePct := clampNat 0 100 (byteAt b 30)
    overdrawCount := orDefault 40 255 (byteAt b 17)
    scanInterval := orDefault 2 200 (byteAt b 10)
    points := .ofFn fun i => pointOf b (pointOffset i.val)
    profiles := .ofFn fun i => profileOf b (profileOffset i.val)
    signClass := errorClassOf b 0
    codeClass := errorClassOf b 1
    markClass := errorClassOf b 2
    laneEnable := BitVec.ofNat 4 (byteAt b 155)
    lines := .ofFn fun i => lineOf b (lineOffset i.val)
    coalesceMs := min (byteAt b 11) 100
    maxFaults := maxFaultsOf (byteAt b 18)
    contextPoint := contextPointOf (byteAt b 19)
    sources := (List.range (min (byteAt b 156) 4)).map fun i => sourceOf b (157 + 3 * i) }

/-! ### Checks (R178 to R180) -/

/-- The block length field. -/
def blockLength (b : List Byte) : Nat := wordAt b 2

/-- The length and version tests, judged when bytes 0 to 3 have been read (R178, orders 2 and
3). -/
def headerFault (b : List Byte) : Option Reason :=
  if b.length < 4 then .none
  else if blockLength b < 64 ∨ 2048 < blockLength b then some .length
  else if byteAt b 0 ≠ 1 then some .version
  else .none

/-- The check of R179 over a block of the stated length. -/
def blockCheckGood (b : List Byte) : Bool :=
  let n := blockLength b
  decide ((crc16 (b.take (n - 2))).toNat = wordAt b (n - 2))

/-- The structure test of a step record (R180). -/
def stepStructureGood (b : List Byte) (o : Nat) : Bool :=
  decide (byteAt b o ≤ 2 ∧ byteAt b (o + 1) ≤ 2 ∧ byteAt b (o + 9) ≤ 3) &&
    (decide (byteAt b o = 1) || decide (byteAt b (o + 26) = 0) || decide (byteAt b (o + 27) ≤ 7))

/-- How many line records have a role code. -/
def roleCount (b : List Byte) (code : Nat) : Nat :=
  ((List.range 4).filter fun i => byteAt b (lineOffset i) = code).length

/-- The structure test (R180). -/
def structureGood (b : List Byte) : Bool :=
  let n := byteAt b 1
  decide (1 ≤ n ∧ n ≤ 32 ∧ blockLength b = 247 + 34 * n) &&
    (List.range n).all (fun i => stepStructureGood b (stepOffset i)) &&
    (List.range 8).all (fun i => decide (byteAt b (pointOffset i) ≤ 6)) &&
    (List.range 4).all (fun i => decide (byteAt b (lineOffset i) ≤ 4)) &&
    decide (roleCount b 3 ≤ 1) && decide (roleCount b 1 ≤ 1)

/-- How far a load can have read and still go on: it ends with byte 3 where the tests of the header
fail, and with the last byte of the block otherwise (R178). -/
def readLimit (b : List Byte) : Nat :=
  if b.length < 4 then b.length
  else if headerFault b = .none then min b.length (blockLength b - 1)
  else 3

/-- The first failure of a block as read, in the order of R178; `none` when every test passes. A
block with fewer bytes than its length field states stopped answering before its last byte. -/
def blockFault (b : List Byte) : Option Reason :=
  if b.length < 4 then some .noResponse
  else match headerFault b with
    | some r => some r
    | .none =>
      if b.length < blockLength b then some .noResponse
      else if blockCheckGood b = false then some .checksum
      else if structureGood b = false then some .badStructure
      else .none

/-! ### Load (R177, R178) -/

/-- A load starts (R178, R72). -/
def State.startLoad (s : State) : State :=
  { s with
    cfl := { s.cfl with status := .loading, reason := .none, modelCode := 0, serial := 0
                        loadTimer := some 200, read := 0 }
    asc := { s.asc with points := s.asc.points.map fun v =>
      { v with running := false, calDefault := false } } }

/-- A load starts at the first event at which its three conditions hold together (R177). -/
def State.tryLoad (s : State) : State :=
  if s.cfl.fixture = .present ∧ s.cfl.status = .absent ∧
      (s.rcu.run = .idle ∨ s.rcu.run = .ended) then s.startLoad
  else s

/-- The console model code and the fixture serial, taken from the bytes read when they hold bytes 4 to
9 (R178). A load that fails on bytes 0 to 3 ends before that. -/
def State.takeIds (b : List Byte) (s : State) : State :=
  if 10 ≤ b.length ∧ headerFault b = .none then
    { s with cfl := { s.cfl with modelCode := BitVec.ofNat 16 (wordAt b 4)
                                 serial := BitVec.ofNat 32 (longAt b 6) } }
  else s

/-- A load fails: INVALID with its reason, the load timer stopped, nothing handed on (R178). -/
def State.failLoad (r : Reason) (s : State) : State :=
  { s with cfl := { s.cfl with status := .invalid, reason := r, loadTimer := .none, read := 0 } }

/-- A point at the completion of a VALID load (R72, R78, R82). -/
def PointValue.load (p : PointRec) (v : PointValue) : PointValue :=
  if p.range = .off then { PointValue.reset with calDefault := p.calDefault }
  else { v with running := false, calDefault := p.calDefault }

/-- A line's role takes effect (R121). -/
def Line.load (r : LineRec) (l : Line) : Line :=
  { l with sup := r.role.first, timer := .none, windowCount := 0 }

/-- A load ends VALID: the corrected values are handed to every block, and the first scan starts in
the same event (R178, R72). -/
def State.completeLoad (c : LoadedConfig) (s : State) : State :=
  { s with
    cfl := { s.cfl with status := .valid, reason := .none, loadTimer := .none, config := some c
                        read := 0 }
    lines := s.lines.mapIdx fun i (l : Line) => l.load (c.lines.get i)
    asc := { s.asc with points := s.asc.points.mapIdx fun i (v : PointValue) => v.load (c.points.get i) }
    }.beginScan (s.tmu.uptime + BitVec.ofNat 48 (scanPeriod c))

/-- A load reads on by so many bytes, and takes the identification once ten have been read. -/
def State.readOn (answered : Nat) (s : State) : State :=
  let n := max s.cfl.read (min (readLimit s.cfl.memory) (s.cfl.read + answered))
  { s with cfl := { s.cfl with read := n } }.takeIds (s.cfl.memory.take n)

/-- What a millisecond boundary of a load finds read, by the bytes that a free value lets the memory
answer in it (R178, log entry 31). -/
def State.readIds (s : State) : State :=
  if s.cfl.status = .loading then
    { s with free := s.free + 1 }.readOn (Config.bytesAnswered s.free)
  else s

/-- The bytes that a load has read when it ends with so many answered: none that it has read before
is lost. -/
def Cfl.bytesRead (answered : Nat) (c : Cfl) : List Byte := c.memory.take (max c.read answered)

/-- LOAD_COMPLETION (R178): while LOADING, the tests run on the bytes that the memory has answered. -/
def loadCompletes (answered : Nat) (s : State) : State :=
  if s.cfl.status = .loading then
    let b := s.cfl.bytesRead answered
    let s := s.takeIds b
    match blockFault b with
    | some r => s.failLoad r
    | .none => s.completeLoad (configOf b)
  else s

/-- A load that ends before its last byte is read: LENGTH or VERSION where bytes 0 to 3 had been
read and failed, and NO_RESPONSE otherwise (R178). -/
def loadStops (b : List Byte) (s : State) : State :=
  (s.takeIds b).failLoad ((headerFault b).getD .noResponse)

/-- LOAD_TIMER_EXPIRY (R178): the load ends on the bytes that the memory has answered by then. -/
def loadTimerExpires (answered : Nat) (s : State) : State :=
  if s.cfl.status = .loading ∧ s.cfl.loadTimer.due = true then
    loadStops (s.cfl.bytesRead answered) s
  else s

/-- MEMORY_NO_RESPONSE (R178): the load ends on the bytes that the memory answered. -/
def memorySilent (answered : Nat) (s : State) : State :=
  if s.cfl.status = .loading then loadStops (s.cfl.bytesRead answered) s else s

/-- LOAD_COMPLETION. -/
def execLoadCompletion (answered : Nat) (s : State) : Host.Outcome State Fault Refusal :=
  s.live (loadCompletes answered)

/-- LOAD_TIMER_EXPIRY. -/
def execLoadTimerExpiry (answered : Nat) (s : State) : Host.Outcome State Fault Refusal :=
  s.live (loadTimerExpires answered)

/-- MEMORY_NO_RESPONSE. -/
def execMemoryNoResponse (answered : Nat) (s : State) : Host.Outcome State Fault Refusal :=
  s.live (memorySilent answered)

end Sys2Proof.Machine
end

