-- ==== Sys2Proof/Machine/Fixture.lean ====
section
/-! DEFINITION. Fixture presence (R177, R182) and the close timers of the groups (R142), with the
commands FIXTURE_PRESENT_CHANGE, FIXTURE_DEBOUNCE_EXPIRY and CLOSE_TIMER_EXPIRY. -/

namespace Sys2Proof.Machine

/-- A line is treated as UNUSED while the configuration is not VALID (R121). -/
def Line.unload (l : Line) : Line := { l with sup := .unused, timer := .none }

/-- The status becomes ABSENT: the model code and the serial become 0, the scanner stops and
abandons its scan, and the lines are UNUSED (R182, R72, R74, R121). -/
def State.unloadFixture (s : State) : State :=
  { s with
    cfl := { s.cfl with status := .absent, reason := .none, fixture := .absent, loadTimer := .none,
                        modelCode := 0, serial := 0, memory := [], read := 0 }
    asc := { s.asc with scanner := .stopped }
    lines := s.lines.map Line.unload }

/-- A fixture removal (R182): in an active run FIXTURE_REMOVED is raised with OUT0's present level,
and the run ends before the status becomes ABSENT. -/
def State.removeFixture (s : State) : State :=
  let s := if s.rcu.run.active then s.raise .fixtureRemoved [] s.sou.level0 else s
  s.unloadFixture

/-- FIXTURE_PRESENT_CHANGE (R177). A reading that the line already has is no change. -/
def fixtureChanges (fixture : Option (List Byte)) (s : State) : State :=
  match s.cfl.fixture, fixture with
  | .absent, some memory =>
    { s with cfl := { s.cfl with fixture := .debouncing 0, memory := memory } }
  | .debouncing _, .none => { s with cfl := { s.cfl with fixture := .absent, memory := [] } }
  | .present, .none => s.removeFixture
  | .absent, .none => s
  | .debouncing _, some _ => s
  | .present, some _ => s

/-- The line's reading while a reset holds the station, with the memory of a fixture that comes. -/
def Cfl.heldReading (fixture : Option (List Byte)) (c : Cfl) : Cfl :=
  match fixture with
  | some memory =>
    { c with fixture := .present, memory := if c.fixture = .absent then memory else c.memory }
  | .none => { c with fixture := .absent, memory := [] }

/-- FIXTURE_PRESENT_CHANGE. While a reset holds the station the line only reads its new level; the
state at the end of the reset is that of the line, with no debounce (R176, R177). -/
def execFixturePresentChange (fixture : Option (List Byte)) (s : State) :
    Host.Outcome State Fault Refusal :=
  if s.inReset then .next { s with cfl := s.cfl.heldReading fixture }
  else .next (fixtureChanges fixture s)

/-- FIXTURE_DEBOUNCE_EXPIRY (R177): after 100 ms the fixture is inserted, and in IDLE or ENDED a load
starts. -/
def debounceExpires (s : State) : State :=
  if s.cfl.fixture = .debouncing 100 then
    { s with cfl := { s.cfl with fixture := .present } }.tryLoad
  else s

/-- FIXTURE_DEBOUNCE_EXPIRY. -/
def execFixtureDebounceExpiry (s : State) : Host.Outcome State Fault Refusal :=
  s.live debounceExpires

/-- CLOSE_TIMER_EXPIRY (R142): the group that was opened first, when its close timer has run out, is
removed from the list and its record written in closing mode NONE. -/
def groupExpires (s : State) : State :=
  match s.fcu.groups with
  | [] => s
  | g :: gs =>
    if g.closeTimer = 0 then
      { s with fcu := { s.fcu with groups := gs } }.writeInRun g.record
    else s

/-- CLOSE_TIMER_EXPIRY. -/
def execCloseTimerExpiry (s : State) : Host.Outcome State Fault Refusal := s.live groupExpires

end Sys2Proof.Machine
end

