-- ==== Sys2Proof/Machine/Lanes.lean ====
section
/-! DEFINITION. The Lane Monitor (Chapter 6), with the command CODE_GROUP_ARRIVAL. -/

namespace Sys2Proof.Machine

/-! ### The code table -/

/-- The weight of a valid code group (R105). -/
inductive Weight where
  | neutral
  | plus
  | minus
  deriving DecidableEq, Repr

/-- How many ones a 10-bit pattern holds. -/
def onesOf (p : BitVec 10) : Nat := (List.range 10).countP p.getLsbD

/-- The weight that a pattern has as a group of the code: six ones are PLUS, six zeros MINUS, five of
each NEUTRAL, and a pattern of any other balance is no group (R105). -/
def weightOf (p : BitVec 10) : Option Weight :=
  if onesOf p = 6 then some .plus
  else if onesOf p = 4 then some .minus
  else if onesOf p = 5 then some .neutral
  else .none

/-- A list of patterns is a code table: 260 groups, no two alike, each of one of the three weights
(R105). -/
def isCodeTable (l : List (BitVec 10)) : Bool :=
  l.length = 260 ∧ l.Nodup ∧ l.all fun p => (weightOf p).isSome

/-- The patterns that some code table could hold. -/
def weighedPatterns : List (BitVec 10) :=
  ((List.range 1024).map (BitVec.ofNat 10)).filter fun p => (weightOf p).isSome

/-- The code table fixed in the HN620 (R105). The manual does not print it: it is the free value of
`Config`, any code table whatever (log entry 9). The other branch stands for the lists that are none,
which the part cannot hold. -/
def codeTable : List (BitVec 10) :=
  if isCodeTable Config.codeTable then Config.codeTable else weighedPatterns.take 260

/-- The data group of a byte value (R105). -/
def dataGroup (b : Byte) : BitVec 10 := codeTable.getD b.toNat 0

/-- The MARKER, first of the four control groups (R105). -/
def markerGroup : BitVec 10 := codeTable.getD 256 0

/-- The three fill groups, the other control groups (R105). -/
def fillGroup (n : Fin 3) : BitVec 10 := codeTable.getD (257 + n.val) 0

/-- What an arriving pattern is to the receiver (R106): its class, and the weight of a valid group. -/
inductive CodeGroup where
  | marker (w : Weight)
  | data (w : Weight)
  | unknown
  deriving DecidableEq, Repr

/-- The classification of an arriving pattern by the code table (R106): the MARKER, DATA for any other
group of the table, of the data set or a fill group, and UNKNOWN outside it. -/
def groupOf (p : BitVec 10) : CodeGroup :=
  match weightOf p with
  | .none => .unknown
  | some w =>
    if p = markerGroup then .marker w
    else if p ∈ codeTable then .data w
    else .unknown

/-- The group is the MARKER (R106). -/
def groupMarker : CodeGroup → Bool
  | .marker _ => true
  | .data _ => false
  | .unknown => false

/-- The group is UNKNOWN (R106). -/
def groupUnknown : CodeGroup → Bool
  | .unknown => true
  | .marker _ => false
  | .data _ => false

/-- The weight of a group; an UNKNOWN group is not weighed, which leaves the sign as a NEUTRAL group
does (R106). -/
def groupWeight : CodeGroup → Weight
  | .marker w => w
  | .data w => w
  | .unknown => .neutral

/-! ### The receiver -/

/-- The sign violation of a group under a running sign (R106). -/
def signViolation (w : Weight) (sign : Sign) : Bool :=
  match w, sign with
  | .plus, .pos => true
  | .minus, .neg => true
  | .plus, .neg => false
  | .plus, .undetermined => false
  | .minus, .pos => false
  | .minus, .undetermined => false
  | .neutral, _ => false

/-- The running sign after a group (R106). -/
def signAfter (w : Weight) (sign : Sign) : Sign :=
  match w with
  | .neutral => sign
  | .plus => .pos
  | .minus => .neg

/-- The marker distance after a group (R111, step 2). -/
def nextDistance (marker : Bool) (d : Option Nat) : Option Nat :=
  if marker then some 0
  else match d with
    | .none => .none
    | some n => if n + 1 = 256 then .none else some (n + 1)

/-- A MARK error at a frame position: a MARKER absent where expected or present where not
(R112). -/
def markError (position : Nat) (marker : Bool) : Bool :=
  if position = 0 then !marker else marker

/-- The mark error run after a group in FRAME_LOCK (R112). -/
def nextMarkRun (position : Nat) (marker : Bool) (run : Nat) : Nat :=
  if markError position marker then run + 1 else if position = 0 then 0 else run

/-- The receiver state after a group, before any change of the lock state (R106, R110 to R112). -/
def Lane.receive (g : CodeGroup) (l : Lane) : Lane :=
  let sign := signAfter (groupWeight g) l.sign
  let unknownRun := if groupUnknown g then l.unknownRun + 1 else 0
  match l.lock with
  | .off => l
  | .search =>
    { l with sign := sign, searchRun := if groupUnknown g then 0 else l.searchRun + 1 }
  | .codeLock =>
    { l with sign := sign, unknownRun := unknownRun
             distance := nextDistance (groupMarker g) l.distance }
  | .frameLock =>
    let position := (l.framePosition + 1) % 256
    { l with sign := sign, unknownRun := unknownRun
             distance := nextDistance (groupMarker g) l.distance, framePosition := position
             markErrorRun := nextMarkRun position (groupMarker g) l.markErrorRun }

/-- The error classes (R114). -/
inductive ErrorKind where
  | sign
  | code
  | mark
  deriving DecidableEq, Repr

/-- Whether a group counts in a class on a lane as it stood before the group (R114). -/
def Lane.errs (k : ErrorKind) (g : CodeGroup) (l : Lane) : Bool :=
  match k, l.lock with
  | _, .off => false
  | _, .search => false
  | .sign, .codeLock => signViolation (groupWeight g) l.sign
  | .sign, .frameLock => signViolation (groupWeight g) l.sign
  | .code, .codeLock => groupUnknown g
  | .code, .frameLock => groupUnknown g
  | .mark, .codeLock => false
  | .mark, .frameLock => markError ((l.framePosition + 1) % 256) (groupMarker g)

/-- A lane's counter of a class. -/
def Lane.counter (k : ErrorKind) (l : Lane) : ErrorCounter :=
  match k with
  | .sign => l.signErrors
  | .code => l.codeErrors
  | .mark => l.markErrors

/-- A lane with a counter replaced. -/
def Lane.setCounter (k : ErrorKind) (e : ErrorCounter) (l : Lane) : Lane :=
  match k with
  | .sign => { l with signErrors := e }
  | .code => { l with codeErrors := e }
  | .mark => { l with markErrors := e }

/-- The settings of a class (Table 6-1). -/
def LoadedConfig.errorClass (k : ErrorKind) (c : LoadedConfig) : ErrorClass :=
  match k with
  | .sign => c.signClass
  | .code => c.codeClass
  | .mark => c.markClass

/-- A counter after a counted error, and whether it was incremented: a HOLD counter at 255 is not
(R115). -/
def ErrorCounter.bump (roll : Bool) (e : ErrorCounter) : ErrorCounter × Bool :=
  if 255 ≤ e.count then
    if roll then ({ e with count := 0 }, true) else (e, false)
  else ({ e with count := e.count + 1 }, true)

/-- A lane's faults are raised: its id is in the active check set and blanking is clear (R113,
R116). -/
def State.laneRaises (i : Fin 4) (s : State) : Bool := s.checked (8 + i.val) && !s.rcu.blanking

/-- A lane replaced. -/
def State.setLane (i : Fin 4) (l : Lane) (s : State) : State :=
  { s with lanes := s.lanes.set i l }

/-- One counted error of a class on a lane: the increment, and at the threshold the terminal flag,
the raise and the auto-clear, in that order (R115, R116). -/
def State.countError (i : Fin 4) (k : ErrorKind) (s : State) : State :=
  let l := s.lanes.get i
  let c := s.cfg.errorClass k
  let r := (l.counter k).bump c.roll
  if r.2 ∧ r.1.count = c.threshold then
    let s := s.setLane i (l.setCounter k ⟨r.1.count, true⟩)
    let s := if s.laneRaises i then s.raise .laneErrors [8 + i.val] c.threshold else s
    if c.autoClear then
      let l := s.lanes.get i
      s.setLane i (l.setCounter k { l.counter k with count := 0 })
    else s
  else s.setLane i (l.setCounter k r.1)

/-- The change of lock state that a group brings, judged on the lane before the group and on its
receiver state after it; SEARCH goes before CODE_LOCK (R110 to R112). -/
def lockChange (g : CodeGroup) (before after : Lane) : Option Lock :=
  match before.lock with
  | .off => .none
  | .search => if 16 ≤ after.searchRun then some .codeLock else .none
  | .codeLock =>
    if groupMarker g ∧ before.distance = some 255 then some .frameLock
    else if 4 ≤ after.unknownRun then some .search
    else .none
  | .frameLock =>
    if 4 ≤ after.unknownRun then some .search
    else if 4 ≤ after.markErrorRun then some .codeLock
    else .none

/-- Entry to a lock state, from another (R109 to R112). The marker distance is absent at an entry to
CODE_LOCK from SEARCH, and kept at one from FRAME_LOCK. -/
def Lane.enter (dest : Lock) (l : Lane) : Lane :=
  match dest with
  | .off => { l with lock := .off }
  | .search => l.enterSearch
  | .codeLock =>
    { l with lock := .codeLock, unknownRun := 0
             distance := if l.lock = .search then .none else l.distance }
  | .frameLock =>
    { l with lock := .frameLock, framePosition := 0, distance := some 0, markErrorRun := 0 }

/-- A lock loss after the counting of its arrival: counted, and raised on a checked lane outside
blanking (R113). -/
def State.loseLock (i : Fin 4) (s : State) : State :=
  let l := s.lanes.get i
  let n := satInc 65535 l.lockLosses
  let s := s.setLane i { l with lockLosses := n }
  if s.laneRaises i then s.raise .laneLost [8 + i.val] n else s

/-- The change of lock state of an arrival, after the counting. A raise of the counting that has
switched the lane off leaves it OFF (R109, log entry 14). -/
def State.changeLock (i : Fin 4) (before : Lock) (dest : Lock) (s : State) : State :=
  let l := s.lanes.get i
  if l.lock = before then
    let s := s.setLane i (l.enter dest)
    if before = .frameLock then s.loseLock i else s
  else s

/-- An error of a class is counted when the arrival brings one. -/
def State.countIf (b : Bool) (i : Fin 4) (k : ErrorKind) (s : State) : State :=
  if b then s.countError i k else s

/-- A group arrives on a lane (R106 to R117): on one not OFF it is sign-tested, its errors are counted
in the order SIGN, CODE, MARK, and the lock state follows. -/
def groupArrives (i : Fin 4) (g : CodeGroup) (s : State) : State :=
  let l := s.lanes.get i
  if l.lock = .off then s
  else
    let l' := l.receive g
    let s := s.setLane i l'
    let s := s.countIf (l.errs .sign g) i .sign
    let s := s.countIf (l.errs .code g) i .code
    let s := s.countIf (l.errs .mark g) i .mark
    match lockChange g l l' with
    | .none => s
    | some dest => s.changeLock i l.lock dest

/-- CODE_GROUP_ARRIVAL (R105 to R107): the pattern is classified by the code table, and the lane takes
the group that it is. -/
def execCodeGroupArrival (i : Fin 4) (p : BitVec 10) (s : State) :
    Host.Outcome State Fault Refusal := s.live (groupArrives i (groupOf p))

end Sys2Proof.Machine
end

