-- ==== Sys2Proof/Machine/Lines.lean ====
section
/-! DEFINITION. The Watch Line Unit (Chapter 7), with the commands WATCH_LINE_EDGE,
HEARTBEAT_INTERVAL_EXPIRY, RATE_WINDOW_EXPIRY and POWER_GOOD_WAIT_EXPIRY. -/

namespace Sys2Proof.Machine

/-- A line replaced. -/
def State.setLine (i : Fin 4) (l : Line) (s : State) : State :=
  { s with lines := s.lines.set i l }

/-- A line's fault is raised when its id is in the active check set (R124). -/
def State.raiseLine (i : Fin 4) (kind : FaultKind) (value : Int) (s : State) : State :=
  if s.checked (12 + i.val) then s.raise kind [12 + i.val] value else s

/-- A line's level, count and stamps at an edge (R123). -/
def Line.edge (rising : Bool) (rack : RackTime) (now : Uptime) (l : Line) : Line :=
  if rising then
    { l with high := true, pulses := l.pulses + 1, riseRack := some rack, riseUptime := some now }
  else { l with high := false }

/-- One more episode of a line. -/
def Line.episode (l : Line) : Line := { l with episodes := satInc 65535 l.episodes }

/-- The end of the power-good wait is reported; the Run Controller acts on it while the power-on
sequence is in progress (R128). -/
def State.waitEnded (s : State) : State := if s.poweringOn then s.powerOnComplete else s

/-- A rising edge goes on to the supervision of its line's role (R125 to R130). -/
def State.superviseRise (i : Fin 4) (s : State) : State :=
  let l := s.lines.get i
  let hb := (s.cfg.lines.get i).hbMaxMs
  match l.sup with
  | .unused => s
  | .heartbeat .disarmed => s
  | .heartbeat .armed => s.setLine i { l with timer := some hb }
  | .heartbeat .hung => s.setLine i { l with sup := .heartbeat .armed, timer := some hb }
  | .rate false _ => s
  | .rate true _ => s.setLine i { l with windowCount := satInc 65535 l.windowCount }
  | .powerGood .off => s
  | .powerGood .waiting =>
    (s.setLine i { l with sup := .powerGood (.up s.tmu.uptime), timer := .none }).waitEnded
  | .powerGood (.up _) => s
  | .powerGood .unseen => s.setLine i { l with sup := .powerGood (.up s.tmu.uptime) }
  | .resetWatch false => s
  | .resetWatch true => s.setLine i { l with sup := .resetWatch false }

/-- A falling edge goes on to the supervision of its line's role (R129, R130). -/
def State.superviseFall (i : Fin 4) (s : State) : State :=
  let l := s.lines.get i
  match l.sup with
  | .unused => s
  | .heartbeat _ => s
  | .rate _ _ => s
  | .powerGood .off => s
  | .powerGood .waiting => s
  | .powerGood (.up rise) =>
    (s.setLine i { l with sup := .powerGood .unseen }.episode).raiseLine i .pgDrop
      (elapsed s.tmu.uptime rise)
  | .powerGood .unseen => s
  | .resetWatch true => s
  | .resetWatch false =>
    if s.supervising then
      (s.setLine i { l with sup := .resetWatch true }.episode).raiseLine i .spontaneousReset
        l.pulses.toNat
    else s

/-- WATCH_LINE_EDGE (R123): a change of level, counted and stamped when it rises, in every run
state, and then supervised. A command to the level that the line has is no edge (R120). -/
def lineEdge (i : Fin 4) (rising : Bool) (s : State) : State :=
  let l := s.lines.get i
  if l.high = rising then s
  else
    let s := s.setLine i (l.edge rising s.tmu.rack s.tmu.uptime)
    if rising then s.superviseRise i else s.superviseFall i

/-- WATCH_LINE_EDGE. While a reset holds the station the line still reads its new level (R122). -/
def execWatchLineEdge (i : Fin 4) (rising : Bool) (s : State) : Host.Outcome State Fault Refusal :=
  if s.inReset then .next (s.setLine i { s.lines.get i with high := rising })
  else .next (lineEdge i rising s)

/-- HEARTBEAT_INTERVAL_EXPIRY (R125): HUNG, one episode, and HANG with the interval as value. -/
def heartbeatExpires (i : Fin 4) (s : State) : State :=
  let l := s.lines.get i
  if l.sup = .heartbeat .armed ∧ l.timer.due = true then
    (s.setLine i { l with sup := .heartbeat .hung, timer := .none }.episode).raiseLine i .hang
      (s.cfg.lines.get i).hbMaxMs
  else s

/-- HEARTBEAT_INTERVAL_EXPIRY. -/
def execHeartbeatIntervalExpiry (i : Fin 4) (s : State) : Host.Outcome State Fault Refusal :=
  s.live (heartbeatExpires i)

/-- A window count is out of the range of its line (R126). -/
def outOfRate (c : LineRec) (count : Nat) : Bool :=
  decide (count < c.rateMin ∨ c.rateMax < count)

/-- RATE_WINDOW_EXPIRY (R126): the window is judged, the next one starts in the same event, and the
first window out of range of an episode raises FAN_RATE. -/
def rateWindowExpires (i : Fin 4) (s : State) : State :=
  let l := s.lines.get i
  match l.sup with
  | .rate true o =>
    if l.timer.due then
      let bad := outOfRate (s.cfg.lines.get i) l.windowCount
      let l' := { l with sup := .rate true bad, windowCount := 0, timer := some 1000 }
      if bad && !o then (s.setLine i l'.episode).raiseLine i .fanRate l.windowCount
      else s.setLine i l'
    else s
  | .rate false _ => s
  | .unused => s
  | .heartbeat _ => s
  | .powerGood _ => s
  | .resetWatch _ => s

/-- RATE_WINDOW_EXPIRY. -/
def execRateWindowExpiry (i : Fin 4) (s : State) : Host.Outcome State Fault Refusal :=
  s.live (rateWindowExpires i)

/-- POWER_GOOD_WAIT_EXPIRY (R128): UNSEEN, one episode, NO_POWER_GOOD with the timeout as value, and
the end of the wait reported whether or not it was raised. A wait halted in PAUSED does not
expire. -/
def powerGoodExpires (s : State) : State :=
  match s.powerGoodLine with
  | .none => s
  | some i =>
    let l := s.lines.get i
    if l.sup = .powerGood .waiting ∧ l.timer.due = true ∧ s.rcu.run ≠ .paused then
      ((s.setLine i { l with sup := .powerGood .unseen, timer := .none }.episode).raiseLine i
        .noPowerGood (s.cfg.lines.get i).pgTimeoutMs).waitEnded
    else s

/-- POWER_GOOD_WAIT_EXPIRY. -/
def execPowerGoodWaitExpiry (s : State) : Host.Outcome State Fault Refusal :=
  s.live powerGoodExpires

end Sys2Proof.Machine
end

