-- ==== Sys2Proof/Machine/Resets.lean ====
section
/-! DEFINITION. The resets and start-up (R175, R183), with the commands POWER_ON_RESET, RACK_RESET
and RESET_END. -/

namespace Sys2Proof.Machine

/-- The assertion of a reset, the same for both kinds (R175): every block takes its reset values and
the station is held. What comes from outside stays as it reads: the line levels (R122), the
output-limit input, the supply sense (R46), the start switch (R25), and the fixture-present line
with the fixture's memory (R176). -/
def holdInReset (s : State) : State :=
  { State.reset with
    pending := s.pending
    rcu := .reset s.rcu.switchClosed.isSome
    sou := .reset s.sou.limitInput s.sou.sensePresent
    lines := s.lines.map fun l => .reset l.high
    cfl := .reset (decide (s.cfl.fixture ≠ .absent)) s.cfl.memory
    free := s.free }

/-- The end of a reset (R183): the straps are read, the first BEACON is queued and the beacon timer
restarted, the settle and transmit-success timers run from their reset values, and a load starts if
the fixture-present line reads present. -/
def endReset (slot : BitVec 5) (code : BitVec 4) (s : State) : State :=
  { s with
    inReset := false
    slot := slot
    code := code
    bus := { s.bus.queueBeacon with beaconTimer := 250 } }.tryLoad

/-- POWER_ON_RESET. -/
def execPowerOnReset (s : State) : Host.Outcome State Fault Refusal := .next (holdInReset s)

/-- RACK_RESET. -/
def execRackReset (s : State) : Host.Outcome State Fault Refusal := .next (holdInReset s)

/-- RESET_END. A station that no reset holds has none to end. -/
def execResetEnd (slot : BitVec 5) (code : BitVec 4) (s : State) :
    Host.Outcome State Fault Refusal :=
  if s.inReset then .next (endReset slot code s) else .next s

end Sys2Proof.Machine
end

