-- ==== Sys2Proof/Machine/Supply.lean ====
section
/-! DEFINITION. The inputs of the Supply Output Unit (R43 to R46), with the commands
OUTPUT_LIMIT_INPUT_CHANGE, OUTPUT_LIMIT_TIMER_EXPIRY and SUPPLY_SENSE_CHANGE. -/

namespace Sys2Proof.Machine

/-- OUTPUT_LIMIT_INPUT_CHANGE (R43): the input takes a level, and the count starts or ends. -/
def limitInputChanges (asserted : Bool) (s : State) : State :=
  { s with sou := { s.sou with limitInput := asserted }.syncLimit }

/-- OUTPUT_LIMIT_INPUT_CHANGE. While a reset holds the station the input only reads its new level:
OUT0 stands at 0 mV, so no count starts. -/
def execOutputLimitInputChange (asserted : Bool) (s : State) : Host.Outcome State Fault Refusal :=
  .next (limitInputChanges asserted s)

/-- OUTPUT_LIMIT_TIMER_EXPIRY (R43, R44): at 10 ms the timer is EXPIRED, and OUTPUT_LIMIT is raised
with OUT0's present level. -/
def limitExpires (s : State) : State :=
  if s.sou.limit = .counting 10 then
    { s with sou := { s.sou with limit := .expired } }.raise .outputLimit [] s.sou.level0
  else s

/-- OUTPUT_LIMIT_TIMER_EXPIRY. -/
def execOutputLimitTimerExpiry (s : State) : Host.Outcome State Fault Refusal :=
  s.live limitExpires

/-- SUPPLY_SENSE_CHANGE (R45, R46): the sense state takes the reading. A change to ABSENT raises
SUPPLY_LOST in an active run, and takes OUT1 and OUT2 to 0 in ENDED. -/
def senseChanges (present : Bool) (s : State) : State :=
  let lost := s.sou.sensePresent && !present
  let s := { s with sou := { s.sou with sensePresent := present } }
  if lost then
    if s.rcu.run.active then s.raise .supplyLost [] s.sou.level0
    else if s.rcu.run = .ended then { s with sou := s.sou.zero12 }
    else s
  else s

/-- SUPPLY_SENSE_CHANGE. While a reset holds the station the line only reads its new level, which is
the sense state after the reset (R46). -/
def execSupplySenseChange (present : Bool) (s : State) : Host.Outcome State Fault Refusal :=
  if s.inReset then .next { s with sou := { s.sou with sensePresent := present } }
  else .next (senseChanges present s)

end Sys2Proof.Machine
end

