-- ==== Sys2Proof/Machine/Time.lean ====
section
/-! DEFINITION. The two clocks (Chapter 9) and the listening interval (R57): the commands OUTPUT_TICK,
RACK_TIME_ADVANCE, SETTLE_TIMER_EXPIRY and LISTENING_INTERVAL_END. -/

namespace Sys2Proof.Machine

/-! ### One millisecond of each block's timers (R152) -/

/-- The step timers run in RUNNING and halt in PAUSED (R21); in every other state they are
stopped. -/
def Rcu.tick (r : Rcu) : Rcu :=
  if r.run = .running then
    { r with duration := r.duration.tick, reach := r.reach.tick, off := r.off.tick,
             on := r.on.tick, blankingTimer := r.blankingTimer.tick }
  else r

/-- The claim window, the waiting accumulator in WAITING (R63), and the listening interval (R57). -/
def Bgu.tick (b : Bgu) : Bgu :=
  { b with window := b.window.tick
           accumulator := if b.waitingSince.isSome then min (b.accumulator + 1) 600000
                          else b.accumulator
           listening := b.listening - 1 }

/-- A line's timer runs, but a power-good wait halts while the run is PAUSED (R127). -/
def Line.tick (paused : Bool) (l : Line) : Line :=
  if paused = true ∧ l.sup = .powerGood .waiting then l else { l with timer := l.timer.tick }

/-- The close timers of the open groups (R140). -/
def Group.tick (g : Group) : Group := { g with closeTimer := g.closeTimer - 1 }

/-- Uptime, wrapping at 2^48, and the settle timer (R152, R157). -/
def Tmu.tick (t : Tmu) : Tmu := { t with uptime := t.uptime + 1, settleTimer := t.settleTimer.tick }

/-- The beacon timer and the transmit-success timer (R164, R165). -/
def Bif.tick (b : Bif) : Bif :=
  { b with beaconTimer := b.beaconTimer - 1, successTimer := b.successTimer.tick }

/-- One millisecond of debounce, which counts to 100 (R177). -/
def FixtureState.tick : FixtureState → FixtureState
  | .absent => .absent
  | .debouncing n => .debouncing (min (n + 1) 100)
  | .present => .present

/-- The debounce and the load timer (R177, R178). -/
def Cfl.tick (c : Cfl) : Cfl :=
  { c with fixture := c.fixture.tick, loadTimer := c.loadTimer.tick }

/-- The millisecond boundary: every timer of the station moves by one, and so do the outputs (R35,
R152). -/
def State.tickTimers (s : State) : State :=
  { s with
    rcu := s.rcu.tick
    sou := s.sou.tick
    bgu := s.bgu.tick
    lines := s.lines.map (Line.tick (decide (s.rcu.run = .paused)))
    fcu := { s.fcu with groups := s.fcu.groups.map Group.tick }
    tmu := s.tmu.tick
    bus := s.bus.tick
    cfl := s.cfl.tick }

/-- OUTPUT_TICK (R35, R36, R152): the timers and the outputs move, a load has read on (R178), and a
tick that lands OUT0 on its target reports the landing. -/
def outputTicks (s : State) : State :=
  let t := s.tickTimers.readIds
  if s.sou.tickLands then t.takeArrival else t

/-- RACK_TIME_ADVANCE (R153). -/
def rackAdvances (s : State) : State :=
  { s with tmu := { s.tmu with rack := addNanos s.tmu.rack 20 } }

/-- SETTLE_TIMER_EXPIRY (R157): the timer stops, and on a station that is not settled the flag is set,
on which a HELD intent may wait (R57). -/
def settleExpires (s : State) : State :=
  if s.tmu.settleTimer.due then
    { s with tmu := { s.tmu with settleTimer := .none } }.becomeSettled
  else s

/-- LISTENING_INTERVAL_END (R57): a HELD intent is queued if the clock is settled. -/
def listeningEnds (s : State) : State :=
  if s.bgu.listening = 0 then s.promoteIntent else s

/-- OUTPUT_TICK. -/
def execOutputTick (s : State) : Host.Outcome State Fault Refusal := s.live outputTicks

/-- RACK_TIME_ADVANCE. -/
def execRackTimeAdvance (s : State) : Host.Outcome State Fault Refusal := s.live rackAdvances

/-- SETTLE_TIMER_EXPIRY. -/
def execSettleTimerExpiry (s : State) : Host.Outcome State Fault Refusal := s.live settleExpires

/-- LISTENING_INTERVAL_END. -/
def execListeningIntervalEnd (s : State) : Host.Outcome State Fault Refusal :=
  s.live listeningEnds

end Sys2Proof.Machine
end

