-- ==== Sys2Proof/Machine/Timers.lean ====
section
/-! DEFINITION. The timers of a step and of the button (Chapters 1 and 2), with the commands
PRESS_TIMER_EXPIRY, DURATION_TIMER_EXPIRY, REACH_TIMER_EXPIRY, OFF_TIMER_EXPIRY, ON_TIMER_EXPIRY and
BLANKING_TIMER_EXPIRY. Each acts when its timer has run out, and changes nothing before
(log entry 3). -/

namespace Sys2Proof.Machine

/-- A step timer has run out: it is due while the run is RUNNING, since it halts in PAUSED (R21). -/
def State.stepTimerDue (t : Timer) (s : State) : Bool := decide (s.rcu.run = .running) && t.due

/-! ### The press (R42) -/

/-- The press-end report, acted on while the power-on sequence that commanded the press is in
progress: the power-good wait starts, or the sequence completes (R11, R42, R127). -/
def State.pressEnded (s : State) : State :=
  if s.poweringOn = true ∧ 0 < s.theStep.pressMs then
    match s.powerGoodLine with
    | .none => s.powerOnComplete
    | some i =>
      if (s.lines.get i).high then (s.startWait i).powerOnComplete else s.startWait i
  else s

/-- PRESS_TIMER_EXPIRY (R42): the button is released and the end of the press reported. -/
def pressExpires (s : State) : State :=
  if s.sou.pressTimer.due then
    { s with sou := { s.sou with pressed := false, pressTimer := .none } }.pressEnded
  else s

/-! ### The step timers (R13, R103, R14, R16, R18) -/

/-- DURATION_TIMER_EXPIRY (R13): the step ends. -/
def durationExpires (s : State) : State :=
  if s.stepTimerDue s.rcu.duration then s.endStep else s

/-- REACH_TIMER_EXPIRY (R12, R103): the reach request closes, and NOT_REACHED is raised with the
reach point's filtered value. -/
def reachExpires (s : State) : State :=
  if s.stepTimerDue s.rcu.reach then
    let p : Fin 8 := Fin.ofNat 8 s.theStep.reachPoint
    { s with rcu := { s.rcu with reach := .none }
             wck := { s.wck with reach := .none } }.raise .notReached [p.val]
      (s.asc.points.get p).y
  else s

/-- OFF_TIMER_EXPIRY (R14): POWERING is entered. -/
def offExpires (s : State) : State :=
  if s.stepTimerDue s.rcu.off then
    { s with rcu := { s.rcu with off := .none } }.enterPowering
  else s

/-- ON_TIMER_EXPIRY (R16): the iteration ends in ON, and in POWERING the expiry is held. -/
def onExpires (s : State) : State :=
  if s.stepTimerDue s.rcu.on then
    if s.rcu.phase = .on then { s with rcu := { s.rcu with on := .none } }.endIteration
    else { s with rcu := { s.rcu with on := .none, heldOn := true } }
  else s

/-- BLANKING_TIMER_EXPIRY (R18). -/
def blankingExpires (s : State) : State :=
  if s.stepTimerDue s.rcu.blankingTimer then s.clearBlanking else s

/-- PRESS_TIMER_EXPIRY. -/
def execPressTimerExpiry (s : State) : Host.Outcome State Fault Refusal := s.live pressExpires

/-- DURATION_TIMER_EXPIRY. -/
def execDurationTimerExpiry (s : State) : Host.Outcome State Fault Refusal :=
  s.live durationExpires

/-- REACH_TIMER_EXPIRY. -/
def execReachTimerExpiry (s : State) : Host.Outcome State Fault Refusal := s.live reachExpires

/-- OFF_TIMER_EXPIRY. -/
def execOffTimerExpiry (s : State) : Host.Outcome State Fault Refusal := s.live offExpires

/-- ON_TIMER_EXPIRY. -/
def execOnTimerExpiry (s : State) : Host.Outcome State Fault Refusal := s.live onExpires

/-- BLANKING_TIMER_EXPIRY. -/
def execBlankingTimerExpiry (s : State) : Host.Outcome State Fault Refusal :=
  s.live blankingExpires

end Sys2Proof.Machine
end

