-- ==== Sys2Proof/Machine/Requests.lean ====
section
/-! DEFINITION. Requests and responses (R166 to R171) and the start switch (R25): the commands START,
PAUSE, RESUME, ABORT, CLEAR, SNAPSHOT, STATUS, READ_LOG, READ_COUNTERS, READ_POINT,
START_SWITCH_CLOSE and START_SWITCH_RELEASE. -/

namespace Sys2Proof.Machine

/-! ### Reception (R160) -/

/-- A frame whose source is the station's own slot sets the slot-conflict flag (R69, R160). -/
def State.noteSource (f : RxFrame) (s : State) : State :=
  if f.source = s.slot.setWidth 6 then { s with bgu := { s.bgu with slotConflict := true } } else s

/-- A frame completes on the bus: it is discarded without trace unless it is intact, and is then
noted for its source and delivered (R160). -/
def State.hear (kind : Byte) (f : RxFrame) (deliver : State → State) (s : State) : State :=
  if frameIntact kind f then deliver (s.noteSource f) else s

/-! ### The control source table (R168) -/

/-- An entry matches a source id: their leading compared-length bits are equal (R168). -/
def SourceEntry.matchesId (src : BitVec 6) (e : SourceEntry) : Bool :=
  decide (src >>> (6 - e.length) = e.baseId >>> (6 - e.length))

/-- The control source table in force: empty unless the configuration is VALID (R159). -/
def State.sources (s : State) : List SourceEntry :=
  if s.cfl.status = .valid then s.cfg.sources else []

/-- A table permits a control request from a source: with no entries every source, and otherwise by
the matching entry of the highest number (R168). -/
def permits (table : List SourceEntry) (src : BitVec 6) : Bool :=
  match table with
  | [] => true
  | _ :: _ =>
    match (table.filter (SourceEntry.matchesId src)).getLast? with
    | .none => false
    | some e => e.control

/-! ### Answers (R167) -/

/-- A response is queued to a request (R167): its destination is the request's source, and it
carries the tag, the request kind, the code and the data. The tag of an empty payload is a free
value (log entry 4). -/
def State.respond (kind : Byte) (f : RxFrame) (code : ResponseCode) (data : List Byte)
    (s : State) : State :=
  match f.payload with
  | [] =>
    let tag := Config.missingTag s.free
    { s with free := s.free + 1
             bus := s.bus.queueResponse ⟨f.source, tag, kind, code.code, data⟩ }
  | tag :: _ => { s with bus := s.bus.queueResponse ⟨f.source, tag, kind, code.code, data⟩ }

/-- What a request does and answers. -/
structure Answer where
  after : State
  code : ResponseCode
  data : List Byte

/-- An addressed request that finds the RESPONSE class full is not acted on (R167, step 1). -/
def State.responseFull (s : State) : Bool := decide (4 ≤ s.bus.responses.length)

/-- A request dropped for want of room (R167, step 1). -/
def State.dropRequest (s : State) : State :=
  { s with bus := { s.bus with requestDrops := satInc 65535 s.bus.requestDrops } }

/-- The destination is the station's own slot. -/
def State.addressed (f : RxFrame) (s : State) : Bool := decide (f.dest = s.slot.setWidth 6)

/-- A delivered control request is handled in the order of R167. -/
def State.controlRequest (kind : Byte) (f : RxFrame) (act : State → Answer) (s : State) : State :=
  if s.addressed f then
    if s.responseFull then s.dropRequest
    else if f.payload.length ≠ 1 then s.respond kind f .badRequest []
    else if permits s.sources f.source = false then s.respond kind f .notPermitted []
    else
      let a := act s
      a.after.respond kind f a.code a.data
  else if f.dest = everyNode ∧ f.payload.length = 1 ∧ permits s.sources f.source = true then
    (act s).after
  else s

/-- A delivered read request is handled in the order of R167; one addressed to every node is
ignored. The parameter is the second payload byte (R166). -/
def State.readRequest (kind : Byte) (f : RxFrame) (act : Nat → State → Answer) (s : State) :
    State :=
  if s.addressed f then
    if s.responseFull then s.dropRequest
    else if f.payload.length ≠ 2 then s.respond kind f .badRequest []
    else
      let a := act (byteAt f.payload 1) s
      a.after.respond kind f a.code a.data
  else s

/-- A request of an unknown kind: BAD_REQUEST when addressed and ignored otherwise (R167, steps 1
and 2). -/
def State.unknownRequest (kind : Byte) (f : RxFrame) (s : State) : State :=
  if s.addressed f then
    if s.responseFull then s.dropRequest else s.respond kind f .badRequest []
  else s

/-! ### START (R20) -/

/-- The judgement of START, in the order of R20; OK accepts it. -/
def State.judgeStart (s : State) : ResponseCode :=
  if s.rcu.run ≠ .idle then .wrongState
  else if s.bgu.slotConflict then .slotConflict
  else if s.cfl.status ≠ .valid ∨ s.tmu.settled = false then .notReady
  else .ok

/-- A lane's run history cleared (R20, R108). -/
def Lane.clearHistory (l : Lane) : Lane :=
  { l with signErrors := ⟨0, false⟩, codeErrors := ⟨0, false⟩, markErrors := ⟨0, false⟩
           lockLosses := 0 }

/-- A line's run history cleared (R20, R122). -/
def Line.clearHistory (l : Line) : Line :=
  { l with pulses := 0, riseRack := .none, riseUptime := .none, sup := l.sup.first,
           timer := .none, episodes := 0 }

/-- An accepted START clears the run's history in every block (R20). -/
def State.clearHistory (s : State) : State :=
  { s with
    fcu := .reset
    wck := { s.wck with points := .fill ⟨false, 0, 0, 0⟩ }
    lanes := s.lanes.map Lane.clearHistory
    lines := s.lines.map Line.clearHistory
    bgu := { s.bgu with overdrawEpisodes := 0 }
    rcu := { s.rcu with verdict := .none, cause := .none, clamped := false, blanking := false } }

/-- An accepted START: the history cleared, step 0 entered, and SUPPLY_LOST raised if the supply
sense is ABSENT (R20, R45). -/
def State.startRun (s : State) : State :=
  let s := s.clearHistory.enterStep 0
  if s.sou.sensePresent then s else s.raise .supplyLost [] s.sou.level0

/-- The Run Controller takes START; a refused START changes nothing (R20). -/
def State.takeStart (s : State) : Answer :=
  if s.judgeStart = .ok then ⟨s.startRun, .ok, []⟩ else ⟨s, s.judgeStart, []⟩

/-! ### PAUSE, RESUME, ABORT, CLEAR (R21 to R24) -/

/-- PAUSE in RUNNING: the outputs hold, and the step timers and the power-good wait halt (R21). -/
def State.pauseRun (s : State) : State :=
  { s with sou := s.sou.hold s.cfg
           rcu := { s.rcu with run := .paused } }.refresh

/-- The Run Controller takes PAUSE (R21). -/
def State.takePause (s : State) : Answer :=
  match s.rcu.run with
  | .running => ⟨s.pauseRun, .ok, []⟩
  | .paused => ⟨s, .ok, []⟩
  | .idle => ⟨s, .wrongState, []⟩
  | .claiming => ⟨s, .wrongState, []⟩
  | .waiting => ⟨s, .wrongState, []⟩
  | .ended => ⟨s, .wrongState, []⟩
  | .isolated => ⟨s, .wrongState, []⟩

/-- A completion of the power-on sequence that the pause held (R22). -/
def State.resumePowerOn (s : State) : State :=
  if s.rcu.heldPowerOn then
    { s with rcu := { s.rcu with heldPowerOn := false } }.powerOnComplete
  else s

/-- A reach met report that the pause held (R22). -/
def State.resumeReach (s : State) : State :=
  if s.rcu.heldReach then { s with rcu := { s.rcu with heldReach := false } }.reachMet else s

/-- RESUME in PAUSED: the targets return to the phase's, and the held completions are acted on in
the order of the phase sequence (R22). -/
def State.resumeRun (s : State) : State :=
  let t := s.theStep
  let s := { s with
    sou := s.sou.atSlew s.cfg (s.phaseLevel.getD 0) t.standbyMv t.fanPct t.slew
    rcu := { s.rcu with run := .running } }
  s.refresh.commandLanding.resumePowerOn.resumeReach

/-- The Run Controller takes RESUME (R22). -/
def State.takeResume (s : State) : Answer :=
  match s.rcu.run with
  | .paused => ⟨s.resumeRun, .ok, []⟩
  | .running => ⟨s, .ok, []⟩
  | .idle => ⟨s, .wrongState, []⟩
  | .claiming => ⟨s, .wrongState, []⟩
  | .waiting => ⟨s, .wrongState, []⟩
  | .ended => ⟨s, .wrongState, []⟩
  | .isolated => ⟨s, .wrongState, []⟩

/-- ABORT in an active run: the open groups closed, and the run ended (R23, R145). -/
def State.abortRun (s : State) : State := (s.finalClosing .ending).runEnd .aborted .requested

/-- The Run Controller takes ABORT, which it always answers OK (R23). -/
def State.takeAbort (s : State) : Answer :=
  if s.rcu.run.active then ⟨s.abortRun, .ok, []⟩ else ⟨s, .ok, []⟩

/-- CLEAR in ENDED (R24). -/
def State.clearRun (s : State) : State :=
  { s with
    rcu := { s.rcu with run := .idle, verdict := .none, cause := .none, step := 0, iteration := 0
                        phase := .none }
    sou := s.sou.zero12 }.refresh

/-- The Run Controller takes CLEAR (R24). -/
def State.takeClear (s : State) : Answer :=
  match s.rcu.run with
  | .ended => ⟨s.clearRun, .ok, []⟩
  | .idle => ⟨s, .ok, []⟩
  | .claiming => ⟨s, .wrongState, []⟩
  | .waiting => ⟨s, .wrongState, []⟩
  | .running => ⟨s, .wrongState, []⟩
  | .paused => ⟨s, .wrongState, []⟩
  | .isolated => ⟨s, .wrongState, []⟩

/-! ### SNAPSHOT (R170) -/

/-- The copies of a lane. -/
def Lane.copy (l : Lane) : LaneCopy := ⟨l.signErrors, l.codeErrors, l.markErrors, l.lockLosses⟩

/-- The copies of a line. The seconds of an absent rise are free (log entry 5). -/
def Line.copy (absentSeconds : BitVec 32) (l : Line) : LineCopy :=
  match l.riseRack with
  | .none => ⟨l.pulses, l.episodes, true, ⟨absentSeconds, 0⟩⟩
  | some t => ⟨l.pulses, l.episodes, false, t⟩

/-- The Bus Interface takes SNAPSHOT: every copy at one instant (R170). -/
def State.takeSnapshot (s : State) : Answer :=
  let n := s.free
  let snap : Snapshot :=
    { lanes := s.lanes.map Lane.copy
      lines := s.lines.mapIdx fun i l => l.copy (Config.absentRiseSeconds (n + i.val))
      pointEpisodes := s.wck.points.map fun w => w.episodes
      overdrawEpisodes := s.bgu.overdrawEpisodes
      rack := s.tmu.rack }
  ⟨{ s with bus := { s.bus with snapshot := snap }, free := n + 4 }, .ok, []⟩

/-! ### Reads (R171, Tables 10-9 to 10-11) -/

/-- The data of STATUS page 0 (Table 10-9). The bits of bytes 25 and 32 that the table does not name
are 0 (DESIGN CHOICE, log entry 43). -/
def State.statusPage0 (s : State) : List Byte :=
  beBytes 1 s.rcu.run.code ++ beBytes 1 s.rcu.verdict.code ++ beBytes 1 s.rcu.cause.code ++
  beBytes 1 s.rcu.step ++ beBytes 1 s.rcu.phase.code ++ beBytes 2 s.rcu.iteration ++
  beBytes 2 s.bgu.committed ++ beBytes 2 ((s.bgu.intent.map OwnIntent.claim).getD 0) ++
  beBytes 1 (intentStageCode s.bgu.intent) ++ beBytes 1 s.code.toNat ++
  beBytes 2 s.bgu.refusals ++
  beBytes 2 s.sou.target0 ++ beBytes 2 s.sou.level0 ++
  beBytes 2 s.sou.target1 ++ beBytes 2 s.sou.level1 ++
  beBytes 1 s.sou.target2 ++ beBytes 1 s.sou.level2 ++ beBytes 1 s.outputFlags ++
  beBytes 2 s.asc.power ++ beBytes 1 s.fcu.recordCount ++ beBytes 1 s.fcu.log.length ++
  beBytes 2 s.fcu.lostCount ++ beBytes 1 (bitOf s.fcu.logFull 0 + bitOf s.rcu.clamped 1) ++
  beBytes 4 s.tmu.rack.s.toNat ++ beBytes 4 s.tmu.rack.ns

/-- The data of STATUS page 1 (Table 10-10). The bits of byte 24 that the table does not name are 0
(DESIGN CHOICE, log entry 43). -/
def State.statusPage1 (s : State) : List Byte :=
  beBytes 1 s.cfl.status.code ++ beBytes 1 s.cfl.reason.code ++
  beBytes 2 s.cfl.modelCode.toNat ++ beBytes 4 s.cfl.serial.toNat ++
  beBytes 4 s.tmu.rack.s.toNat ++ beBytes 4 s.tmu.rack.ns ++ beBytes 6 s.tmu.uptime.toNat ++
  beBytes 2 s.tmu.jumps ++
  beBytes 1 (bitOf s.tmu.settled 0 + bitOf s.bgu.slotConflict 1 + bitOf s.viewStale 2) ++
  beBytes 2 s.bus.noticeDrops ++ beBytes 2 s.bus.requestDrops ++
  beBytes 1 s.slot.toNat ++ beBytes 1 s.bgu.peers.length

/-- STATUS (R171). -/
def State.readStatus (page : Nat) (s : State) : Answer :=
  match page with
  | 0 => ⟨s, .ok, s.statusPage0⟩
  | 1 => ⟨s, .ok, s.statusPage1⟩
  | _ => ⟨s, .badRequest, []⟩

/-- READ_LOG (R149, R171). -/
def State.readRecord (index : Nat) (s : State) : Answer :=
  match s.fcu.log[index]? with
  | some r => ⟨s, .ok, recordBytes r⟩
  | .none => ⟨s, .badIndex, []⟩

/-- A lane's copies as READ_COUNTERS gives them (Table 10-11): the terminal flags of SIGN, CODE and
MARK in bits 0, 1 and 2 (DESIGN CHOICE, log entry 41), and 0 in the bits of that byte that the table
does not name (DESIGN CHOICE, log entry 43). -/
def LaneCopy.bytes (l : LaneCopy) : List Byte :=
  beBytes 1 l.sign.count ++ beBytes 1 l.code.count ++ beBytes 1 l.mark.count ++
  beBytes 1 (bitOf l.sign.terminal 0 + bitOf l.code.terminal 1 + bitOf l.mark.terminal 2) ++
  beBytes 2 l.lockLosses

/-- A line's counts as READ_COUNTERS gives them (Table 10-11). -/
def LineCopy.countBytes (l : LineCopy) : List Byte :=
  beBytes 4 l.pulses.toNat ++ beBytes 2 l.episodes

/-- A line's last rise as READ_COUNTERS gives it: nanoseconds FFFFFFFFh when absent. -/
def LineCopy.riseBytes (l : LineCopy) : List Byte :=
  beBytes 4 l.rise.s.toNat ++ beBytes 4 (if l.riseAbsent then 0xFFFFFFFF else l.rise.ns)

/-- The part of the snapshot store that a counter group names (Tables 10-4 and 10-11). -/
def Snapshot.group (n : Snapshot) : Nat → Option (List Byte)
  | 0 => some (n.lanes.toList.flatMap LaneCopy.bytes)
  | 1 => some (n.lines.toList.flatMap LineCopy.countBytes)
  | 2 => some (n.pointEpisodes.toList.flatMap (beBytes 2) ++ beBytes 2 n.overdrawEpisodes)
  | 3 => some (n.lines.toList.flatMap LineCopy.riseBytes)
  | _ => .none

/-- READ_COUNTERS (R171). -/
def State.readGroup (group : Nat) (s : State) : Answer :=
  match s.bus.snapshot.group group with
  | some data =>
    ⟨s, .ok, beBytes 4 s.bus.snapshot.rack.s.toNat ++ beBytes 4 s.bus.snapshot.rack.ns ++ data⟩
  | .none => ⟨s, .badRequest, []⟩

/-- READ_POINT (R171, Table 10-11). The bits of byte 3 that the table does not name are 0 (DESIGN
CHOICE, log entry 43). -/
def State.readPointValue (point : Nat) (s : State) : Answer :=
  if h : point < 8 then
    let v := s.asc.points.get ⟨point, h⟩
    let w := s.wck.points.get ⟨point, h⟩
    ⟨s, .ok, beBytes 1 point ++ beBytes 2 v.code ++
      beBytes 1 (bitOf v.underRange 0 + bitOf v.overRange 1 + bitOf v.calDefault 2 +
        bitOf w.out 3) ++ beInt 2 v.y⟩
  else ⟨s, .badIndex, []⟩

/-! ### The requests' kinds and commands (Table 10-3) -/

def kindStart : Byte := 0x20
def kindPause : Byte := 0x21
def kindResume : Byte := 0x22
def kindAbort : Byte := 0x23
def kindClear : Byte := 0x24
def kindSnapshot : Byte := 0x25
def kindStatus : Byte := 0x30
def kindReadLog : Byte := 0x31
def kindReadCounters : Byte := 0x32
def kindReadPoint : Byte := 0x33

/-- A START request frame. -/
def startFrame (f : RxFrame) (s : State) : State :=
  s.hear kindStart f (State.controlRequest kindStart f State.takeStart)

/-- A PAUSE request frame. -/
def pauseFrame (f : RxFrame) (s : State) : State :=
  s.hear kindPause f (State.controlRequest kindPause f State.takePause)

/-- A RESUME request frame. -/
def resumeFrame (f : RxFrame) (s : State) : State :=
  s.hear kindResume f (State.controlRequest kindResume f State.takeResume)

/-- An ABORT request frame. -/
def abortFrame (f : RxFrame) (s : State) : State :=
  s.hear kindAbort f (State.controlRequest kindAbort f State.takeAbort)

/-- A CLEAR request frame. -/
def clearFrame (f : RxFrame) (s : State) : State :=
  s.hear kindClear f (State.controlRequest kindClear f State.takeClear)

/-- A SNAPSHOT request frame. -/
def snapshotFrame (f : RxFrame) (s : State) : State :=
  s.hear kindSnapshot f (State.controlRequest kindSnapshot f State.takeSnapshot)

/-- A STATUS request frame. -/
def statusFrame (f : RxFrame) (s : State) : State :=
  s.hear kindStatus f (State.readRequest kindStatus f State.readStatus)

/-- A READ_LOG request frame. -/
def readLogFrame (f : RxFrame) (s : State) : State :=
  s.hear kindReadLog f (State.readRequest kindReadLog f State.readRecord)

/-- A READ_COUNTERS request frame. -/
def readCountersFrame (f : RxFrame) (s : State) : State :=
  s.hear kindReadCounters f (State.readRequest kindReadCounters f State.readGroup)

/-- A READ_POINT request frame. -/
def readPointFrame (f : RxFrame) (s : State) : State :=
  s.hear kindReadPoint f (State.readRequest kindReadPoint f State.readPointValue)

/-- START. -/
def execStart (f : RxFrame) (s : State) : Host.Outcome State Fault Refusal := s.live (startFrame f)

/-- PAUSE. -/
def execPause (f : RxFrame) (s : State) : Host.Outcome State Fault Refusal := s.live (pauseFrame f)

/-- RESUME. -/
def execResume (f : RxFrame) (s : State) : Host.Outcome State Fault Refusal :=
  s.live (resumeFrame f)

/-- ABORT. -/
def execAbort (f : RxFrame) (s : State) : Host.Outcome State Fault Refusal := s.live (abortFrame f)

/-- CLEAR. -/
def execClear (f : RxFrame) (s : State) : Host.Outcome State Fault Refusal := s.live (clearFrame f)

/-- SNAPSHOT. -/
def execSnapshot (f : RxFrame) (s : State) : Host.Outcome State Fault Refusal :=
  s.live (snapshotFrame f)

/-- STATUS. -/
def execStatus (f : RxFrame) (s : State) : Host.Outcome State Fault Refusal :=
  s.live (statusFrame f)

/-- READ_LOG. -/
def execReadLog (f : RxFrame) (s : State) : Host.Outcome State Fault Refusal :=
  s.live (readLogFrame f)

/-- READ_COUNTERS. -/
def execReadCounters (f : RxFrame) (s : State) : Host.Outcome State Fault Refusal :=
  s.live (readCountersFrame f)

/-- READ_POINT. -/
def execReadPoint (f : RxFrame) (s : State) : Host.Outcome State Fault Refusal :=
  s.live (readPointFrame f)

/-! ### The start switch (R25) -/

/-- The uptime of a press that divides short from long, in ms (R25). -/
def longPress : Nat := 3000

/-- The switch closes: the uptime at which the press began is kept. -/
def closeSwitch (s : State) : State :=
  if s.rcu.switchClosed.isSome then s
  else { s with rcu := { s.rcu with switchClosed := some s.tmu.uptime } }

/-- The switch is released: a short press acts as START in IDLE and a long press as CLEAR in ENDED;
every other press is ignored, and none is answered (R25). -/
def releaseSwitch (s : State) : State :=
  match s.rcu.switchClosed with
  | .none => s
  | some u =>
    let ms := elapsed s.tmu.uptime u
    let s := { s with rcu := { s.rcu with switchClosed := .none } }
    if ms < longPress then (if s.judgeStart = .ok then s.startRun else s)
    else if s.rcu.run = .ended then s.clearRun
    else s

/-- START_SWITCH_CLOSE. A switch that closes while a reset holds the station is closed at the reset,
and its closing time is uptime 0. -/
def execStartSwitchClose (s : State) : Host.Outcome State Fault Refusal :=
  if s.inReset then .next { s with rcu := { s.rcu with switchClosed := some 0 } }
  else .next (closeSwitch s)

/-- START_SWITCH_RELEASE. A press that ends while a reset holds the station is not judged. -/
def execStartSwitchRelease (s : State) : Host.Outcome State Fault Refusal :=
  if s.inReset then .next { s with rcu := { s.rcu with switchClosed := .none } }
  else .next (releaseSwitch s)

end Sys2Proof.Machine
end

