-- ==== Sys2Proof/Machine/Reception.lean ====
section
/-! DEFINITION. The reception of frames that are no requests (R54, R156, R157, R160), with the commands
BEACON_RECEIVED, INTENT_RECEIVED, COMMIT_RECEIVED and FRAME_RECEIVED. -/

namespace Sys2Proof.Machine

/-! ### The peer view (R53, R54) -/

/-- A new entry: committed claim 0 and no open intent (R53). -/
def Peer.new (slot : Nat) : Peer :=
  { slot := slot, committed := 0, intent := .none, lastHeard := 0, fresh := true }

/-- The entry of a slot. -/
def findPeer (slot : Nat) (peers : List Peer) : Option Peer :=
  peers.find? fun p => decide (p.slot = slot)

/-- An entry put into the view at its place in ascending slot order, instead of the one its slot
had (R53). -/
def putPeer (p : Peer) : List Peer → List Peer
  | [] => [p]
  | q :: qs =>
    if p.slot < q.slot then p :: q :: qs
    else if p.slot = q.slot then p :: qs
    else q :: putPeer p qs

/-- A carried claim above 400 W is taken as 400 W (R54). -/
def takenClaim (n : Nat) : Nat := min n 400

/-- What a BEACON does to its entry (R54). -/
def Peer.takeBeacon (payload : List Byte) (p : Peer) : Peer :=
  { p with committed := takenClaim (wordAt payload 12)
           intent := if byteAt payload 8 = RunState.claiming.code then p.intent else .none }

/-- What an INTENT does to its entry (R54). -/
def Peer.takeIntent (payload : List Byte) (now : Uptime) (p : Peer) : Peer :=
  { p with intent := some (PeerIntent.mk (takenClaim (wordAt payload 8))
             ⟨BitVec.ofNat 32 (longAt payload 0), longAt payload 4⟩ now) }

/-- What a COMMIT does to its entry (R54). -/
def Peer.takeCommit (payload : List Byte) (p : Peer) : Peer :=
  { p with committed := takenClaim (wordAt payload 0), intent := .none }

/-- A frame's source is a peer: a slot that is not the station's own (R53, R69). -/
def State.fromPeer (f : RxFrame) (s : State) : Bool :=
  decide (f.source.toNat < 32) && decide (f.source ≠ s.slot.setWidth 6)

/-- A budget or beacon frame acts on its peer's entry, which is then FRESH and heard now; a decrease
of the entry's committed claim is a retry cause (R53, R54, R62). -/
def State.hearPeer (f : RxFrame) (act : Peer → Peer) (s : State) : State :=
  if s.fromPeer f then
    let old := (findPeer f.source.toNat s.bgu.peers).getD (Peer.new f.source.toNat)
    let new := { act old with lastHeard := s.tmu.uptime, fresh := true }
    let s := { s with bgu := { s.bgu with peers := putPeer new s.bgu.peers } }
    if new.committed < old.committed then s.retryCause else s
  else s

/-! ### Time samples (R156, R157) -/

/-- The jump of a time sample: forward by D when D exceeds 2000 ns (R156). -/
def Tmu.follow (ts tr : RackTime) (t : Tmu) : Tmu :=
  if 2000 < leadNanos ts tr then
    { t with rack := addNanos t.rack (leadNanos ts tr).toNat, jumps := satInc 65535 t.jumps }
  else t

/-- A BEACON's time sample: the jump, and then the time-settled flag (R156, R157). -/
def State.timeSample (ts tr : RackTime) (s : State) : State :=
  { s with tmu := s.tmu.follow ts tr }.becomeSettled

/-- The receive stamp of a frame in the event of its delivery: the station's own rack time as it read
at the frame's first bit (R154), before the periods that have passed since (log entry 37). -/
def State.receiveStamp (f : RxFrame) (s : State) : RackTime := subNanos s.tmu.rack (20 * f.age)

/-! ### The kinds of the frames -/

def kindBeacon : Byte := 0x01
def kindIntent : Byte := 0x02
def kindCommit : Byte := 0x03
def kindFault : Byte := 0x10
def kindRun : Byte := 0x11
def kindResponse : Byte := 0x40

/-- A delivered BEACON of its payload length (R54, R156). -/
def State.takeBeacon (f : RxFrame) (s : State) : State :=
  if f.payload.length = 17 then
    (s.hearPeer f (Peer.takeBeacon f.payload)).timeSample
      ⟨BitVec.ofNat 32 (longAt f.payload 0), longAt f.payload 4⟩ (s.receiveStamp f)
  else s

/-- A delivered INTENT of its payload length (R54). -/
def State.takeIntent (f : RxFrame) (s : State) : State :=
  if f.payload.length = 10 then s.hearPeer f (Peer.takeIntent f.payload s.tmu.uptime) else s

/-- A delivered COMMIT of its payload length (R54). -/
def State.takeCommit (f : RxFrame) (s : State) : State :=
  if f.payload.length = 2 then s.hearPeer f (Peer.takeCommit f.payload) else s

/-- A BEACON completes on the bus. -/
def beaconFrame (f : RxFrame) (s : State) : State := s.hear kindBeacon f (State.takeBeacon f)

/-- An INTENT completes on the bus. -/
def intentFrame (f : RxFrame) (s : State) : State := s.hear kindIntent f (State.takeIntent f)

/-- A COMMIT completes on the bus. -/
def commitFrame (f : RxFrame) (s : State) : State := s.hear kindCommit f (State.takeCommit f)

/-- The kinds that the station receives and does not use: notices and responses (R160). -/
def unusedKind (kind : Byte) : Bool :=
  decide (kind = kindFault ∨ kind = kindRun ∨ kind = kindResponse)

/-- A delivered frame of a kind that has no row of its own: not used when it is a notice or a
response, and otherwise a request of an unknown kind (R160, R167, log entry 15). -/
def State.takeOther (kind : Byte) (f : RxFrame) (s : State) : State :=
  if unusedKind kind then s else s.unknownRequest kind f

/-- A frame of any kind completes on the bus: a kind that has a row of its own acts as that row. -/
def anyFrame (kind : Byte) (f : RxFrame) (s : State) : State :=
  if kind = kindBeacon then beaconFrame f s
  else if kind = kindIntent then intentFrame f s
  else if kind = kindCommit then commitFrame f s
  else if kind = kindStart then startFrame f s
  else if kind = kindPause then pauseFrame f s
  else if kind = kindResume then resumeFrame f s
  else if kind = kindAbort then abortFrame f s
  else if kind = kindClear then clearFrame f s
  else if kind = kindSnapshot then snapshotFrame f s
  else if kind = kindStatus then statusFrame f s
  else if kind = kindReadLog then readLogFrame f s
  else if kind = kindReadCounters then readCountersFrame f s
  else if kind = kindReadPoint then readPointFrame f s
  else s.hear kind f (State.takeOther kind f)

/-- BEACON_RECEIVED. -/
def execBeaconReceived (f : RxFrame) (s : State) : Host.Outcome State Fault Refusal :=
  s.live (beaconFrame f)

/-- INTENT_RECEIVED. -/
def execIntentReceived (f : RxFrame) (s : State) : Host.Outcome State Fault Refusal :=
  s.live (intentFrame f)

/-- COMMIT_RECEIVED. -/
def execCommitReceived (f : RxFrame) (s : State) : Host.Outcome State Fault Refusal :=
  s.live (commitFrame f)

/-- FRAME_RECEIVED. -/
def execFrameReceived (kind : Byte) (f : RxFrame) (s : State) : Host.Outcome State Fault Refusal :=
  s.live (anyFrame kind f)

end Sys2Proof.Machine
end

