-- ==== Sys2Proof/Machine/Transmission.lean ====
section
/-! DEFINITION. Transmission (R50, R161 to R165): the commands ATTEMPT_START, ARBITRATION_LOSS,
BUS_ERROR, TRANSMIT_COMPLETE, BEACON_TIMER_EXPIRY and TRANSMIT_SUCCESS_TIMER_EXPIRY. -/

namespace Sys2Proof.Machine

/-! ### The frames as they go out (Tables 10-2, 10-3, 10-5 to 10-8) -/

/-- The lowest-numbered class that holds a frame (R161). -/
def Bif.firstClass (b : Bif) : Option FrameClass :=
  if b.budget.isSome then some .budget
  else if b.notices ≠ [] then some .notice
  else if b.responses ≠ [] then some .response
  else if b.beacon.isSome then some .beacon
  else .none

/-- A rack time as eight bytes: seconds, nanoseconds. -/
def rackBytes (t : RackTime) : List Byte := beBytes 4 t.s.toNat ++ beBytes 4 t.ns

/-- A BEACON's payload, taken at the start of frame (R52, R164, Table 10-6). -/
def State.beaconPayload (stamp : RackTime) (s : State) : List Byte :=
  rackBytes stamp ++ beBytes 1 s.rcu.run.code ++ beBytes 1 s.rcu.step ++
  beBytes 1 s.rcu.verdict.code ++ beBytes 1 s.beaconFlags ++ beBytes 2 s.bgu.committed ++
  beBytes 2 s.asc.power ++ beBytes 1 s.fcu.recordCount

/-- The kind and payload of a BUDGET frame at its start of frame (R50, R51, Table 10-5). -/
def State.budgetPayload (stamp : RackTime) (s : State) : BudgetFrame → Byte × List Byte
  | .intent claim _ => (kindIntent, rackBytes stamp ++ beBytes 2 claim)
  | .commit => (kindCommit, beBytes 2 s.bgu.committed)

/-- The kind and payload of a notice (R172). -/
def Notice.payload : Notice → Byte × List Byte
  | .fault r => (kindFault, recordBytes r)
  | .run n => (kindRun, runNoticeBytes n)

/-- The payload of a response: tag, request kind, code, data. -/
def Response.payload (r : Response) : List Byte := r.tag :: r.kind :: r.code :: r.data

/-- The bytes of the head of a class as an attempt sends them, its fields taken at the start of
frame. Budget frames, beacons and notices address every node (log entry 16). -/
def State.headBytes (stamp : RackTime) (s : State) : FrameClass → List Byte
  | .budget => match s.bus.budget with
    | .none => []
    | some q =>
      let p := s.budgetPayload stamp q.frame
      frameBytes 0 s.slot everyNode p.1 p.2
  | .notice => match s.bus.notices with
    | [] => []
    | q :: _ => frameBytes 1 s.slot everyNode q.frame.payload.1 q.frame.payload.2
  | .response => match s.bus.responses with
    | [] => []
    | q :: _ => frameBytes 2 s.slot q.frame.dest kindResponse q.frame.payload
  | .beacon => frameBytes 3 s.slot everyNode kindBeacon (s.beaconPayload stamp)

/-- ATTEMPT_START (R161, R154): with no attempt under way, the head of the lowest non-empty class is
attempted, stamped at its start of frame. -/
def startAttempt (s : State) : State :=
  match s.bus.attempt with
  | some _ => s
  | .none =>
    match s.bus.firstClass with
    | .none => s
    | some c =>
      let a : Attempt := ⟨c, s.tmu.rack, s.headBytes s.tmu.rack c⟩
      { s with bus := { s.bus with attempt := some a } }

/-! ### Arbitration loss and bus errors (R161, R162) -/

/-- ARBITRATION_LOSS (R161): the attempt ends, and a newer frame that waited for it replaces the
older one. A loss neither increments nor clears the bus-error run (R162). -/
def loseArbitration (s : State) : State :=
  match s.bus.attempt with
  | .none => s
  | some _ => { s with bus := { s.bus with attempt := .none }.admitNewer }

/-- A failed BUDGET frame: the own INTENT and a COMMIT are queued afresh, and an INTENT whose intent
has been withdrawn is wanted by nobody (R50, R51, R162). -/
def BudgetFrame.afterFailure : BudgetFrame → Option (Queued BudgetFrame)
  | .intent c true => some ⟨.intent c true, 0⟩
  | .intent _ false => .none
  | .commit => some ⟨.commit, 0⟩

/-- One more abort of a frame: whether the frame fails at it (R162). -/
def failsAt (errorRun : Nat) : Bool := decide (3 ≤ errorRun + 1)

/-- An abort of the BUDGET class's frame that no newer frame replaces. -/
def Bif.abortBudget (b : Bif) : Bif :=
  match b.budget with
  | .none => b
  | some q =>
    { b with budget := if failsAt q.errorRun then q.frame.afterFailure
                       else some ⟨q.frame, q.errorRun + 1⟩ }

/-- An abort of the BEACON class's frame that no newer frame replaces. -/
def Bif.abortBeacon (b : Bif) : Bif :=
  match b.beacon with
  | .none => b
  | some q => { b with beacon := if failsAt q.errorRun then .none else some ⟨(), q.errorRun + 1⟩ }

/-- An abort of the NOTICE class's head. -/
def Bif.abortNotice (b : Bif) : Bif :=
  match b.notices with
  | [] => b
  | q :: qs =>
    if failsAt q.errorRun then
      { b with notices := qs, noticeDrops := satInc 65535 b.noticeDrops }
    else { b with notices := ⟨q.frame, q.errorRun + 1⟩ :: qs }

/-- An abort of the RESPONSE class's head. -/
def Bif.abortResponse (b : Bif) : Bif :=
  match b.responses with
  | [] => b
  | q :: qs =>
    if failsAt q.errorRun then
      { b with responses := qs, requestDrops := satInc 65535 b.requestDrops }
    else { b with responses := ⟨q.frame, q.errorRun + 1⟩ :: qs }

/-- A newer frame of a class waits for its attempt to finish. -/
def Bif.newerWaits (b : Bif) : FrameClass → Bool
  | .budget => b.budgetNext.isSome
  | .notice => false
  | .response => false
  | .beacon => b.beaconNext

/-- The abort counts in the bus-error run of the frame (R162). -/
def Bif.countAbort (b : Bif) : FrameClass → Bif
  | .budget => b.abortBudget
  | .notice => b.abortNotice
  | .response => b.abortResponse
  | .beacon => b.abortBeacon

/-- BUS_ERROR (R162): the attempt is aborted. A newer frame that waited replaces the frame
(log entry 17); otherwise the frame's run counts the abort while the isolated flag is clear, and the
frame fails at the third. -/
def abortAttempt (s : State) : State :=
  match s.bus.attempt with
  | .none => s
  | some a =>
    let b := { s.bus with attempt := .none }
    if b.newerWaits a.cls then { s with bus := b.admitNewer }
    else if b.isolated then { s with bus := b }
    else { s with bus := b.countAbort a.cls }

/-! ### Completion (R50, R161, R165) -/

/-- The completed frame leaves its class. -/
def Bif.removeHead (b : Bif) : FrameClass → Bif
  | .budget => { b with budget := .none }
  | .notice => { b with notices := b.notices.tail }
  | .response => { b with responses := b.responses.tail }
  | .beacon => { b with beacon := .none }

/-- The head of the BUDGET class is the frame queued for the own intent. -/
def Bif.ownIntentHead (b : Bif) : Bool :=
  match b.budget with
  | some ⟨.intent _ true, _⟩ => true
  | some ⟨.intent _ false, _⟩ => false
  | some ⟨.commit, _⟩ => false
  | .none => false

/-- The own INTENT has completed: the own intent enters WINDOW with the stamp of the attempt as its
intent time, and the claim window starts (R50). -/
def State.openWindow (stamp : RackTime) (s : State) : State :=
  match s.bgu.intent with
  | some ⟨w, .queued⟩ =>
    { s with bgu := { s.bgu with intent := some ⟨w, .window stamp⟩, window := some 300 } }
  | some ⟨_, .held⟩ => s
  | some ⟨_, .window _⟩ => s
  | .none => s

/-- Recovery: at the first transmit-complete the isolated flag clears, the Run Controller leaves
ISOLATED, and a load whose conditions now hold starts (R30, R165, R177). -/
def State.recover (s : State) : State :=
  if s.bus.isolated then
    let s := { s with bus := { s.bus with isolated := false } }
    let s := if s.rcu.run = .isolated then s.leaveIsolated else s
    s.tryLoad
  else s

/-- TRANSMIT_COMPLETE (R161, R165, R50). -/
def completeAttempt (s : State) : State :=
  match s.bus.attempt with
  | .none => s
  | some a =>
    let own := decide (a.cls = .budget) && s.bus.ownIntentHead
    let b := ({ s.bus with attempt := .none }.removeHead a.cls).admitNewer
    let s := { s with bus := { b with lastSuccess := s.tmu.uptime, successTimer := some 2000 } }
    let s := if own then s.openWindow a.stamp else s
    s.recover

/-! ### The timers of the Bus Interface (R164, R165) -/

/-- BEACON_TIMER_EXPIRY (R164). -/
def beaconTimerExpires (s : State) : State :=
  if s.bus.beaconTimer = 0 then { s with bus := { s.bus.queueBeacon with beaconTimer := 250 } }
  else s

/-- TRANSMIT_SUCCESS_TIMER_EXPIRY (R165, R30). -/
def successTimerExpires (s : State) : State :=
  if s.bus.successTimer.due = true ∧ s.bus.isolated = false then
    { s with bus := { s.bus with isolated := true, successTimer := .none } }.enterIsolated
      (elapsed s.tmu.uptime s.bus.lastSuccess)
  else s

/-- ATTEMPT_START. -/
def execAttemptStart (s : State) : Host.Outcome State Fault Refusal := s.live startAttempt

/-- ARBITRATION_LOSS. -/
def execArbitrationLoss (s : State) : Host.Outcome State Fault Refusal := s.live loseArbitration

/-- BUS_ERROR. -/
def execBusError (s : State) : Host.Outcome State Fault Refusal := s.live abortAttempt

/-- TRANSMIT_COMPLETE. -/
def execTransmitComplete (s : State) : Host.Outcome State Fault Refusal := s.live completeAttempt

/-- BEACON_TIMER_EXPIRY. -/
def execBeaconTimerExpiry (s : State) : Host.Outcome State Fault Refusal :=
  s.live beaconTimerExpires

/-- TRANSMIT_SUCCESS_TIMER_EXPIRY. -/
def execTransmitSuccessTimerExpiry (s : State) : Host.Outcome State Fault Refusal :=
  s.live successTimerExpires

end Sys2Proof.Machine
end

