-- ==== Sys2Proof/Machine/Dispatch.lean ====
section
/-! DEFINITION. The effect of each command, one arm per row of spec/opcode_table.json. -/

namespace Sys2Proof.Machine

/-- The effect of a command on everything but the queue. -/
def exec (i : Instr) (s : State) : Host.Outcome State Fault Refusal :=
  match i with
  | .powerOnReset => Sys2Proof.Machine.execPowerOnReset s
  | .rackReset => Sys2Proof.Machine.execRackReset s
  | .resetEnd slot code => Sys2Proof.Machine.execResetEnd slot code s
  | .start f => Sys2Proof.Machine.execStart f s
  | .pause f => Sys2Proof.Machine.execPause f s
  | .resume f => Sys2Proof.Machine.execResume f s
  | .abort f => Sys2Proof.Machine.execAbort f s
  | .clear f => Sys2Proof.Machine.execClear f s
  | .snapshot f => Sys2Proof.Machine.execSnapshot f s
  | .status f => Sys2Proof.Machine.execStatus f s
  | .readLog f => Sys2Proof.Machine.execReadLog f s
  | .readCounters f => Sys2Proof.Machine.execReadCounters f s
  | .readPoint f => Sys2Proof.Machine.execReadPoint f s
  | .beaconReceived f => Sys2Proof.Machine.execBeaconReceived f s
  | .intentReceived f => Sys2Proof.Machine.execIntentReceived f s
  | .commitReceived f => Sys2Proof.Machine.execCommitReceived f s
  | .frameReceived kind f => Sys2Proof.Machine.execFrameReceived kind f s
  | .attemptStart => Sys2Proof.Machine.execAttemptStart s
  | .arbitrationLoss => Sys2Proof.Machine.execArbitrationLoss s
  | .busError => Sys2Proof.Machine.execBusError s
  | .transmitComplete => Sys2Proof.Machine.execTransmitComplete s
  | .beaconTimerExpiry => Sys2Proof.Machine.execBeaconTimerExpiry s
  | .transmitSuccessTimerExpiry => Sys2Proof.Machine.execTransmitSuccessTimerExpiry s
  | .outputTick => Sys2Proof.Machine.execOutputTick s
  | .pressTimerExpiry => Sys2Proof.Machine.execPressTimerExpiry s
  | .powerGoodWaitExpiry => Sys2Proof.Machine.execPowerGoodWaitExpiry s
  | .durationTimerExpiry => Sys2Proof.Machine.execDurationTimerExpiry s
  | .reachTimerExpiry => Sys2Proof.Machine.execReachTimerExpiry s
  | .offTimerExpiry => Sys2Proof.Machine.execOffTimerExpiry s
  | .onTimerExpiry => Sys2Proof.Machine.execOnTimerExpiry s
  | .blankingTimerExpiry => Sys2Proof.Machine.execBlankingTimerExpiry s
  | .outputLimitInputChange asserted => Sys2Proof.Machine.execOutputLimitInputChange asserted s
  | .outputLimitTimerExpiry => Sys2Proof.Machine.execOutputLimitTimerExpiry s
  | .supplySenseChange present => Sys2Proof.Machine.execSupplySenseChange present s
  | .startSwitchClose => Sys2Proof.Machine.execStartSwitchClose s
  | .startSwitchRelease => Sys2Proof.Machine.execStartSwitchRelease s
  | .scanStart => Sys2Proof.Machine.execScanStart s
  | .conversionCompletion microvolts => Sys2Proof.Machine.execConversionCompletion microvolts s
  | .codeGroupArrival lane group => Sys2Proof.Machine.execCodeGroupArrival lane group s
  | .watchLineEdge line rising => Sys2Proof.Machine.execWatchLineEdge line rising s
  | .heartbeatIntervalExpiry line => Sys2Proof.Machine.execHeartbeatIntervalExpiry line s
  | .rateWindowExpiry line => Sys2Proof.Machine.execRateWindowExpiry line s
  | .claimWindowExpiry => Sys2Proof.Machine.execClaimWindowExpiry s
  | .retryIntervalExpiry => Sys2Proof.Machine.execRetryIntervalExpiry s
  | .waitingLimitReached => Sys2Proof.Machine.execWaitingLimitReached s
  | .listeningIntervalEnd => Sys2Proof.Machine.execListeningIntervalEnd s
  | .peerEntryStale slot => Sys2Proof.Machine.execPeerEntryStale slot s
  | .peerEntryRemoval slot => Sys2Proof.Machine.execPeerEntryRemoval slot s
  | .peerIntentLifetimeExpiry slot => Sys2Proof.Machine.execPeerIntentLifetimeExpiry slot s
  | .settleTimerExpiry => Sys2Proof.Machine.execSettleTimerExpiry s
  | .fixturePresentChange fixture => Sys2Proof.Machine.execFixturePresentChange fixture s
  | .fixtureDebounceExpiry => Sys2Proof.Machine.execFixtureDebounceExpiry s
  | .loadCompletion answered => Sys2Proof.Machine.execLoadCompletion answered s
  | .loadTimerExpiry answered => Sys2Proof.Machine.execLoadTimerExpiry answered s
  | .closeTimerExpiry => Sys2Proof.Machine.execCloseTimerExpiry s
  | .rackTimeAdvance => Sys2Proof.Machine.execRackTimeAdvance s
  | .memoryNoResponse answered => Sys2Proof.Machine.execMemoryNoResponse answered s

end Sys2Proof.Machine
end

