-- ==== Sys2Proof/Safety.lean ====
section
/-! DEFINITION. The terms the claims use: what the manual promises of every state of the station, when
a frame is taken as a request, and what a run end leaves behind. -/

namespace Sys2Proof.Machine

/-- In IDLE, ENDED and ISOLATED OUT0 stands at 0 mV and the button is released (R38). -/
def State.outputsSafe (s : State) : Prop :=
  s.rcu.run.active = false →
    s.sou.target0 = 0 ∧ s.sou.level0 = 0 ∧ s.sou.pressed = false ∧ s.sou.pressTimer = none

/-- The board-on flag is the condition of R17. -/
def State.boardOnRight (s : State) : Prop := s.rcu.boardOn = s.boardOnNow

/-- A lane is out of OFF only while the board-on flag is set (R109, R118). -/
def State.lanesFollowBoard (s : State) : Prop :=
  ∀ i : Fin 4, (s.lanes.get i).lock ≠ .off → s.rcu.boardOn = true

/-- What the board-on flag and the supervision of R124 allow a line: a HEARTBEAT or RATE line is armed
exactly while that supervision is in force, a RESET_WATCH line ASSERTED only while it is, and a
POWER_GOOD line out of OFF only while the board is on (R124 to R126, R129, R130). -/
def Supervision.allowed (on inForce : Bool) : Supervision → Prop
  | .unused => True
  | .heartbeat h => h = .disarmed ↔ inForce = false
  | .rate armed _ => armed = inForce
  | .powerGood p => on = false → p = .off
  | .resetWatch asserted => inForce = false → asserted = false

/-- Every line stands as the board-on and blanking flags allow it (R124, R129). -/
def State.linesFollowBoard (s : State) : Prop :=
  ∀ i : Fin 4, (s.lines.get i).sup.allowed s.rcu.boardOn s.supervising

/-- What the run state says of the claim and the plan: an own intent is open only in CLAIMING and the
wait state set only in WAITING (R8, R61), neither has taken an arrival (R7), and an active run has a
VALID configuration (R20, R177). -/
def State.stagesRight (s : State) : Prop :=
  (s.bgu.intent ≠ none → s.rcu.run = .claiming) ∧
    (s.bgu.waitingSince ≠ none → s.rcu.run = .waiting) ∧
    (s.rcu.run = .claiming ∨ s.rcu.run = .waiting → s.rcu.arrivalTaken = false) ∧
    (s.rcu.run.active = true → s.cfl.status = .valid)

/-- A power-on in progress is one to a level above 0 mV, and OUT0 stands above 0 mV from its arrival on
(R9, R11, R15). -/
def State.powerOnRight (s : State) : Prop :=
  s.rcu.run = .running ∨ s.rcu.run = .paused →
    s.rcu.phase = .settling ∨ s.rcu.phase = .powering → s.rcu.powerOnPending = true →
    0 < setPoint s.cfg s.theStep ∧
      (s.rcu.arrivalTaken = true → 0 < s.sou.target0 ∧ 0 < s.sou.level0)

/-- The model code and the serial read 0 without a fixture's status, and in a load until its first ten
bytes have been read (R176, R178, R182; log entry 31). -/
def State.idsRight (s : State) : Prop :=
  s.cfl.status = .absent ∨ (s.cfl.status = .loading ∧ s.cfl.read < 10) →
    s.cfl.modelCode = 0 ∧ s.cfl.serial = 0

/-- The log holds at most 64 records, each at the index it carries (R146). -/
def State.logOrdered (s : State) : Prop :=
  s.fcu.log.length ≤ 64 ∧ ∀ (k : Nat) (r : Record), s.fcu.log[k]? = some r → r.index = k

/-- The outbox classes stay within their capacities (R163). -/
def State.outboxBounded (s : State) : Prop :=
  s.bus.notices.length ≤ 8 ∧ s.bus.responses.length ≤ 4

/-- The slots of a peer view stand in strictly ascending order, each below 32 and none the
station's own (R53). -/
def peersOrdered (own : Nat) : List Peer → Prop
  | [] => True
  | p :: ps => p.slot < 32 ∧ p.slot ≠ own ∧ (∀ q ∈ ps, p.slot < q.slot) ∧ peersOrdered own ps

/-- The peer view of R53; it is empty while a reset holds the station, which has no slot yet. -/
def State.viewOrdered (s : State) : Prop :=
  peersOrdered s.slot.toNat s.bgu.peers ∧ (s.inReset = true → s.bgu.peers = [])

/-- Rack time's nanoseconds stay below 1,000,000,000 (R151). -/
def State.rackTimeRight (s : State) : Prop := s.tmu.rack.ns < 1000000000

/-- Every claim of the Budget Unit lies between 0 and 400 W (R66), as do those of the plan that it
is asked for (R3). -/
def State.claimsBounded (s : State) : Prop :=
  s.bgu.committed ≤ 400 ∧ (∀ w, s.bgu.pendingLower = some w → w ≤ 400) ∧
    (∀ i, s.bgu.intent = some i → i.claim ≤ 400) ∧
    (∀ c, s.cfl.config = some c → ∀ t ∈ c.steps, t.claimW ≤ 400)

/-- The promises that hang together: which state the outputs stand in, what follows the board-on and
blanking flags, and what these rest on, the stages of a claim and of a power-on. -/
structure State.BoardSafe (s : State) : Prop where
  outputs : s.outputsSafe
  boardOn : s.boardOnRight
  lanes : s.lanesFollowBoard
  lines : s.linesFollowBoard
  stages : s.stagesRight
  powerOn : s.powerOnRight

/-! ### Frames and requests -/

/-- The kind and the frame of a command that is a reception. -/
def frameOf : Instr → Option (Byte × RxFrame)
  | .start f => some (kindStart, f)
  | .pause f => some (kindPause, f)
  | .resume f => some (kindResume, f)
  | .abort f => some (kindAbort, f)
  | .clear f => some (kindClear, f)
  | .snapshot f => some (kindSnapshot, f)
  | .status f => some (kindStatus, f)
  | .readLog f => some (kindReadLog, f)
  | .readCounters f => some (kindReadCounters, f)
  | .readPoint f => some (kindReadPoint, f)
  | .beaconReceived f => some (kindBeacon, f)
  | .intentReceived f => some (kindIntent, f)
  | .commitReceived f => some (kindCommit, f)
  | .frameReceived kind f => some (kind, f)
  | _ => none

/-- The station is not held in reset, and a frame with a good check arrives from another node
(R160). -/
def State.hears (kind : Byte) (f : RxFrame) (s : State) : Bool :=
  !s.inReset && frameIntact kind f && decide (f.source ≠ s.slot.setWidth 6)

/-- A frame that is heard is addressed to the station and finds room for its answer (R167,
step 1). -/
def State.hearsRequest (kind : Byte) (f : RxFrame) (s : State) : Bool :=
  s.hears kind f && s.addressed f && !s.responseFull

/-- A control request passes every step of R167 before its action. -/
def State.takesControl (kind : Byte) (f : RxFrame) (s : State) : Bool :=
  s.hearsRequest kind f && decide (f.payload.length = 1) && permits s.sources f.source

/-- A read request passes every step of R167 before its action. -/
def State.takesRead (kind : Byte) (f : RxFrame) (s : State) : Bool :=
  s.hearsRequest kind f && decide (f.payload.length = 2)

/-- A permitted control request arrives addressed to every node (R167). -/
def State.takesBroadcast (kind : Byte) (f : RxFrame) (s : State) : Bool :=
  s.hears kind f && decide (f.dest = everyNode) && decide (f.payload.length = 1) &&
    permits s.sources f.source

/-- The response that R167 queues: to the request's source, with its tag, its kind, a code and
data. -/
def answerTo (kind : Byte) (f : RxFrame) (code : Byte) (data : List Byte) : Queued Response :=
  ⟨⟨f.source, f.payload.headD 0, kind, code, data⟩, 0⟩

/-- A request answered with a code and no data, and nothing else changed (R167). -/
def State.answered (kind : Byte) (f : RxFrame) (code : Byte) (s : State) : State :=
  { s with bus := { s.bus with responses := s.bus.responses ++ [answerTo kind f code []] } }

/-- A request is answered BAD_REQUEST and not acted on (R167): only the outbox changes. The tag is the
request's first payload byte, and is left open where the payload is empty, which uses up one free
value (log entry 4). -/
def State.answersBad (kind : Byte) (f : RxFrame) (s t : State) : Prop :=
  ∃ tag : Byte, (∀ b rest, f.payload = b :: rest → tag = b) ∧
    t = { s with
      bus := { s.bus with responses := s.bus.responses ++ [⟨⟨f.source, tag, kind, 6, []⟩, 0⟩] }
      free := if f.payload = [] then s.free + 1 else s.free }

/-- The entry of a slot in the view, as claim and open intent: a slot without one counts as claim 0
and no intent (R53). -/
def State.heldClaim (slot : Nat) (s : State) : Nat :=
  ((findPeer slot s.bgu.peers).map Peer.committed).getD 0

/-- The open intent that the view holds of a slot (R53). -/
def State.heldIntent (slot : Nat) (s : State) : Option PeerIntent :=
  (findPeer slot s.bgu.peers).bind Peer.intent

/-- A list of peers holds an entry of its own for one slot and agrees with the view of a state on
every other slot. -/
def State.onlyPeer (slot : Nat) (p : Peer) (peers : List Peer) (s : State) : Prop :=
  findPeer slot peers = some p ∧ ∀ n, n ≠ slot → findPeer n peers = findPeer n s.bgu.peers

/-- A rack time as one count of nanoseconds. -/
def RackTime.total (t : RackTime) : Nat := t.s.toNat * 1000000000 + t.ns

/-! ### Raises that are recorded -/

/-- A raise of the step policy CONTINUE becomes a record at once and ends nothing: a run is active,
no coalescing is configured, the log has room, and the record is not the last that max_faults allows
(R26, R138, R146, R147). -/
structure State.RecordsAtOnce (s : State) : Prop where
  active : s.rcu.run.active = true
  policy : s.policyStep.policy = .goOn
  coalesce : s.cfg.coalesceMs = 0
  room : s.fcu.log.length < 64
  allowed : s.fcu.recordCount + 1 ≠ s.cfg.maxFaults

/-- What the record of a raise holds, the raise being accepted in a state (R133, R137, R146,
Table 8-5), and the FAULT notice that goes with it (R148). -/
structure Recorded (kind : FaultKind) (points : List Nat) (value : Int) (s t : State)
    (r : Record) : Prop where
  log : t.fcu = { s.fcu with log := s.fcu.log ++ [r], recordCount := s.fcu.recordCount + 1 }
  index : r.index = s.fcu.log.length
  kind : r.kind = kind
  points : r.points = points
  value : r.value = min value 2147483647
  times : r.rack = s.tmu.rack ∧ r.uptime = s.tmu.uptime
  position : r.step = s.rcu.step ∧ r.phase = s.rcu.phase ∧ r.iteration = s.rcu.iteration
  context : r.context = none ↔ s.sou.level0 = 0
  notice : s.bus.notices.length < 8 → t.bus.notices = s.bus.notices ++ [⟨.fault r, 0⟩]

/-- The record of a raise that is accepted in a state (R133, R137, Table 8-5), before it takes its
index in the log. -/
structure Raised (kind : FaultKind) (points : List Nat) (value : Int) (s : State) (r : Record) :
    Prop where
  kind : r.kind = kind
  points : r.points = points
  value : r.value = min value 2147483647
  times : r.rack = s.tmu.rack ∧ r.uptime = s.tmu.uptime
  position : r.step = s.rcu.step ∧ r.phase = s.rcu.phase ∧ r.iteration = s.rcu.iteration
  context : r.context = none ↔ s.sou.level0 = 0

/-! ### Closings (R144 to R147) -/

/-- The records of the open groups, in opening order. -/
def State.openRecords (s : State) : List Record := s.fcu.groups.map fun g => g.record

/-- What the final closing for a point-bearing raise writes, in order (R144): with W = 0 the raise and
then the open groups, and otherwise the open groups with the raise in the group of its kind, which is
opened last where none was open. -/
def State.closingRecords (r : Record) (s : State) : List Record :=
  if s.cfg.coalesceMs = 0 then r :: s.openRecords
  else if ∀ g ∈ s.fcu.groups, g.record.kind ≠ r.kind then s.openRecords ++ [r]
  else s.openRecords.map fun q =>
    if q.kind = r.kind then { q with points := joinPoints r.points q.points } else q

/-- Records as they stand in the log behind those of a state, each at its index (R146). -/
def State.indexed (written : List Record) (s : State) : List Record :=
  written.mapIdx fun k r => { r with index := s.fcu.log.length + k }

/-- The records that a closing has written, in order: counted, and stored while fewer than 64 stand in
the log, or lost and counted (R146). -/
structure Wrote (written : List Record) (s t : State) : Prop where
  count : t.fcu.recordCount = s.fcu.recordCount + written.length
  log : t.fcu.log = s.fcu.log ++ (s.indexed written).take (64 - s.fcu.log.length)
  full : t.fcu.logFull = (s.fcu.logFull || decide (64 - s.fcu.log.length < written.length))
  lost : s.fcu.lostCount ≤ 65535 → t.fcu.lostCount =
    min (s.fcu.lostCount + (written.length - (64 - s.fcu.log.length))) 65535

/-! ### Step starts -/

/-- OUT0 stands on the set-point of the step in progress as soon as its targets are applied (R9, R10):
it stands there already, or the step has no slew. A set-point above the hardware limit is never
reached (R33). -/
def State.landsAtStart (s : State) : Prop :=
  setPoint s.cfg s.theStep ≤ 13200 ∧
    (s.theStep.slew = 0 ∨ s.sou.level0 = setPoint s.cfg s.theStep)

/-- SETTLING is over: REACHING with its timer and its request where the step has a reach field, and
TIMING with its duration otherwise (R11 to R13). -/
def State.leavesSettling (s t : State) : Prop :=
  (s.theStep.reachPresent = false →
    t.rcu.phase = .timing ∧ t.rcu.duration = some (s.theStep.durationS * 1000)) ∧
  (s.theStep.reachPresent = true →
    t.rcu.phase = .reaching ∧ t.rcu.reach = some (s.theStep.reachTimeoutS * 1000) ∧
    t.wck.reach = some ⟨s.theStep.reachPoint, s.theStep.reachTarget, s.theStep.reachBand⟩)

/-- SETTLING or POWERING is over: SETTLING by R11, and POWERING with ON (R15). -/
def State.leavesPhase (s t : State) : Prop :=
  (s.rcu.phase = .settling → s.leavesSettling t) ∧ (s.rcu.phase = .powering → t.rcu.phase = .on)

/-- What the arrival of SETTLING or POWERING at an OUT0 level leaves (R10), a free budget class given:
the blanking timer starts (R18), in POWERING the on timer (R16), and a pending lower claim is committed
(R66). With a power-on pending its press or its power-good wait goes first (R11, R127), and otherwise
the phase is over. -/
structure Arrived (level : Nat) (s t : State) : Prop where
  position : t.rcu.run = .running ∧ t.rcu.arrivalTaken = true ∧ t.rcu.step = s.rcu.step ∧
    t.rcu.iteration = s.rcu.iteration ∧ t.rcu.governing = s.rcu.governing
  blanking : 0 < s.theStep.blankingMs →
    t.rcu.blankingTimer = some s.theStep.blankingMs ∧ t.rcu.blanking = s.rcu.blanking
  unblanked : s.theStep.blankingMs = 0 → t.rcu.blanking = false ∧ t.rcu.blankingTimer = none
  onTimer : s.rcu.phase = .powering → t.rcu.on = some s.theStep.onMs
  lowered : ∀ w, s.bgu.pendingLower = some w → t.bgu.committed = w ∧ t.bgu.pendingLower = none ∧
    t.bgu.overdrawSamples = 0 ∧ t.bus.budget = some ⟨.commit, 0⟩
  kept : s.bgu.pendingLower = none →
    t.bgu.committed = s.bgu.committed ∧ t.bus.budget = s.bus.budget
  pressed : s.rcu.powerOnPending = true → 0 < s.theStep.pressMs → 0 < level →
    t.rcu.phase = s.rcu.phase ∧ t.sou.pressed = true ∧ t.sou.pressTimer = some s.theStep.pressMs
  waits : s.rcu.powerOnPending = true → s.theStep.pressMs = 0 → ∀ i, s.powerGoodLine = some i →
    ((s.lines.get i).high = false → t.rcu.phase = s.rcu.phase ∧
      (t.lines.get i).sup = .powerGood .waiting ∧
      (t.lines.get i).timer = some (s.cfg.lines.get i).pgTimeoutMs) ∧
    ((s.lines.get i).high = true → s.leavesPhase t ∧
      (t.lines.get i).sup = .powerGood (.up ((s.lines.get i).riseUptime.getD t.tmu.uptime)))
  goesOn : s.rcu.powerOnPending = false ∨ s.theStep.pressMs = 0 ∧ s.powerGoodLine = none →
    s.leavesPhase t ∧ t.sou.pressed = s.sou.pressed

/-- The phase level of R10: the level that a phase asks of OUT0. -/
def State.asks (s : State) : Nat := if s.rcu.phase = .off then 0 else setPoint s.cfg s.theStep

/-- The outputs after a RESUME commanded the level that the phase asks of OUT0, and the step's of OUT1
and OUT2 (R22, R37): at the step's slew, and at once where it is 0, within the limits of R33. -/
def State.returned (s : State) : Sou :=
  let x := min s.asks 13200
  let y := min s.theStep.standbyMv (min s.cfg.standbyMaxMv 5500)
  let level := if s.theStep.slew = 0 then x else s.sou.level0
  { s.sou with
    target0 := x, level0 := level, target1 := y
    level1 := if s.theStep.slew = 0 then y else s.sou.level1
    target2 := min s.theStep.fanPct 100, level2 := min s.theStep.fanPct 100
    slew := s.theStep.slew
    limit := if level = 0 ∨ s.sou.limitInput = false then .idle
      else match s.sou.limit with
        | .idle => .counting 0
        | .counting n => .counting n
        | .expired => .expired }

/-- The board-on flag that goes with those targets (R17). -/
def State.powered (s : State) : Bool := decide (0 < min s.asks 13200) && decide (s.rcu.phase ≠ .off)

/-- The lanes as the board-on flag leaves them (R109): with it clear all are OFF, and with it set an
ENABLED lane leaves OFF for SEARCH and no other lane changes. -/
def State.lanesUnder (on : Bool) (s t : State) : Prop :=
  ∀ i, t.lanes.get i =
    if on = false then { s.lanes.get i with lock := .off }
    else if (s.lanes.get i).lock = .off ∧ s.cfg.laneEnable.getLsbD i.val = true then
      { s.lanes.get i with
        lock := .search, sign := .undetermined, searchRun := 0, unknownRun := 0
        markErrorRun := 0, framePosition := 0, distance := none }
    else s.lanes.get i

/-- What the start of a HOLD or MARGIN step leaves (R9), from the state in which the step index names
it: its targets, its rule over the board, and the power-on pending indication, which is set where OUT0
stands at 0 mV and the set-point above it. A start that lands OUT0 takes the arrival (R10): the
blanking timer starts, and SETTLING ends (R11) unless a power-on is pending whose press or power-good
wait goes first (R127). Without a power-on, a POWER_GOOD line leaves OFF by its level (R129). -/
structure SettlingStarted (s t : State) : Prop where
  position : t.rcu.run = .running ∧ t.rcu.step = s.rcu.step ∧ t.rcu.governing = some s.rcu.step
  pending : t.rcu.powerOnPending = decide (s.sou.level0 = 0 ∧ 0 < setPoint s.cfg s.theStep)
  boardOn : t.rcu.boardOn = decide (0 < setPoint s.cfg s.theStep)
  targets : t.sou.target0 = min (setPoint s.cfg s.theStep) 13200 ∧
    t.sou.target1 = min s.theStep.standbyMv (min s.cfg.standbyMaxMv 5500) ∧
    t.sou.target2 = min s.theStep.fanPct 100 ∧ t.sou.slew = s.theStep.slew
  levels : t.sou.level0 = (if s.theStep.slew = 0 then t.sou.target0 else s.sou.level0) ∧
    t.sou.level1 = (if s.theStep.slew = 0 then t.sou.target1 else s.sou.level1) ∧
    t.sou.level2 = t.sou.target2
  windows : ∀ i, t.wck.points.get i =
    { s.wck.points.get i with out := false, excursionRun := 0, returnRun := 0 }
  joined : 0 < setPoint s.cfg s.theStep → t.rcu.powerOnPending = false →
    ∀ i, (s.lines.get i).sup = .powerGood .off → (t.lines.get i).sup =
      if (s.lines.get i).high = true then
        .powerGood (.up ((s.lines.get i).riseUptime.getD s.tmu.uptime))
      else .powerGood .unseen
  ramping : ¬s.landsAtStart → t.rcu.phase = .settling ∧ t.rcu.blanking = true ∧
    t.rcu.arrivalTaken = s.rcu.arrivalTaken ∧ t.rcu.duration = s.rcu.duration ∧
    t.sou.pressed = s.sou.pressed ∧ t.sou.pressTimer = s.sou.pressTimer
  arrived : s.landsAtStart → s.rcu.arrivalTaken = false → t.rcu.arrivalTaken = true ∧
    (0 < s.theStep.blankingMs →
      t.rcu.blanking = true ∧ t.rcu.blankingTimer = some s.theStep.blankingMs) ∧
    (s.theStep.blankingMs = 0 → t.rcu.blanking = false ∧ t.rcu.blankingTimer = none)
  pressed : s.landsAtStart → s.rcu.arrivalTaken = false → t.rcu.powerOnPending = true →
    0 < s.theStep.pressMs →
    t.rcu.phase = .settling ∧ t.sou.pressed = true ∧ t.sou.pressTimer = some s.theStep.pressMs
  waits : s.landsAtStart → s.rcu.arrivalTaken = false → t.rcu.powerOnPending = true →
    s.theStep.pressMs = 0 → ∀ i, s.powerGoodLine = some i →
    ((s.lines.get i).high = false → t.rcu.phase = .settling ∧
      (t.lines.get i).sup = .powerGood .waiting ∧
      (t.lines.get i).timer = some (s.cfg.lines.get i).pgTimeoutMs) ∧
    ((s.lines.get i).high = true → s.leavesSettling t ∧
      (t.lines.get i).sup = .powerGood (.up ((s.lines.get i).riseUptime.getD s.tmu.uptime)))
  goesOn : s.landsAtStart → s.rcu.arrivalTaken = false →
    t.rcu.powerOnPending = false ∨ s.theStep.pressMs = 0 ∧ s.powerGoodLine = none →
    s.leavesSettling t

/-- What the start of a CYCLE step leaves (R9, R14), from the state in which the step index names it:
OFF of the first iteration with OUT0 at 0 mV at once, its off timer and its arrival taken, the board
off with its lanes and its POWER_GOOD line (R109, R129), and OUT1 and OUT2 at the step's targets. That
OUT0 goes to 0 mV with no moment at its set-point is the model's reading (log entry 13). -/
structure CycleStarted (s t : State) : Prop where
  position : t.rcu.run = .running ∧ t.rcu.step = s.rcu.step ∧ t.rcu.governing = some s.rcu.step
  pending : t.rcu.powerOnPending = s.rcu.powerOnPending
  phase : t.rcu.phase = .off ∧ t.rcu.off = some s.theStep.offMs ∧ t.rcu.arrivalTaken = true ∧
    t.rcu.blanking = true ∧ t.rcu.boardOn = false
  out0 : t.sou.target0 = 0 ∧ t.sou.level0 = 0 ∧ t.sou.pressed = false ∧ t.sou.pressTimer = none
  targets : t.sou.target1 = min s.theStep.standbyMv (min s.cfg.standbyMaxMv 5500) ∧
    t.sou.target2 = min s.theStep.fanPct 100 ∧ t.sou.slew = s.theStep.slew
  levels : t.sou.level1 = (if s.theStep.slew = 0 then t.sou.target1 else s.sou.level1) ∧
    t.sou.level2 = t.sou.target2
  windows : ∀ i, t.wck.points.get i =
    { s.wck.points.get i with out := false, excursionRun := 0, returnRun := 0 }
  lanes : ∀ i, (t.lanes.get i).lock = .off
  lines : ∀ i p, (s.lines.get i).sup = .powerGood p →
    (t.lines.get i).sup = .powerGood .off ∧ (t.lines.get i).timer = none

/-- The step that the step index names has started, by its kind (R9). -/
def State.stepStarted (s t : State) : Prop :=
  (s.theStep.kind ≠ .cycle → SettlingStarted s t) ∧ (s.theStep.kind = .cycle → CycleStarted s t)

/-- The state in which a step is entered, the step index and the iteration set (R7). -/
def State.entering (n : Nat) (s : State) : State :=
  { s with rcu := { s.rcu with
      step := n, iteration := 0, arrivalTaken := false, powerOnPending := false
      duration := none, reach := none, off := none, on := none, blankingTimer := none } }

/-! ### Lane arrivals -/

/-- A lane's faults are not raised: its id is not in the active check set, or blanking is in force
(R113, R116). -/
def State.laneSilent (i : Fin 4) (s : State) : Prop :=
  s.checked (8 + i.val) = false ∨ s.rcu.blanking = true

/-- No counter in which a group counts reaches its threshold by it (R115, R116). -/
def State.belowThresholds (i : Fin 4) (g : CodeGroup) (s : State) : Prop :=
  ∀ k, (s.lanes.get i).errs k g = true → ((s.lanes.get i).counter k).count < 255 ∧
    ((s.lanes.get i).counter k).count + 1 ≠ (s.cfg.errorClass k).threshold

/-- A counter after an error of its class (R115, R116): incremented, held at 255 or rolled to 0, and at
the threshold with its terminal flag set and, under auto-clear, returned to 0. -/
def ErrorCounter.counts (c : ErrorClass) (e f : ErrorCounter) : Prop :=
  (e.count < 255 → e.count + 1 ≠ c.threshold → f = ⟨e.count + 1, e.terminal⟩) ∧
  (e.count < 255 → e.count + 1 = c.threshold →
    f = ⟨if c.autoClear = true then 0 else c.threshold, true⟩) ∧
  (e.count = 255 → c.roll = false → f = e) ∧
  (e.count = 255 → c.roll = true → 0 < c.threshold → f = ⟨0, e.terminal⟩)

/-! ### Run ends -/

/-- What R28 leaves behind at a run end with a verdict and a cause, whichever event ended the run:
the outputs' part for OUT0, the claim, the timers, the flags, the position kept, and what is not
touched. -/
structure RunEnded (v : Verdict) (c : EndCause) (s t : State) : Prop where
  run : t.rcu.run = .ended
  verdict : t.rcu.verdict = v
  cause : t.rcu.cause = c
  out0 : t.sou.target0 = 0 ∧ t.sou.level0 = 0
  button : t.sou.pressed = false ∧ t.sou.pressTimer = none
  claim : t.bgu.committed = 0 ∧ t.bgu.intent = none ∧ t.bgu.window = none
  waiting : t.bgu.waitingSince = none ∧ t.bgu.accumulator = 0 ∧ t.bgu.pendingLower = none
  timers : t.rcu.duration = none ∧ t.rcu.reach = none ∧ t.rcu.off = none ∧ t.rcu.on = none ∧
    t.rcu.blankingTimer = none
  flags : t.rcu.blanking = false ∧ t.rcu.boardOn = false
  governing : t.rcu.governing = none
  position : t.rcu.step = s.rcu.step ∧ t.rcu.phase = s.rcu.phase ∧
    t.rcu.iteration = s.rcu.iteration
  lanes : ∀ i, (t.lanes.get i).lock = .off
  groups : t.fcu.groups = [] ∧ t.fcu.mode = .none
  request : t.wck.reach = none
  clocks : t.tmu = s.tmu
  view : t.bgu.peers = s.bgu.peers

/-- The record count reaches max_faults within the next writes (R147). -/
def State.reachesMaxFaults (writes : Nat) (s : State) : Prop :=
  s.fcu.recordCount < s.cfg.maxFaults ∧ s.cfg.maxFaults ≤ s.fcu.recordCount + writes

/-- The run has completed with a closing that wrote some records in order (R19, R144 to R147): the
verdict is PASS without any record in the run and FAIL otherwise, and the cause COMPLETED, or
FAULT_LIMIT where a write of the closing reached max_faults. The RUN notice follows the FAULT notices
of the closing (R28, R148). -/
structure RunCompleted (written : List Record) (s t : State) : Prop where
  passed : s.fcu.recordCount + written.length = 0 → RunEnded .pass .completed s t
  failed : 0 < s.fcu.recordCount + written.length → ¬s.reachesMaxFaults written.length →
    RunEnded .fail .completed s t
  limited : s.reachesMaxFaults written.length → RunEnded .fail .faultLimit s t
  wrote : Wrote written s t
  notices : s.bus.notices.length + written.length + 1 ≤ 8 →
    s.fcu.log.length + written.length ≤ 64 → ∃ n : RunNotice,
      t.bus.notices = s.bus.notices ++ (s.indexed written).map (fun r => ⟨.fault r, 0⟩) ++
        [⟨.run n, 0⟩] ∧
      n.verdict = t.rcu.verdict ∧ n.cause = t.rcu.cause ∧ n.step = s.rcu.step ∧
      n.recordCount = s.fcu.recordCount + written.length

end Sys2Proof.Machine
end

