-- ==== Sys2Proof/WellFormed.lean ====
section
/-! DEFINITION. Which commands the outside world can send: the checks on their operands. A command
that fails a check still has its meaning; the checks say what a sender may rely on. -/

namespace Sys2Proof

/-- The longest time that a frame takes on the bus, in oscillator periods: the 261 bytes of a frame
with the greatest length field (R160) at 1 Mbit/s, 50 periods to a bit. -/
def ageLimit : Nat := (255 + 6) * 8 * 50

/-- A frame that completes on the bus brings at most the payload bytes that its length field states
(R160), and its first bit is no longer ago than the longest frame takes. -/
def RxFrame.wf (f : RxFrame) : Bool :=
  decide (f.age ≤ ageLimit) && decide (f.payload.length ≤ f.length.toNat)

/-- The frame kinds that have a row of their own in spec/opcode_table.json (Table 10-3). -/
def ownRowKinds : List Byte :=
  [0x01, 0x02, 0x03, 0x20, 0x21, 0x22, 0x23, 0x24, 0x25, 0x30, 0x31, 0x32, 0x33]

/-- The longest block that the length test of R178 admits. -/
def blockLimit : Nat := 2048

/-- The checks of a command's operands. -/
def Instr.wf : Instr → Bool
  | .start f => f.wf
  | .pause f => f.wf
  | .resume f => f.wf
  | .abort f => f.wf
  | .clear f => f.wf
  | .snapshot f => f.wf
  | .status f => f.wf
  | .readLog f => f.wf
  | .readCounters f => f.wf
  | .readPoint f => f.wf
  | .beaconReceived f => f.wf
  | .intentReceived f => f.wf
  | .commitReceived f => f.wf
  | .frameReceived kind f => f.wf && !ownRowKinds.contains kind
  | .loadTimerExpiry answered => decide (answered < blockLimit)
  | .memoryNoResponse answered => decide (answered < blockLimit)
  | .loadCompletion answered => decide (answered ≤ blockLimit)
  | .fixturePresentChange _ => true
  | .powerOnReset => true
  | .rackReset => true
  | .resetEnd _ _ => true
  | .attemptStart => true
  | .arbitrationLoss => true
  | .busError => true
  | .transmitComplete => true
  | .beaconTimerExpiry => true
  | .transmitSuccessTimerExpiry => true
  | .outputTick => true
  | .pressTimerExpiry => true
  | .powerGoodWaitExpiry => true
  | .durationTimerExpiry => true
  | .reachTimerExpiry => true
  | .offTimerExpiry => true
  | .onTimerExpiry => true
  | .blankingTimerExpiry => true
  | .outputLimitInputChange _ => true
  | .outputLimitTimerExpiry => true
  | .supplySenseChange _ => true
  | .startSwitchClose => true
  | .startSwitchRelease => true
  | .scanStart => true
  | .conversionCompletion _ => true
  | .codeGroupArrival _ _ => true
  | .watchLineEdge _ _ => true
  | .heartbeatIntervalExpiry _ => true
  | .rateWindowExpiry _ => true
  | .claimWindowExpiry => true
  | .retryIntervalExpiry => true
  | .waitingLimitReached => true
  | .listeningIntervalEnd => true
  | .peerEntryStale _ => true
  | .peerEntryRemoval _ => true
  | .peerIntentLifetimeExpiry _ => true
  | .settleTimerExpiry => true
  | .fixtureDebounceExpiry => true
  | .closeTimerExpiry => true
  | .rackTimeAdvance => true

end Sys2Proof
end

