-- ==== Sys2Proof/Certificates/Slice0/Obligations.lean ====
section
/-! DEFINITION. The statements for the provers, family by family. The number of the rule that a
statement rests on stands in its docstring; where a clause rests on a choice of the model, the log
entry stands there too. -/

open Sys2Proof Sys2Proof.Machine

/-! ### The queue and the station held in reset -/

/-- Every command is an event of the station and leaves a next state, and no command touches the
queue of the commands that wait. -/
def Obligations.EveryCommandCompletesAndKeepsTheQueue : Prop :=
  ∀ (c : Instr) (s : State), ∃ t, exec c s = .next t ∧ t.pending = s.pending

/-- A step takes the command at the front of the queue, and idles on an empty queue (the model's
choice, log entry 18). -/
def Obligations.StepRunsTheFrontCommand : Prop :=
  ∀ (c : Instr) (rest : List Instr) (s : State),
    (s.pending = c :: rest → step s = exec c { s with pending := rest }) ∧
    (s.pending = [] → step s = .next s)

/-- While a reset holds the station no block acts (R175, as log entry 1 reads it): only the resets,
the reset's end and a change of an outside line do anything. -/
def Obligations.HeldStationDoesNotAct : Prop :=
  ∀ (c : Instr) (s : State), s.inReset = true →
    match c with
    | .powerOnReset => True
    | .rackReset => True
    | .resetEnd _ _ => True
    | .outputLimitInputChange _ => True
    | .supplySenseChange _ => True
    | .startSwitchClose => True
    | .startSwitchRelease => True
    | .watchLineEdge _ _ => True
    | .fixturePresentChange _ => True
    | _ => exec c s = .next s

/-- A reset of either kind holds the station with every item at the reset value of its table (R5,
R32, R49, R71, R91, R108, R122, R135, R151, R159, R170, R176), the snapshot store among them, and the
listening interval of Table 3-1 before it. What comes from a line stays as the line reads: the
fixture-present state is PRESENT where the line read present before, debounced or not, and ABSENT
where it read absent. -/
def Obligations.EitherResetSetsEveryTableValue : Prop :=
  ∀ s : State, ∃ t, exec .powerOnReset s = .next t ∧ exec .rackReset s = .next t ∧
    t.inReset = true ∧
    (t.rcu.run = .idle ∧ t.rcu.step = 0 ∧ t.rcu.phase = .none ∧ t.rcu.iteration = 0 ∧
      t.rcu.governing = none ∧ t.rcu.duration = none ∧ t.rcu.reach = none ∧ t.rcu.off = none ∧
      t.rcu.on = none ∧ t.rcu.blankingTimer = none ∧ t.rcu.arrivalTaken = false ∧
      t.rcu.powerOnPending = false ∧ t.rcu.verdict = .none ∧ t.rcu.cause = .none ∧
      t.rcu.blanking = false ∧ t.rcu.boardOn = false ∧ t.rcu.clamped = false) ∧
    (t.sou.target0 = 0 ∧ t.sou.level0 = 0 ∧ t.sou.target1 = 0 ∧ t.sou.level1 = 0 ∧
      t.sou.target2 = 0 ∧ t.sou.level2 = 0 ∧ t.sou.slew = 0 ∧ t.sou.pressed = false ∧
      t.sou.pressTimer = none ∧ t.sou.limit = .idle ∧ t.sou.limitInput = s.sou.limitInput ∧
      t.sou.sensePresent = s.sou.sensePresent) ∧
    (t.bgu.committed = 0 ∧ t.bgu.intent = none ∧ t.bgu.window = none ∧ t.bgu.pendingLower = none ∧
      t.bgu.waitingSince = none ∧ t.bgu.accumulator = 0 ∧ t.bgu.refusals = 0 ∧ t.bgu.peers = [] ∧
      t.bgu.overdrawSamples = 0 ∧ t.bgu.overdrawEpisodes = 0 ∧ t.bgu.slotConflict = false ∧
      t.bgu.listening = 1000) ∧
    (t.asc.scanner = .stopped ∧ t.asc.power = 0 ∧
      ∀ i, t.asc.points.get i = ⟨0, false, false, 0, false, 0, 0, false⟩) ∧
    (t.wck.reach = none ∧ ∀ i, t.wck.points.get i = ⟨false, 0, 0, 0⟩) ∧
    (∀ i, t.lanes.get i = ⟨.off, .undetermined, 0, 0, none, 0, 0, ⟨0, false⟩, ⟨0, false⟩,
      ⟨0, false⟩, 0⟩) ∧
    (∀ i, t.lines.get i = ⟨(s.lines.get i).high, 0, none, none, .unused, none, 0, 0⟩) ∧
    t.fcu = ⟨[], [], 0, 0, false, .none⟩ ∧
    t.tmu = ⟨⟨0, 0⟩, 0, 0, false, some 1000⟩ ∧
    (t.bus.budget = none ∧ t.bus.budgetNext = none ∧ t.bus.notices = [] ∧ t.bus.responses = [] ∧
      t.bus.beacon = none ∧ t.bus.beaconNext = false ∧ t.bus.attempt = none ∧
      t.bus.noticeDrops = 0 ∧ t.bus.requestDrops = 0 ∧ t.bus.lastSuccess = 0 ∧
      t.bus.successTimer = some 2000 ∧ t.bus.isolated = false ∧ t.bus.beaconTimer = 0 ∧
      t.sources = []) ∧
    ((∀ i, t.bus.snapshot.lanes.get i = ⟨⟨0, false⟩, ⟨0, false⟩, ⟨0, false⟩, 0⟩ ∧
        t.bus.snapshot.lines.get i = ⟨0, 0, true, ⟨0, 0⟩⟩) ∧
      (∀ i, t.bus.snapshot.pointEpisodes.get i = 0) ∧ t.bus.snapshot.overdrawEpisodes = 0 ∧
      t.bus.snapshot.rack = ⟨0, 0⟩) ∧
    (t.cfl.status = .absent ∧ t.cfl.reason = .none ∧ t.cfl.loadTimer = none ∧
      t.cfl.modelCode = 0 ∧ t.cfl.serial = 0 ∧ t.cfl.config = none ∧
      t.cfl.memory = s.cfl.memory ∧ t.cfl.read = 0 ∧
      t.cfl.fixture = if s.cfl.fixture = .absent then .absent else .present)

/-- The end of a reset (R183): the straps are read, the first BEACON is queued, the budget follows
the code (R48), and a load starts where the fixture-present line reads present. -/
def Obligations.ResetEndStartsTheStation : Prop :=
  ∀ (slot : BitVec 5) (code : BitVec 4) (s : State), s.inReset = true → s.bus.attempt = none →
    s.cfl.status = .absent → s.rcu.run = .idle →
    ∃ t, exec (.resetEnd slot code) s = .next t ∧ t.inReset = false ∧ t.slot = slot ∧
      t.code = code ∧ t.rackBudget = 400 + 200 * code.toNat ∧
      t.bus = { s.bus with beacon := some ⟨(), 0⟩, beaconTimer := 250 } ∧
      (s.cfl.fixture = .present →
        t.cfl = { s.cfl with status := .loading, reason := .none, modelCode := 0, serial := 0
                             loadTimer := some 200, read := 0 }) ∧
      (s.cfl.fixture ≠ .present → t.cfl = s.cfl ∧ t.asc = s.asc) ∧
      t.rcu = s.rcu ∧ t.sou = s.sou ∧ t.bgu = s.bgu ∧ t.wck = s.wck ∧ t.lanes = s.lanes ∧
      t.lines = s.lines ∧ t.fcu = s.fcu ∧ t.tmu = s.tmu

/-! ### Control requests -/

/-- START accepted (R20, R7, R57): the history of the run is cleared in every block, step 0 is
entered, and a claim above the committed one is asked for. With OUT0 at 0 mV, where it stands in IDLE
(R38), every line's supervision returns to its role's first state of Table 7-3, a RATE line's episode
state to CLEAR among them, its timer stops (R20, R122), and every lane stays OFF (R109). The outputs,
the filters, the clocks and the loaded configuration stand. Where step 0 claims what is committed it
starts in the same event (R7, R9, and log entry 13 for a CYCLE step). Where the supply sense is ABSENT,
the run ends in the event of its acceptance (R45): ABORTED with cause SUPPLY_LOST at step 0, with the
one record, every output at 0 and the claim released. -/
def Obligations.StartClearsTheHistoryAndClaims : Prop :=
  (∀ (f : RxFrame) (s : State), s.takesControl 0x20 f = true → s.rcu.run = .idle →
    s.bgu.slotConflict = false → s.cfl.status = .valid → s.tmu.settled = true →
    s.sou.sensePresent = true → s.bgu.listening = 0 → s.bgu.intent = none →
    s.bus.attempt = none → s.bgu.committed < (s.stepAt 0).claimW →
    ∃ t, exec (.start f) s = .next t ∧
      (t.rcu.run = .claiming ∧ t.rcu.step = 0 ∧ t.rcu.phase = .none ∧ t.rcu.iteration = 0 ∧
        t.rcu.verdict = .none ∧ t.rcu.cause = .none ∧ t.rcu.blanking = false ∧
        t.rcu.clamped = decide ((s.cfg.mainMaxMv : Int) < rawSetPoint s.cfg (s.stepAt 0)) ∧
        t.rcu.governing = s.rcu.governing) ∧
      t.fcu = ⟨[], [], 0, 0, false, .none⟩ ∧
      (∀ i, t.wck.points.get i = ⟨false, 0, 0, 0⟩) ∧
      (∀ i, (t.lanes.get i).signErrors = ⟨0, false⟩ ∧ (t.lanes.get i).codeErrors = ⟨0, false⟩ ∧
        (t.lanes.get i).markErrors = ⟨0, false⟩ ∧ (t.lanes.get i).lockLosses = 0) ∧
      (∀ i, (t.lines.get i).pulses = 0 ∧ (t.lines.get i).riseRack = none ∧
        (t.lines.get i).riseUptime = none ∧ (t.lines.get i).episodes = 0 ∧
        (t.lines.get i).high = (s.lines.get i).high) ∧
      (s.outputsSafe → ∀ i, (t.lanes.get i).lock = .off ∧
        t.lines.get i = { s.lines.get i with
          pulses := 0, riseRack := none, riseUptime := none, episodes := 0, timer := none
          sup := match (s.lines.get i).sup with
            | .unused => .unused
            | .heartbeat _ => .heartbeat .disarmed
            | .rate _ _ => .rate false false
            | .powerGood _ => .powerGood .off
            | .resetWatch _ => .resetWatch false }) ∧
      (t.bgu.overdrawEpisodes = 0 ∧ t.bgu.committed = s.bgu.committed ∧
        t.bgu.intent = some ⟨(s.stepAt 0).claimW, .queued⟩ ∧ t.bgu.accumulator = 0 ∧
        t.bgu.peers = s.bgu.peers) ∧
      t.bus = { s.bus with budget := some ⟨.intent (s.stepAt 0).claimW true, 0⟩
                           responses := s.bus.responses ++ [answerTo 0x20 f 0 []] } ∧
      t.sou = s.sou ∧ t.asc = s.asc ∧ t.tmu = s.tmu ∧ t.cfl = s.cfl) ∧
  (∀ (f : RxFrame) (e s : State), s.takesControl 0x20 f = true → s.rcu.run = .idle →
    s.bgu.slotConflict = false → s.cfl.status = .valid → s.tmu.settled = true →
    s.sou.sensePresent = true → (s.stepAt 0).claimW = s.bgu.committed →
    e = { s.entering 0 with lines := e.lines, wck := e.wck } →
    (∀ i, e.wck.points.get i = ⟨false, 0, 0, 0⟩) →
    (∀ i, e.lines.get i = { s.lines.get i with
      pulses := 0, riseRack := none, riseUptime := none, episodes := 0, timer := none
      sup := match (s.lines.get i).sup with
        | .unused => .unused
        | .heartbeat _ => .heartbeat .disarmed
        | .rate _ _ => .rate false false
        | .powerGood _ => .powerGood .off
        | .resetWatch _ => .resetWatch false }) →
    ∃ t, exec (.start f) s = .next t ∧ e.stepStarted t ∧ t.rcu.iteration = 0 ∧
      t.rcu.verdict = .none ∧ t.rcu.cause = .none ∧ t.fcu = ⟨[], [], 0, 0, false, .none⟩ ∧
      (∀ i, (t.lanes.get i).signErrors = ⟨0, false⟩ ∧ (t.lanes.get i).codeErrors = ⟨0, false⟩ ∧
        (t.lanes.get i).markErrors = ⟨0, false⟩ ∧ (t.lanes.get i).lockLosses = 0) ∧
      t.bgu = { s.bgu with waitingSince := none, accumulator := 0, pendingLower := none
                           overdrawEpisodes := 0 } ∧
      t.bus = { s.bus with responses := s.bus.responses ++ [answerTo 0x20 f 0 []] } ∧
      t.asc = s.asc ∧ t.tmu = s.tmu ∧ t.cfl = s.cfl) ∧
  (∀ (f : RxFrame) (s : State), s.takesControl 0x20 f = true → s.rcu.run = .idle →
    s.bgu.slotConflict = false → s.cfl.status = .valid → s.tmu.settled = true →
    s.sou.sensePresent = false →
    ∃ t r, exec (.start f) s = .next t ∧
      RunEnded .aborted .supplyLost
        { s with rcu := { s.rcu with step := 0, iteration := 0, phase := t.rcu.phase } } t ∧
      t.sou.sensePresent = false ∧ t.sou.target1 = 0 ∧ t.sou.level1 = 0 ∧ t.sou.target2 = 0 ∧
      t.sou.level2 = 0 ∧ t.fcu.log = [r] ∧ t.fcu.recordCount = 1 ∧ t.fcu.lostCount = 0 ∧
      r.index = 0 ∧ r.kind = .supplyLost ∧ r.points = [] ∧ r.step = 0 ∧ r.phase = t.rcu.phase ∧
      (s.bgu.committed < (s.stepAt 0).claimW →
        t.rcu.phase = .none ∧ r.value = min (s.sou.level0 : Int) 2147483647) ∧
      (s.bgu.committed < (s.stepAt 0).claimW → s.bgu.committed = 0 → s.bus.attempt = none →
        s.bgu.intent = none →
        t.bus.budget = if s.bgu.listening = 0 then some ⟨.commit, 0⟩ else s.bus.budget) ∧
      (s.bus.notices.length + 2 ≤ 8 → ∃ n, t.bus.notices = s.bus.notices ++
        [⟨.fault r, 0⟩, ⟨.run n, 0⟩] ∧ n.verdict = .aborted ∧ n.cause = .supplyLost ∧
        n.recordCount = 1) ∧
      t.bus.responses = s.bus.responses ++ [answerTo 0x20 f 0 []] ∧
      t.asc = s.asc ∧ t.cfl = s.cfl)

/-- START is judged in the order of R20, and a refused START changes nothing but the outbox, where
its response stands with the code of the first condition that fails. -/
def Obligations.StartIsRefusedInOrder : Prop :=
  ∀ (f : RxFrame) (s : State), s.takesControl 0x20 f = true →
    (s.rcu.run ≠ .idle →
      exec (.start f) s = .next { s with bus := { s.bus with
        responses := s.bus.responses ++ [answerTo 0x20 f 1 []] } }) ∧
    (s.rcu.run = .idle → s.bgu.slotConflict = true →
      exec (.start f) s = .next { s with bus := { s.bus with
        responses := s.bus.responses ++ [answerTo 0x20 f 4 []] } }) ∧
    (s.rcu.run = .idle → s.bgu.slotConflict = false →
      s.cfl.status ≠ .valid ∨ s.tmu.settled = false →
      exec (.start f) s = .next { s with bus := { s.bus with
        responses := s.bus.responses ++ [answerTo 0x20 f 2 []] } })

/-- PAUSE (R21, R37): in RUNNING each output's target becomes its present level, and the position,
the timers, the blanking flag and the claim keep their values, as does the output-limit timer where
its input and OUT0's level give it something to count (R43). Where OUT0 is held above 0 mV, a lane
keeps its lock state and one that was OFF under a clear board-on flag is in SEARCH if ENABLED (R118,
R109), and a board that was on keeps every line as it stands (R124); where OUT0 is held at 0 mV, every
lane is OFF, and every line as the clear board-on flag leaves it (R124 to R126, R129, R130). In PAUSED it is answered OK and
changes nothing, and in every other state it is refused with WRONG_STATE. -/
def Obligations.PauseHoldsTheOutputs : Prop :=
  (∀ (f : RxFrame) (s : State), s.takesControl 0x21 f = true → s.rcu.run = .running →
    s.sou.level0 ≤ s.cfg.mainMaxMv → s.sou.level0 ≤ 13200 → s.sou.level1 ≤ s.cfg.standbyMaxMv →
    s.sou.level1 ≤ 5500 → s.sou.level2 ≤ 100 →
    ∃ t, exec (.pause f) s = .next t ∧
      t.rcu = { s.rcu with run := .paused
                           boardOn := decide (0 < s.sou.level0) && decide (s.rcu.phase ≠ .off) } ∧
      t.sou = { s.sou with
        target0 := s.sou.level0, target1 := s.sou.level1, target2 := s.sou.level2
        limit := if s.sou.level0 = 0 ∨ s.sou.limitInput = false then .idle
          else match s.sou.limit with
            | .idle => .counting 0
            | .counting n => .counting n
            | .expired => .expired } ∧
      (0 < s.sou.level0 → s.rcu.phase ≠ .off →
        (∀ i, (s.lanes.get i).lock ≠ .off ∨ s.cfg.laneEnable.getLsbD i.val = false →
          t.lanes.get i = s.lanes.get i) ∧
        (∀ i, (s.lanes.get i).lock = .off → s.cfg.laneEnable.getLsbD i.val = true →
          t.lanes.get i = { s.lanes.get i with
            lock := .search, sign := .undetermined, searchRun := 0, unknownRun := 0
            markErrorRun := 0, framePosition := 0, distance := none }) ∧
        (s.rcu.boardOn = true → s.linesFollowBoard → ∀ i, t.lines.get i = s.lines.get i)) ∧
      (s.sou.level0 = 0 ∨ s.rcu.phase = .off → ∀ i,
        t.lanes.get i = { s.lanes.get i with lock := .off } ∧
        t.lines.get i = { s.lines.get i with
          sup := match (s.lines.get i).sup with
            | .unused => .unused
            | .heartbeat _ => .heartbeat .disarmed
            | .rate _ o => .rate false o
            | .powerGood _ => .powerGood .off
            | .resetWatch _ => .resetWatch false
          timer := match (s.lines.get i).sup with
            | .heartbeat .armed => none
            | .heartbeat .hung => none
            | .rate true _ => none
            | .powerGood _ => none
            | _ => (s.lines.get i).timer }) ∧
      t.bus = { s.bus with responses := s.bus.responses ++ [answerTo 0x21 f 0 []] } ∧
      t.bgu = s.bgu ∧ t.asc = s.asc ∧ t.wck = s.wck ∧ t.fcu = s.fcu ∧ t.tmu = s.tmu ∧
      t.cfl = s.cfl) ∧
  (∀ (f : RxFrame) (s : State), s.takesControl 0x21 f = true →
    (s.rcu.run = .paused → exec (.pause f) s = .next (s.answered 0x21 f 0)) ∧
    (s.rcu.run ∉ [.running, .paused] → exec (.pause f) s = .next (s.answered 0x21 f 1)))

/-- RESUME in PAUSED (R22, R37): the targets return to the phase's at the step's slew, at once where it is
0, and the timers go on with what remains. Where nothing was held and no arrival falls due, as in every
phase whose arrival is taken, nothing else happens but that lanes and lines follow the board-on flag.
Where OUT0 stands on the phase level, or is taken there at once, and SETTLING or POWERING has no arrival
yet, it is taken (R10) with all that an arrival does. A held completion of the power-on sequence (R11, R15)
ends SETTLING, for REACHING or TIMING, or POWERING, for ON or, with a held expiry of the on timer,
for the end of the iteration (R16). A held reach met report (R12) enters TIMING. In RUNNING a RESUME is
answered OK and changes nothing, and in every other state it is refused with WRONG_STATE. -/
def Obligations.ResumeReturnsTargetsAndHeldReports : Prop :=
  (∀ (f : RxFrame) (s : State), s.takesControl 0x22 f = true →
    s.rcu.run = .paused → s.rcu.heldPowerOn = false → s.rcu.heldReach = false →
    s.rcu.phase ≠ .none → s.rcu.arrivalTaken = true ∨ 0 < s.theStep.slew ∧ s.sou.level0 ≠ s.asks →
    ∃ t, exec (.resume f) s = .next t ∧
      t.rcu = { s.rcu with run := .running, boardOn := s.powered } ∧ t.sou = s.returned ∧
      s.lanesUnder s.powered t ∧
      (s.linesFollowBoard → s.powered = true → s.rcu.boardOn = true ∨ s.rcu.blanking = true →
        ∀ i, t.lines.get i = s.lines.get i) ∧
      (s.linesFollowBoard → s.powered = false → s.rcu.boardOn = false →
        ∀ i, (t.lines.get i).sup = (s.lines.get i).sup) ∧
      t.bus = { s.bus with responses := s.bus.responses ++ [answerTo 0x22 f 0 []] } ∧
      t.bgu = s.bgu ∧ t.asc = s.asc ∧ t.wck = s.wck ∧ t.fcu = s.fcu ∧ t.tmu = s.tmu ∧
      t.cfl = s.cfl) ∧
  (∀ (f : RxFrame) (s : State), s.takesControl 0x22 f = true → s.rcu.run = .paused →
    s.rcu.heldPowerOn = false → s.rcu.heldReach = false →
    s.rcu.phase = .settling ∨ s.rcu.phase = .powering → s.rcu.arrivalTaken = false →
    s.asks ≤ 13200 → s.theStep.slew = 0 ∨ s.sou.level0 = s.asks → s.bus.attempt = none →
    ∃ t, exec (.resume f) s = .next t ∧ Arrived s.asks s t ∧
      t.sou = { s.returned with pressed := t.sou.pressed, pressTimer := t.sou.pressTimer } ∧
      t.rcu.boardOn = s.powered ∧ s.lanesUnder s.powered t ∧
      t.bus.responses = s.bus.responses ++ [answerTo 0x22 f 0 []] ∧
      t.asc = s.asc ∧ t.fcu = s.fcu ∧ t.tmu = s.tmu ∧ t.cfl = s.cfl ∧
      (s.rcu.phase = .settling → s.theStep.reachPresent = false →
        s.rcu.powerOnPending = false → s.bgu.pendingLower = none → 0 < s.theStep.blankingMs →
        t.rcu = { s.rcu with
          run := .running, boardOn := s.powered, arrivalTaken := true
          blankingTimer := some s.theStep.blankingMs, phase := .timing, reach := none
          duration := some (s.theStep.durationS * 1000) } ∧
        t.sou = s.returned ∧ t.bgu = s.bgu ∧ t.wck = s.wck ∧
        t.bus = { s.bus with responses := s.bus.responses ++ [answerTo 0x22 f 0 []] })) ∧
  (∀ (f : RxFrame) (s : State), s.takesControl 0x22 f = true → s.rcu.run = .paused →
    s.rcu.arrivalTaken = true → s.rcu.heldPowerOn = true → s.rcu.heldReach = false →
    (s.rcu.phase = .settling ∨ s.rcu.phase = .powering ∧ s.rcu.heldOn = false →
      ∃ t, exec (.resume f) s = .next t ∧
        (s.rcu.phase = .settling → s.theStep.reachPresent = false →
          t.rcu = { s.rcu with
            run := .running, boardOn := s.powered, heldPowerOn := false, phase := .timing
            reach := none, duration := some (s.theStep.durationS * 1000) } ∧ t.wck = s.wck) ∧
        (s.rcu.phase = .settling → s.theStep.reachPresent = true →
          t.rcu = { s.rcu with
            run := .running, boardOn := s.powered, heldPowerOn := false, phase := .reaching
            reach := some (s.theStep.reachTimeoutS * 1000) } ∧
          t.wck = { s.wck with reach := some ⟨s.theStep.reachPoint, s.theStep.reachTarget,
            s.theStep.reachBand⟩ }) ∧
        (s.rcu.phase = .powering → t.wck = s.wck ∧ t.rcu = { s.rcu with
          run := .running, boardOn := s.powered, heldPowerOn := false, phase := .on }) ∧
        t.sou = s.returned ∧ s.lanesUnder s.powered t ∧
        t.bus = { s.bus with responses := s.bus.responses ++ [answerTo 0x22 f 0 []] } ∧
        t.bgu = s.bgu ∧ t.fcu = s.fcu ∧ t.asc = s.asc ∧ t.tmu = s.tmu ∧ t.cfl = s.cfl) ∧
    (s.rcu.phase = .powering → s.rcu.heldOn = true →
      (s.rcu.iteration + 1 < s.theStep.repeats →
        ∃ t, exec (.resume f) s = .next t ∧ t.rcu.run = .running ∧ t.rcu.phase = .off ∧
          t.rcu.iteration = s.rcu.iteration + 1 ∧ t.rcu.off = some s.theStep.offMs ∧
          t.rcu.heldOn = false ∧ t.rcu.heldPowerOn = false ∧ t.rcu.boardOn = false ∧
          t.sou.target0 = 0 ∧ t.sou.level0 = 0 ∧ (∀ i, (t.lanes.get i).lock = .off) ∧
          t.fcu = s.fcu ∧ t.asc = s.asc ∧ t.tmu = s.tmu ∧
          t.bus.responses = s.bus.responses ++ [answerTo 0x22 f 0 []]) ∧
      (s.theStep.repeats ≤ s.rcu.iteration + 1 → s.rcu.step + 1 < s.cfg.steps.length →
        ∃ t, exec (.resume f) s = .next t ∧ t.rcu.step = s.rcu.step + 1 ∧ t.rcu.iteration = 0 ∧
          t.rcu.heldOn = false ∧ t.rcu.heldPowerOn = false ∧ t.fcu = s.fcu ∧ t.asc = s.asc) ∧
      (s.theStep.repeats ≤ s.rcu.iteration + 1 → s.cfg.steps.length ≤ s.rcu.step + 1 →
        ∃ t, exec (.resume f) s = .next t ∧
          RunCompleted s.openRecords { s with rcu := { s.rcu with phase := .on } } t))) ∧
  (∀ (f : RxFrame) (s : State), s.takesControl 0x22 f = true → s.rcu.run = .paused →
    s.rcu.phase = .reaching → s.rcu.arrivalTaken = true → s.rcu.heldPowerOn = false →
    s.rcu.heldReach = true →
    ∃ t, exec (.resume f) s = .next t ∧
      t.rcu = { s.rcu with
        run := .running, boardOn := s.powered, heldReach := false, phase := .timing
        reach := none, duration := some (s.theStep.durationS * 1000) } ∧
      t.sou = s.returned ∧ s.lanesUnder s.powered t ∧
      t.bus = { s.bus with responses := s.bus.responses ++ [answerTo 0x22 f 0 []] } ∧
      t.bgu = s.bgu ∧ t.fcu = s.fcu ∧ t.wck = s.wck ∧ t.asc = s.asc ∧ t.tmu = s.tmu ∧
      t.cfl = s.cfl) ∧
  (∀ (f : RxFrame) (s : State), s.takesControl 0x22 f = true →
    (s.rcu.run = .running → exec (.resume f) s = .next (s.answered 0x22 f 0)) ∧
    (s.rcu.run ∉ [.running, .paused] → exec (.resume f) s = .next (s.answered 0x22 f 1)))

/-- ABORT in an active run (R23, R28, R39): the run ends ABORTED with cause REQUESTED, the open
groups have been written, OUT1 and OUT2 go to their safe sources, and the answer is OK. Outside an
active run it is answered OK and changes nothing. -/
def Obligations.AbortEndsTheRun : Prop :=
  (∀ (f : RxFrame) (s : State), s.takesControl 0x23 f = true → s.rcu.run.active = true →
    ∃ t, exec (.abort f) s = .next t ∧ RunEnded .aborted .requested s t ∧
      t.fcu.recordCount = s.fcu.recordCount + s.fcu.groups.length ∧
      (s.cfg.out1Safe = .zero → t.sou.target1 = 0 ∧ t.sou.level1 = 0) ∧
      (s.cfg.out1Safe = .value → t.sou.target1 = min s.cfg.out1SafeMv (min s.cfg.standbyMaxMv 5500) ∧
        t.sou.level1 = t.sou.target1) ∧
      (s.cfg.out1Safe = .hold → s.sou.level1 ≤ min s.cfg.standbyMaxMv 5500 →
        t.sou.target1 = s.sou.level1 ∧ t.sou.level1 = s.sou.level1) ∧
      (s.cfg.out2Safe = .zero → t.sou.target2 = 0 ∧ t.sou.level2 = 0) ∧
      (s.cfg.out2Safe = .value → t.sou.target2 = min s.cfg.out2SafePct 100 ∧
        t.sou.level2 = t.sou.target2) ∧
      (s.cfg.out2Safe = .hold → s.sou.level2 ≤ 100 →
        t.sou.target2 = s.sou.level2 ∧ t.sou.level2 = s.sou.level2) ∧
      t.bus.responses = s.bus.responses ++ [answerTo 0x23 f 0 []]) ∧
  (∀ (f : RxFrame) (s : State), s.takesControl 0x23 f = true → s.rcu.run.active = false →
    exec (.abort f) s = .next (s.answered 0x23 f 0))

/-- CLEAR (R24): in ENDED the run goes to IDLE with verdict and cause NONE, the position at the start,
OUT1 and OUT2 at 0, and the log, the counts and CLAMPED as they stood; in IDLE it is answered OK and
in every other state WRONG_STATE, and nothing else changes. -/
def Obligations.ClearReturnsToIdle : Prop :=
  ∀ (f : RxFrame) (s : State), s.takesControl 0x24 f = true →
    (s.rcu.run = .ended → ∃ t, exec (.clear f) s = .next t ∧
      t.rcu = { s.rcu with run := .idle, verdict := .none, cause := .none, step := 0
                           iteration := 0, phase := .none, boardOn := false } ∧
      t.sou = { s.sou with target1 := 0, level1 := 0, target2 := 0, level2 := 0 } ∧
      t.bus = { s.bus with responses := s.bus.responses ++ [answerTo 0x24 f 0 []] } ∧
      t.fcu = s.fcu ∧ t.bgu = s.bgu ∧ t.asc = s.asc ∧ t.wck = s.wck ∧ t.tmu = s.tmu ∧
      t.cfl = s.cfl) ∧
    (s.rcu.run = .idle → exec (.clear f) s = .next { s with bus := { s.bus with
      responses := s.bus.responses ++ [answerTo 0x24 f 0 []] } }) ∧
    (s.rcu.run ≠ .ended → s.rcu.run ≠ .idle → exec (.clear f) s = .next { s with
      bus := { s.bus with responses := s.bus.responses ++ [answerTo 0x24 f 1 []] } })

/-- SNAPSHOT (R170): the store takes every counter of the lanes, lines and points, the overdraw
episodes and the rack time at one instant, in every run state, addressed or broadcast, and nothing
else changes. What the store holds as the seconds of an absent rise is left open (log entry 5). Only
a SNAPSHOT changes the store, and after a reset it is all zero with each last rise absent. -/
def Obligations.SnapshotCopiesTheCounters : Prop :=
  (∀ (f : RxFrame) (s : State),
    s.takesControl 0x25 f = true ∨ s.takesBroadcast 0x25 f = true →
    ∃ t, exec (.snapshot f) s = .next t ∧
      (∀ i, t.bus.snapshot.lanes.get i = ⟨(s.lanes.get i).signErrors, (s.lanes.get i).codeErrors,
        (s.lanes.get i).markErrors, (s.lanes.get i).lockLosses⟩) ∧
      (∀ i, (t.bus.snapshot.lines.get i).pulses = (s.lines.get i).pulses ∧
        (t.bus.snapshot.lines.get i).episodes = (s.lines.get i).episodes ∧
        (t.bus.snapshot.lines.get i).riseAbsent = (s.lines.get i).riseRack.isNone ∧
        ∀ r, (s.lines.get i).riseRack = some r → (t.bus.snapshot.lines.get i).rise = r) ∧
      (∀ i, t.bus.snapshot.pointEpisodes.get i = (s.wck.points.get i).episodes) ∧
      t.bus.snapshot.overdrawEpisodes = s.bgu.overdrawEpisodes ∧
      t.bus.snapshot.rack = s.tmu.rack ∧
      t.bus = { s.bus with
        snapshot := t.bus.snapshot
        responses := if f.dest = 63 then s.bus.responses
          else s.bus.responses ++ [answerTo 0x25 f 0 []] } ∧
      t.rcu = s.rcu ∧ t.sou = s.sou ∧ t.bgu = s.bgu ∧ t.asc = s.asc ∧ t.wck = s.wck ∧
      t.lanes = s.lanes ∧ t.lines = s.lines ∧ t.fcu = s.fcu ∧ t.tmu = s.tmu ∧ t.cfl = s.cfl) ∧
  (∀ (c : Instr) (s t : State), exec c s = .next t → c ≠ .powerOnReset → c ≠ .rackReset →
    t.bus.snapshot ≠ s.bus.snapshot → ∃ f, frameOf c = some (0x25, f)) ∧
  (∀ (c : Instr) (s t : State), exec c s = .next t → c = .powerOnReset ∨ c = .rackReset →
    (∀ i, t.bus.snapshot.lanes.get i = ⟨⟨0, false⟩, ⟨0, false⟩, ⟨0, false⟩, 0⟩ ∧
      t.bus.snapshot.lines.get i = ⟨0, 0, true, ⟨0, 0⟩⟩) ∧
    (∀ i, t.bus.snapshot.pointEpisodes.get i = 0) ∧ t.bus.snapshot.overdrawEpisodes = 0 ∧
    t.bus.snapshot.rack = ⟨0, 0⟩)

/-- A control request that is addressed to every node is acted on and never answered (R167, R169):
each of the six has the effect that it has where it is addressed to the station, less the response
that then enters the outbox. So START enters CLAIMING, or ends at once in SUPPLY_LOST where the supply
sense is ABSENT (R45), PAUSE and RESUME leave RUNNING and PAUSED, and ABORT and CLEAR leave the run. -/
def Obligations.BroadcastControlIsNotAnswered : Prop :=
  (∀ (k : Byte) (command : RxFrame → Instr) (f g : RxFrame) (s t : State),
    (k, command) ∈ [((0x20 : Byte), Instr.start), (0x21, Instr.pause), (0x22, Instr.resume),
      (0x23, Instr.abort), (0x24, Instr.clear), (0x25, Instr.snapshot)] →
    s.takesBroadcast k f = true → s.takesControl k g = true → exec (command f) s = .next t →
    ∃ code, exec (command g) s = .next (t.answered k g code)) ∧
  (∀ (c : Instr) (k : Byte) (f : RxFrame) (s : State),
    c ∈ [.start f, .pause f, .resume f, .abort f, .clear f, .snapshot f] →
    frameOf c = some (k, f) → s.takesBroadcast k f = true →
    ∃ t, exec c s = .next t ∧ t.bus.responses = s.bus.responses ∧
      (c = .start f → s.rcu.run = .idle → s.bgu.slotConflict = false → s.cfl.status = .valid →
        s.tmu.settled = true → s.sou.sensePresent = true →
        s.bgu.committed < (s.stepAt 0).claimW → t.rcu.run = .claiming) ∧
      (c = .start f → s.rcu.run = .idle → s.bgu.slotConflict = false → s.cfl.status = .valid →
        s.tmu.settled = true → s.sou.sensePresent = false →
        t.rcu.run = .ended ∧ t.rcu.cause = .supplyLost) ∧
      (c = .pause f → s.rcu.run = .running → t.rcu.run = .paused) ∧
      (c = .resume f → s.rcu.run = .paused → t.rcu.run ≠ .paused) ∧
      (c = .abort f → s.rcu.run.active = true → t.rcu.run = .ended ∧ t.rcu.verdict = .aborted) ∧
      (c = .clear f → s.rcu.run = .ended → t.rcu.run = .idle))

/-- The steps of R167 before the action: a full RESPONSE class drops an addressed request and
counts it, a wrong payload length is BAD_REQUEST, and a source that is not permitted is
NOT_PERMITTED. Nothing is acted on. A request that is addressed to another node is not the station's
(R160), and one that is addressed to every node is ignored where it is a read, has a wrong payload
length or comes from a source that is not permitted. -/
def Obligations.RequestsAreTurnedAwayInOrder : Prop :=
  (∀ (c : Instr) (k : Byte) (f : RxFrame) (s : State), frameOf c = some (k, f) →
    s.hears k f = true → s.addressed f = true →
    (k ∈ [0x20, 0x21, 0x22, 0x23, 0x24, 0x25, 0x30, 0x31, 0x32, 0x33] → s.responseFull = true →
      exec c s = .next { s with bus := { s.bus with
        requestDrops := min (s.bus.requestDrops + 1) 65535 } }) ∧
    (k ∈ [0x20, 0x21, 0x22, 0x23, 0x24, 0x25] → s.responseFull = false →
      f.payload.length ≠ 1 → ∃ t, exec c s = .next t ∧ s.answersBad k f t) ∧
    (k ∈ [0x30, 0x31, 0x32, 0x33] → s.responseFull = false →
      f.payload.length ≠ 2 → ∃ t, exec c s = .next t ∧ s.answersBad k f t) ∧
    (k ∈ [0x20, 0x21, 0x22, 0x23, 0x24, 0x25] → s.responseFull = false →
      f.payload.length = 1 → permits s.sources f.source = false →
      exec c s = .next { s with bus := { s.bus with
        responses := s.bus.responses ++ [answerTo k f 3 []] } })) ∧
  (∀ (c : Instr) (k : Byte) (f : RxFrame) (s : State), frameOf c = some (k, f) →
    s.hears k f = true → s.addressed f = false →
    (k ∈ [0x20, 0x21, 0x22, 0x23, 0x24, 0x25, 0x30, 0x31, 0x32, 0x33] → f.dest ≠ 63 →
      exec c s = .next s) ∧
    (k ∈ [0x30, 0x31, 0x32, 0x33] → f.dest = 63 → exec c s = .next s) ∧
    (k ∈ [0x20, 0x21, 0x22, 0x23, 0x24, 0x25] → f.dest = 63 →
      f.payload.length ≠ 1 ∨ permits s.sources f.source = false → exec c s = .next s))

/-- The control source table (R168): with no entries every source is permitted; otherwise the
matching entry of the highest number decides, and no match means no permission. An entry matches
when the leading bits of its compared length agree. The block gives 0 to 4 entries in its order, with
a compared length of at most 6 and CONTROL for the code 1 alone. Reads are answered whatever the
source, never with NOT_PERMITTED, and the start switch acts whatever the table. -/
def Obligations.HighestMatchingSourceEntryDecides : Prop :=
  (∀ src, permits [] src = true) ∧
  (∀ (table : List SourceEntry) (src : BitVec 6), table ≠ [] →
    (permits table src = true ↔
      ∃ (before after : List SourceEntry) (e : SourceEntry), table = before ++ e :: after ∧
        e.matchesId src = true ∧ e.control = true ∧ ∀ x ∈ after, x.matchesId src = false)) ∧
  (∀ (e : SourceEntry) (src : BitVec 6), e.length ≤ 6 →
    (e.matchesId src = true ↔
      ∀ k, k < e.length → src.getLsbD (5 - k) = e.baseId.getLsbD (5 - k))) ∧
  (∀ b : List Byte, (configOf b).sources.length = min (byteAt b 156) 4 ∧
    ∀ (n : Nat) (e : SourceEntry), (configOf b).sources[n]? = some e →
      (byteAt b (157 + 3 * n) < 64 → e.baseId.toNat = byteAt b (157 + 3 * n)) ∧
      e.length = min (byteAt b (158 + 3 * n)) 6 ∧ (e.control = true ↔ byteAt b (159 + 3 * n) = 1)) ∧
  (∀ (c : Instr) (k : Byte) (f : RxFrame) (s : State), frameOf c = some (k, f) →
    k ∈ [0x30, 0x31, 0x32, 0x33] → s.takesRead k f = true →
    ∃ (t : State) (r : Queued Response), exec c s = .next t ∧
      t.bus.responses = s.bus.responses ++ [r] ∧ r.frame.code ≠ 3) ∧
  (∀ (u : Uptime) (s : State), s.inReset = false → (∀ src, permits s.sources src = false) →
    s.rcu.switchClosed = some u → elapsed s.tmu.uptime u < 3000 → s.rcu.run = .idle →
    s.bgu.slotConflict = false → s.cfl.status = .valid → s.tmu.settled = true →
    s.sou.sensePresent = true → s.bgu.committed < (s.stepAt 0).claimW →
    ∃ t, exec .startSwitchRelease s = .next t ∧ t.rcu.run = .claiming)

/-! ### Read requests -/

/-- STATUS (R171, Tables 10-9 and 10-10): page 0 is 41 bytes and page 1 31 bytes, laid out as the
tables say, page 2 and above is BAD_REQUEST, and only the outbox changes. The run state, the phase, the
verdict, the end cause and the configuration's status and reason stand there by their codes of Table
10-4. The order of the three stages in byte 25 of page 0 is the model's reading (log entry 12), and that the bits of bytes 25 and 32
of page 0 and of byte 24 of page 1 which the tables do not name are 0 is its choice (log entry 43). -/
def Obligations.StatusReportsTheTables : Prop :=
  ((∀ r : RunState,
      [.idle, .claiming, .waiting, .running, .paused, .ended, .isolated][r.code]? = some r) ∧
    (∀ p : Phase, [.none, .settling, .reaching, .timing, .off, .powering, .on][p.code]? = some p) ∧
    (∀ v : Verdict, [.none, .pass, .fail, .aborted][v.code]? = some v) ∧
    (∀ c : EndCause, [.none, .completed, .requested, .faultPolicy, .faultLimit, .overdraw,
      .outputLimit, .notReached, .fixtureRemoved, .busLost, .supplyLost, .budgetTimeout][c.code]? =
      some c) ∧
    (∀ c : ConfigStatus, [.absent, .loading, .valid, .invalid][c.code]? = some c) ∧
    ∀ r : Reason,
      [.none, .noResponse, .length, .version, .checksum, .badStructure][r.code]? = some r) ∧
  ∀ (f : RxFrame) (s : State), s.takesRead 0x30 f = true →
    (byteAt f.payload 1 = 0 → ∃ d : List Byte,
      exec (.status f) s = .next { s with bus := { s.bus with
        responses := s.bus.responses ++ [answerTo 0x30 f 0 d] } } ∧ d.length = 41 ∧
      byteAt d 0 = s.rcu.run.code ∧ byteAt d 1 = s.rcu.verdict.code ∧
      byteAt d 2 = s.rcu.cause.code ∧ byteAt d 3 = s.rcu.step % 256 ∧
      byteAt d 4 = s.rcu.phase.code ∧ wordAt d 5 = s.rcu.iteration % 65536 ∧
      wordAt d 7 = s.bgu.committed % 65536 ∧
      (s.bgu.intent = none → wordAt d 9 = 0 ∧ byteAt d 11 = 0) ∧
      (∀ i, s.bgu.intent = some i → wordAt d 9 = i.claim % 65536 ∧
        byteAt d 11 = match i.stage with | .held => 1 | .queued => 2 | .window _ => 3) ∧
      byteAt d 12 = s.code.toNat ∧
      wordAt d 13 = s.bgu.refusals % 65536 ∧ wordAt d 15 = s.sou.target0 % 65536 ∧
      wordAt d 17 = s.sou.level0 % 65536 ∧ wordAt d 19 = s.sou.target1 % 65536 ∧
      wordAt d 21 = s.sou.level1 % 65536 ∧ byteAt d 23 = s.sou.target2 % 256 ∧
      byteAt d 24 = s.sou.level2 % 256 ∧
      byteAt d 25 = (if 0 < s.sou.target0 ∨ 0 < s.sou.level0 then 1 else 0) +
        (if 0 < s.sou.target1 ∨ 0 < s.sou.level1 then 2 else 0) +
        (if 0 < s.sou.target2 ∨ 0 < s.sou.level2 then 4 else 0) +
        (if s.sou.pressed = true then 8 else 0) + (if s.sou.sensePresent = true then 0 else 16) ∧
      wordAt d 26 = s.asc.power % 65536 ∧
      byteAt d 28 = s.fcu.recordCount % 256 ∧ byteAt d 29 = s.fcu.log.length % 256 ∧
      wordAt d 30 = s.fcu.lostCount % 65536 ∧
      byteAt d 32 = (if s.fcu.logFull = true then 1 else 0) +
        (if s.rcu.clamped = true then 2 else 0) ∧
      longAt d 33 = s.tmu.rack.s.toNat ∧
      longAt d 37 = s.tmu.rack.ns % 4294967296) ∧
    (byteAt f.payload 1 = 1 → ∃ d : List Byte,
      exec (.status f) s = .next { s with bus := { s.bus with
        responses := s.bus.responses ++ [answerTo 0x30 f 0 d] } } ∧ d.length = 31 ∧
      byteAt d 0 = s.cfl.status.code ∧ byteAt d 1 = s.cfl.reason.code ∧
      wordAt d 2 = s.cfl.modelCode.toNat ∧ longAt d 4 = s.cfl.serial.toNat ∧
      longAt d 8 = s.tmu.rack.s.toNat ∧ longAt d 12 = s.tmu.rack.ns % 4294967296 ∧
      wordAt d 16 * 4294967296 + longAt d 18 = s.tmu.uptime.toNat ∧
      wordAt d 22 = s.tmu.jumps % 65536 ∧
      byteAt d 24 = (if s.tmu.settled = true then 1 else 0) +
        (if s.bgu.slotConflict = true then 2 else 0) +
        (if ∃ p ∈ s.bgu.peers, p.fresh = false then 4 else 0) ∧
      wordAt d 25 = s.bus.noticeDrops % 65536 ∧
      wordAt d 27 = s.bus.requestDrops % 65536 ∧ byteAt d 29 = s.slot.toNat ∧
      byteAt d 30 = s.bgu.peers.length % 256) ∧
    (2 ≤ byteAt f.payload 1 →
      exec (.status f) s = .next { s with bus := { s.bus with
        responses := s.bus.responses ++ [answerTo 0x30 f 6 []] } })

/-- READ_LOG (R149, R171, Table 10-7): the stored record at the index in its 33 bytes, its kind as 1 to
16 in the order of Table 8-1 (Table 10-4), or BAD_INDEX at or above the stored count. READ_COUNTERS and READ_POINT (Table 10-11): the snapshot store's part
with the snapshot's rack time, or BAD_REQUEST for a group above 3; the point's values, or BAD_INDEX
for a point above 7. Only the outbox changes. Which of a lane's three terminal flags stands in which
bit is the model's choice (log entry 41), and so are the zeros in the bits that Table 10-11 does not
name, of a lane's flag byte and of byte 3 of READ_POINT (log entry 43). -/
def Obligations.LogCountersAndPointsAreRead : Prop :=
  (∀ k : FaultKind, 0 < k.code ∧ [.excursionLow, .excursionHigh, .notReached, .overdraw, .outputLimit,
    .laneErrors, .laneLost, .hang, .fanRate, .pgDrop, .noPowerGood, .spontaneousReset, .supplyLost,
    .budgetTimeout, .fixtureRemoved, .busLost][k.code - 1]? = some k) ∧
  (∀ (f : RxFrame) (s : State), s.takesRead 0x31 f = true →
    (∀ r, s.fcu.log[byteAt f.payload 1]? = some r → ∃ d : List Byte,
      exec (.readLog f) s = .next { s with bus := { s.bus with
        responses := s.bus.responses ++ [answerTo 0x31 f 0 d] } } ∧ d.length = 33 ∧
      byteAt d 0 = r.index % 256 ∧ byteAt d 1 = r.kind.code ∧ longAt d 2 = r.rack.s.toNat ∧
      longAt d 6 = r.rack.ns % 4294967296 ∧
      wordAt d 10 * 4294967296 + longAt d 12 = r.uptime.toNat ∧ byteAt d 16 = r.step % 256 ∧
      byteAt d 17 = r.phase.code ∧ wordAt d 18 = r.iteration % 65536 ∧
      (longAt d 20 : Int) = r.value % 4294967296 ∧
      (∀ i, i < 16 → ((wordAt d 24).testBit i = true ↔ i ∈ r.points)) ∧
      byteAt d 26 = (if r.context.isSome then 1 else 0) ∧
      (r.context = none → wordAt d 27 = 0 ∧ wordAt d 29 = 0 ∧ wordAt d 31 = 0) ∧
      (∀ c, r.context = some c →
        (wordAt d 27 : Int) = c.mainMv % 65536 ∧ (wordAt d 29 : Int) = c.mainMa % 65536 ∧
        (wordAt d 31 : Int) = c.temp % 65536)) ∧
    (s.fcu.log.length ≤ byteAt f.payload 1 →
      exec (.readLog f) s = .next { s with bus := { s.bus with
        responses := s.bus.responses ++ [answerTo 0x31 f 5 []] } })) ∧
  (∀ (f : RxFrame) (s : State),
    (s.takesRead 0x32 f = true →
      (byteAt f.payload 1 < 4 → ∃ d : List Byte,
        exec (.readCounters f) s = .next { s with bus := { s.bus with
          responses := s.bus.responses ++ [answerTo 0x32 f 0 d] } } ∧
        longAt d 0 = s.bus.snapshot.rack.s.toNat ∧
        longAt d 4 = s.bus.snapshot.rack.ns % 4294967296 ∧
        (byteAt f.payload 1 = 0 → d.length = 32 ∧ ∀ j : Fin 4,
          byteAt d (8 + 6 * j) = (s.bus.snapshot.lanes.get j).sign.count % 256 ∧
          byteAt d (9 + 6 * j) = (s.bus.snapshot.lanes.get j).code.count % 256 ∧
          byteAt d (10 + 6 * j) = (s.bus.snapshot.lanes.get j).mark.count % 256 ∧
          byteAt d (11 + 6 * j) =
            (if (s.bus.snapshot.lanes.get j).sign.terminal = true then 1 else 0) +
            (if (s.bus.snapshot.lanes.get j).code.terminal = true then 2 else 0) +
            (if (s.bus.snapshot.lanes.get j).mark.terminal = true then 4 else 0) ∧
          wordAt d (12 + 6 * j) = (s.bus.snapshot.lanes.get j).lockLosses % 65536) ∧
        (byteAt f.payload 1 = 1 → d.length = 32 ∧ ∀ j : Fin 4,
          longAt d (8 + 6 * j) = (s.bus.snapshot.lines.get j).pulses.toNat ∧
          wordAt d (12 + 6 * j) = (s.bus.snapshot.lines.get j).episodes % 65536) ∧
        (byteAt f.payload 1 = 2 → d.length = 26 ∧
          (∀ i : Fin 8, wordAt d (8 + 2 * i) = s.bus.snapshot.pointEpisodes.get i % 65536) ∧
          wordAt d 24 = s.bus.snapshot.overdrawEpisodes % 65536) ∧
        (byteAt f.payload 1 = 3 → d.length = 40 ∧ ∀ j : Fin 4,
          ((s.bus.snapshot.lines.get j).riseAbsent = true →
            longAt d (12 + 8 * j) = 0xFFFFFFFF) ∧
          ((s.bus.snapshot.lines.get j).riseAbsent = false →
            longAt d (8 + 8 * j) = (s.bus.snapshot.lines.get j).rise.s.toNat ∧
            longAt d (12 + 8 * j) = (s.bus.snapshot.lines.get j).rise.ns % 4294967296))) ∧
      (4 ≤ byteAt f.payload 1 →
        exec (.readCounters f) s = .next { s with bus := { s.bus with
          responses := s.bus.responses ++ [answerTo 0x32 f 6 []] } })) ∧
    (s.takesRead 0x33 f = true →
      (∀ i : Fin 8, byteAt f.payload 1 = i → ∃ d : List Byte,
        exec (.readPoint f) s = .next { s with bus := { s.bus with
          responses := s.bus.responses ++ [answerTo 0x33 f 0 d] } } ∧ d.length = 6 ∧
        byteAt d 0 = i ∧ wordAt d 1 = (s.asc.points.get i).code % 65536 ∧
        byteAt d 3 = (if (s.asc.points.get i).underRange then 1 else 0) +
          (if (s.asc.points.get i).overRange then 2 else 0) +
          (if (s.asc.points.get i).calDefault then 4 else 0) +
          (if (s.wck.points.get i).out then 8 else 0) ∧
        (wordAt d 4 : Int) = (s.asc.points.get i).y % 65536) ∧
      (8 ≤ byteAt f.payload 1 →
        exec (.readPoint f) s = .next { s with bus := { s.bus with
          responses := s.bus.responses ++ [answerTo 0x33 f 5 []] } })))

/-! ### Receptions -/

/-- A frame that does not arrive whole, or with a length field above 48, or with a bad check leaves
no trace, whatever its kind (R160); nor does a notice or a response of another node. A frame of an
unknown kind is handled as a request of steps 1 and 2 of R167 (log entry 15). That a frame with more
payload bytes than its length field states is discarded too is the model's reading (log entry 24). -/
def Obligations.OnlyWholeFramesOfUsedKindsAct : Prop :=
  (∀ (c : Instr) (k : Byte) (f : RxFrame) (s : State), frameOf c = some (k, f) →
    (48 < f.length.toNat ∨ f.payload.length ≠ f.length.toNat ∨ crc16 (frameBody k f) ≠ f.check) →
    exec c s = .next s) ∧
  (∀ (k : Byte) (f : RxFrame) (s : State), s.hears k f = true →
    (k ∈ [0x10, 0x11, 0x40] → exec (.frameReceived k f) s = .next s) ∧
    (k ∉ ownRowKinds → k ∉ [0x10, 0x11, 0x40] →
      (s.addressed f = false → exec (.frameReceived k f) s = .next s) ∧
      (s.addressed f = true → s.responseFull = true →
        exec (.frameReceived k f) s = .next { s with bus := { s.bus with
          requestDrops := min (s.bus.requestDrops + 1) 65535 } }) ∧
      (s.addressed f = true → s.responseFull = false →
        ∃ t, exec (.frameReceived k f) s = .next t ∧ s.answersBad k f t)))

/-- A frame of any kind from the station's own slot sets the slot-conflict flag and changes no entry
of the peer view, a budget frame or BEACON among them leaves the run and the committed claim as they
stand, and the flag stays set until a reset (R69). While it is set START is refused with
SLOT_CONFLICT, a short press is ignored, and the flag stands in BEACON and STATUS. That a BEACON, an
INTENT or a COMMIT of the wrong payload length sets the flag too is the model's reading (log
entry 23). -/
def Obligations.OwnSlotFramesSetTheConflict : Prop :=
  (∀ (c : Instr) (k : Byte) (f : RxFrame) (s : State), frameOf c = some (k, f) →
    s.inReset = false → frameIntact k f = true → f.source = s.slot.setWidth 6 →
    ∃ t, exec c s = .next t ∧ t.bgu.slotConflict = true ∧ t.bgu.peers = s.bgu.peers) ∧
  (∀ (c : Instr) (s t : State), exec c s = .next t → c ≠ .powerOnReset → c ≠ .rackReset →
    s.bgu.slotConflict = true → t.bgu.slotConflict = true) ∧
  (∀ (c : Instr) (k : Byte) (f : RxFrame) (s t : State), frameOf c = some (k, f) →
    k ∈ [0x01, 0x02, 0x03] → f.source = s.slot.setWidth 6 → exec c s = .next t →
    t.rcu = s.rcu ∧ t.bgu.committed = s.bgu.committed) ∧
  (∀ s : State, s.bgu.slotConflict = true →
    (∀ f : RxFrame, s.takesControl 0x20 f = true → s.rcu.run = .idle →
      exec (.start f) s = .next { s with bus := { s.bus with
        responses := s.bus.responses ++ [answerTo 0x20 f 4 []] } }) ∧
    (∀ u : Uptime, s.inReset = false → s.rcu.switchClosed = some u →
      elapsed s.tmu.uptime u < 3000 →
      exec .startSwitchRelease s = .next { s with rcu := { s.rcu with switchClosed := none } }) ∧
    s.beaconFlags.testBit 0 = true ∧
    (∀ f : RxFrame, s.takesRead 0x30 f = true → byteAt f.payload 1 = 1 → ∃ d : List Byte,
      exec (.status f) s = .next { s with bus := { s.bus with
        responses := s.bus.responses ++ [answerTo 0x30 f 0 d] } } ∧
      (byteAt d 24).testBit 1 = true))

/-- A BEACON of a peer (R53, R54, R156, R157): its entry takes the claim, keeps its open intent only
where the peer reports CLAIMING, and is FRESH and heard now; the clock jumps forward when the
beacon's time leads the receive stamp (R154, log entry 37) by more than 2000 ns, and is settled. No
other entry changes. Where a HELD intent waits for the flag, it may be queued on it (R57), and in
WAITING a lowered claim begins a retry (R62). -/
def Obligations.BeaconUpdatesItsPeerAndTheClock : Prop :=
  ∀ (f : RxFrame) (lead : Int) (s : State), s.hears 0x01 f = true → f.source.toNat < 32 →
    f.payload.length = 17 →
    s.bgu.waitingSince = none ∨ s.heldClaim f.source.toNat ≤ min (wordAt f.payload 12) 400 →
    (∀ w, s.bgu.intent ≠ some ⟨w, .held⟩) ∨ s.tmu.settled = true →
    lead = leadNanos ⟨BitVec.ofNat 32 (longAt f.payload 0), longAt f.payload 4⟩
      (s.receiveStamp f) →
    ∃ peers, exec (.beaconReceived f) s = .next { s with
        bgu := { s.bgu with peers := peers }
        tmu := { s.tmu with
          rack := if 2000 < lead then addNanos s.tmu.rack lead.toNat else s.tmu.rack
          jumps := if 2000 < lead then min (s.tmu.jumps + 1) 65535 else s.tmu.jumps
          settled := true } } ∧
      s.onlyPeer f.source.toNat
        ⟨f.source.toNat, min (wordAt f.payload 12) 400,
          if byteAt f.payload 8 = 1 then s.heldIntent f.source.toNat else none,
          s.tmu.uptime, true⟩ peers

/-- An INTENT and a COMMIT of a peer (R53, R54): the INTENT opens the entry's intent with the carried
claim, at most 400 W, and the carried time; the COMMIT replaces the committed claim and closes the
intent. The entry is FRESH and heard now, and no other entry changes. In WAITING a lowered claim begins
a retry (R62). -/
def Obligations.BudgetFramesUpdateTheirPeer : Prop :=
  ∀ (f : RxFrame) (s : State), f.source.toNat < 32 →
    (s.hears 0x02 f = true → f.payload.length = 10 →
      ∃ peers, exec (.intentReceived f) s = .next { s with bgu := { s.bgu with peers := peers } } ∧
        s.onlyPeer f.source.toNat
          ⟨f.source.toNat, s.heldClaim f.source.toNat,
            some ⟨min (wordAt f.payload 8) 400,
              ⟨BitVec.ofNat 32 (longAt f.payload 0), longAt f.payload 4⟩, s.tmu.uptime⟩,
            s.tmu.uptime, true⟩ peers) ∧
    (s.hears 0x03 f = true → f.payload.length = 2 →
      s.bgu.waitingSince = none ∨ s.heldClaim f.source.toNat ≤ min (wordAt f.payload 0) 400 →
      ∃ peers, exec (.commitReceived f) s = .next { s with bgu := { s.bgu with peers := peers } } ∧
        s.onlyPeer f.source.toNat
          ⟨f.source.toNat, min (wordAt f.payload 0) 400, none, s.tmu.uptime, true⟩ peers)

/-! ### Retries and the peer view in time -/

/-- The three causes of a retry in WAITING (R62): 2000 ms since the refusal, the removal of an entry,
and a decrease of a peer's committed claim, by a COMMIT or by a BEACON (R54). The run is CLAIMING again
and asks the same claim. The view is what the cause makes of it (R53, R54, R55), and a BEACON is a time
sample too (R156); that its receive stamp is the rack time of its delivery less its age is the model's
reading (log entry 37). -/
def Obligations.RetryCausesAskTheSameClaim : Prop :=
  ∀ (c : Instr) (since : Uptime) (s : State), s.inReset = false →
    s.bgu.waitingSince = some since → s.bgu.intent = none → s.bus.attempt = none →
    s.tmu.settled = true → s.bgu.listening = 0 → s.bgu.accumulator < 600000 →
    ((c = .retryIntervalExpiry ∧ 2000 ≤ elapsed s.tmu.uptime since) ∨
      (∃ (slot : BitVec 5) (p : Peer), c = .peerEntryRemoval slot ∧ p ∈ s.bgu.peers ∧
        p.slot = slot.toNat ∧ 10000 ≤ elapsed s.tmu.uptime p.lastHeard) ∨
      (∃ f : RxFrame, c = .commitReceived f ∧ s.hears 0x03 f = true ∧ f.payload.length = 2 ∧
        f.source.toNat < 32 ∧
        min (wordAt f.payload 0) 400 < s.heldClaim f.source.toNat) ∨
      (∃ f : RxFrame, c = .beaconReceived f ∧ s.hears 0x01 f = true ∧ f.payload.length = 17 ∧
        f.source.toNat < 32 ∧
        min (wordAt f.payload 12) 400 < s.heldClaim f.source.toNat)) →
    ∃ t, exec c s = .next t ∧ t.rcu = { s.rcu with run := .claiming } ∧
      t.bgu = { s.bgu with waitingSince := none, intent := some ⟨s.theStep.claimW, .queued⟩
                           peers := t.bgu.peers } ∧
      (c = .retryIntervalExpiry → t.bgu.peers = s.bgu.peers) ∧
      (∀ slot, c = .peerEntryRemoval slot → findPeer slot.toNat t.bgu.peers = none ∧
        ∀ n, n ≠ slot.toNat → findPeer n t.bgu.peers = findPeer n s.bgu.peers) ∧
      (∀ f, c = .commitReceived f → s.onlyPeer f.source.toNat
        ⟨f.source.toNat, min (wordAt f.payload 0) 400, none, s.tmu.uptime, true⟩ t.bgu.peers) ∧
      (∀ (f : RxFrame) (lead : Int), c = .beaconReceived f →
        lead = leadNanos ⟨BitVec.ofNat 32 (longAt f.payload 0), longAt f.payload 4⟩
          (s.receiveStamp f) →
        s.onlyPeer f.source.toNat
          ⟨f.source.toNat, min (wordAt f.payload 12) 400,
            if byteAt f.payload 8 = 1 then s.heldIntent f.source.toNat else none,
            s.tmu.uptime, true⟩ t.bgu.peers ∧
        t.tmu = { s.tmu with
          rack := if 2000 < lead then addNanos s.tmu.rack lead.toNat else s.tmu.rack
          jumps := if 2000 < lead then min (s.tmu.jumps + 1) 65535 else s.tmu.jumps }) ∧
      ((∀ f, c ≠ .beaconReceived f) → t.tmu = s.tmu) ∧
      t.bus = { s.bus with budget := some ⟨.intent s.theStep.claimW true, 0⟩ } ∧
      t.sou = s.sou ∧ t.asc = s.asc ∧ t.wck = s.wck ∧ t.lanes = s.lanes ∧ t.lines = s.lines ∧
      t.fcu = s.fcu ∧ t.cfl = s.cfl

/-- The timed changes of an entry (R55, R56): STALE at 1000 ms unheard, gone at 10000 ms, its intent
closed 1000 ms after it was heard; before those times nothing changes, and no other entry does. An
entry that was heard less than 10000 ms ago is not removed. In WAITING the removal is a retry cause
(R62); the other two are none, and leave the wait as it stands. -/
def Obligations.PeerEntriesAge : Prop :=
  ∀ (slot : BitVec 5) (p : Peer) (s : State), s.inReset = false →
    findPeer slot.toNat s.bgu.peers = some p →
    (∃ peers, exec (.peerEntryStale slot) s = .next { s with bgu := { s.bgu with peers := peers } } ∧
      s.onlyPeer slot.toNat
        { p with fresh := p.fresh && decide (elapsed s.tmu.uptime p.lastHeard < 1000) } peers) ∧
    (∀ i, p.intent = some i →
      ∃ peers, exec (.peerIntentLifetimeExpiry slot) s =
          .next { s with bgu := { s.bgu with peers := peers } } ∧
        s.onlyPeer slot.toNat
          { p with intent := if 1000 ≤ elapsed s.tmu.uptime i.heard then none else some i } peers) ∧
    (s.bgu.waitingSince = none → 10000 ≤ elapsed s.tmu.uptime p.lastHeard →
      ∃ peers, exec (.peerEntryRemoval slot) s =
          .next { s with bgu := { s.bgu with peers := peers } } ∧
        findPeer slot.toNat peers = none ∧
        ∀ n, n ≠ slot.toNat → findPeer n peers = findPeer n s.bgu.peers) ∧
    ((∀ q ∈ s.bgu.peers, q.slot = slot.toNat → elapsed s.tmu.uptime q.lastHeard < 10000) →
      exec (.peerEntryRemoval slot) s = .next s)

/-! ### Transmission -/

/-- An attempt starts with the head of the lowest-numbered class that holds a frame (R161), stamped
with the rack time of its start of frame (R154), its claims and times taken then (R50, R51, R164). The
bytes of a frame are its class and source, its destination, its kind, its length, its payload and its
check, the zero bits of Table 10-2 at 0. A RUN notice's payload is laid out as Table 10-8 says, and the
flag byte of a BEACON as Table 10-6 does. That INTENT, COMMIT and BEACON go to every node, destination
63, is the model's reading (log entry 16). -/
def Obligations.AttemptSendsTheLowestClass : Prop :=
  (∀ (cls : BitVec 2) (slot : BitVec 5) (dest : BitVec 6) (kind : Byte) (payload bytes : List Byte),
    payload.length < 256 → bytes = frameBytes cls slot dest kind payload →
    bytes.length = payload.length + 6 ∧ byteAt bytes 0 = 64 * cls.toNat + slot.toNat ∧
      byteAt bytes 1 = dest.toNat ∧ byteAt bytes 2 = kind.toNat ∧
      byteAt bytes 3 = payload.length ∧ (bytes.drop 4).take payload.length = payload ∧
      wordAt bytes (payload.length + 4) = (crc16 (bytes.take (payload.length + 4))).toNat) ∧
  (∀ (n : RunNotice) (d : List Byte), d = runNoticeBytes n →
    d.length = 19 ∧ longAt d 0 = n.rack.s.toNat ∧ longAt d 4 = n.rack.ns % 4294967296 ∧
      byteAt d 8 = n.verdict.code ∧ byteAt d 9 = n.cause.code ∧ byteAt d 10 = n.step % 256 ∧
      byteAt d 11 = n.phase.code ∧ wordAt d 12 = n.iteration % 65536 ∧
      byteAt d 14 = n.recordCount % 256 ∧ byteAt d 15 = n.storedCount % 256 ∧
      wordAt d 16 = n.lostCount % 65536 ∧
      byteAt d 18 = (if n.logFull = true then 1 else 0) + (if n.clamped = true then 2 else 0)) ∧
  (∀ s : State, s.beaconFlags = (if s.bgu.slotConflict = true then 1 else 0) +
    (if ∃ p ∈ s.bgu.peers, p.fresh = false then 2 else 0) +
    (if s.tmu.settled = true then 4 else 0) + (if s.sou.sensePresent = true then 0 else 8) +
    (if s.fcu.logFull = true then 16 else 0) + (if s.rcu.clamped = true then 32 else 0)) ∧
  ∀ s : State, s.inReset = false → s.bus.attempt = none →
    (∀ claim own r, s.bus.budget = some ⟨.intent claim own, r⟩ →
      exec .attemptStart s = .next { s with bus := { s.bus with
        attempt := some ⟨.budget, s.tmu.rack, frameBytes 0 s.slot 63 0x02
          (beBytes 4 s.tmu.rack.s.toNat ++ beBytes 4 s.tmu.rack.ns ++ beBytes 2 claim)⟩ } }) ∧
    (∀ r, s.bus.budget = some ⟨.commit, r⟩ →
      exec .attemptStart s = .next { s with bus := { s.bus with
        attempt := some ⟨.budget, s.tmu.rack, frameBytes 0 s.slot 63 0x03 (beBytes 2 s.bgu.committed)⟩ } }) ∧
    (∀ q qs, s.bus.budget = none → s.bus.notices = q :: qs →
      exec .attemptStart s = .next { s with bus := { s.bus with
        attempt := some ⟨.notice, s.tmu.rack, match q.frame with
          | .fault r => frameBytes 1 s.slot 63 0x10 (recordBytes r)
          | .run n => frameBytes 1 s.slot 63 0x11 (runNoticeBytes n)⟩ } }) ∧
    (∀ q qs, s.bus.budget = none → s.bus.notices = [] → s.bus.responses = q :: qs →
      exec .attemptStart s = .next { s with bus := { s.bus with
        attempt := some ⟨.response, s.tmu.rack, frameBytes 2 s.slot q.frame.dest 0x40
          (q.frame.tag :: q.frame.kind :: q.frame.code :: q.frame.data)⟩ } }) ∧
    (s.bus.budget = none → s.bus.notices = [] → s.bus.responses = [] → s.bus.beacon ≠ none →
      exec .attemptStart s = .next { s with bus := { s.bus with
        attempt := some ⟨.beacon, s.tmu.rack, frameBytes 3 s.slot 63 0x01
          (beBytes 4 s.tmu.rack.s.toNat ++ beBytes 4 s.tmu.rack.ns ++ beBytes 1 s.rcu.run.code ++
            beBytes 1 s.rcu.step ++ beBytes 1 s.rcu.verdict.code ++ beBytes 1 s.beaconFlags ++
            beBytes 2 s.bgu.committed ++ beBytes 2 s.asc.power ++
            beBytes 1 s.fcu.recordCount)⟩ } }) ∧
    (s.bus.budget = none → s.bus.notices = [] → s.bus.responses = [] → s.bus.beacon = none →
      exec .attemptStart s = .next s)

/-- The check of a frame (R160) leaves no remainder at the end of the bytes that carry it, and tells
apart any two runs of bytes that differ in one byte. -/
def Obligations.CheckCatchesAnyOneByte : Prop :=
  (∀ bytes : List Byte, crc16 (bytes ++ beBytes 2 (crc16 bytes).toNat) = 0) ∧
  (∀ (before after : List Byte) (x y : Byte), x ≠ y →
    crc16 (before ++ x :: after) ≠ crc16 (before ++ y :: after))

/-- An attempt that loses arbitration leaves its frame in place with its bus-error run (R161, R162), and
a newer frame that waited for it stands in its class with run 0. A bus error aborts the attempt: the
frame's run counts to three aborts, at which the frame fails: a COMMIT and the own INTENT are queued
afresh, a withdrawn INTENT and a BEACON are discarded, a notice and a response are dropped and
counted. While the station is isolated nothing is counted. Where a newer frame of the class waits, it
replaces the aborted one with run 0, at the third abort too (log entry 17). That an INTENT whose
intent has been withdrawn is told from the own one by a mark, and is not queued afresh, is the model's
reading (log entry 34). -/
def Obligations.FailedAttemptsKeepTheirFrame : Prop :=
  (∀ (a : Attempt) (s : State), s.inReset = false → s.bus.attempt = some a →
    (s.bus.budgetNext = none → s.bus.beaconNext = false →
      exec .arbitrationLoss s = .next { s with bus := { s.bus with attempt := none } }) ∧
    (∀ g, s.bus.budgetNext = some g → s.bus.beaconNext = false →
      exec .arbitrationLoss s = .next { s with bus := { s.bus with
        attempt := none, budget := some ⟨g, 0⟩, budgetNext := none } }) ∧
    (s.bus.budgetNext = none → s.bus.beaconNext = true →
      exec .arbitrationLoss s = .next { s with bus := { s.bus with
        attempt := none, beacon := some ⟨(), 0⟩, beaconNext := false } })) ∧
  (∀ (a : Attempt) (s : State), s.inReset = false → s.bus.attempt = some a →
    s.bus.budgetNext = none → s.bus.beaconNext = false →
    (s.bus.isolated = true →
      exec .busError s = .next { s with bus := { s.bus with attempt := none } }) ∧
    (∀ q, s.bus.isolated = false → a.cls = .budget → s.bus.budget = some q →
      exec .busError s = .next { s with bus := { s.bus with
        attempt := none
        budget := if q.errorRun < 2 then some ⟨q.frame, q.errorRun + 1⟩
          else match q.frame with
            | .intent claim true => some ⟨.intent claim true, 0⟩
            | .intent _ false => none
            | .commit => some ⟨.commit, 0⟩ } }) ∧
    (∀ q qs, s.bus.isolated = false → a.cls = .notice → s.bus.notices = q :: qs →
      exec .busError s = .next { s with bus := { s.bus with
        attempt := none
        notices := if q.errorRun < 2 then ⟨q.frame, q.errorRun + 1⟩ :: qs else qs
        noticeDrops := if q.errorRun < 2 then s.bus.noticeDrops
          else min (s.bus.noticeDrops + 1) 65535 } }) ∧
    (∀ q qs, s.bus.isolated = false → a.cls = .response → s.bus.responses = q :: qs →
      exec .busError s = .next { s with bus := { s.bus with
        attempt := none
        responses := if q.errorRun < 2 then ⟨q.frame, q.errorRun + 1⟩ :: qs else qs
        requestDrops := if q.errorRun < 2 then s.bus.requestDrops
          else min (s.bus.requestDrops + 1) 65535 } }) ∧
    (∀ q, s.bus.isolated = false → a.cls = .beacon → s.bus.beacon = some q →
      exec .busError s = .next { s with bus := { s.bus with
        attempt := none
        beacon := if q.errorRun < 2 then some ⟨(), q.errorRun + 1⟩ else none } })) ∧
  (∀ (a : Attempt) (s : State), s.inReset = false → s.bus.attempt = some a →
    (∀ g, a.cls = .budget → s.bus.budgetNext = some g → s.bus.beaconNext = false →
      exec .busError s = .next { s with bus := { s.bus with
        attempt := none, budget := some ⟨g, 0⟩, budgetNext := none } }) ∧
    (a.cls = .beacon → s.bus.budgetNext = none → s.bus.beaconNext = true →
      exec .busError s = .next { s with bus := { s.bus with
        attempt := none, beacon := some ⟨(), 0⟩, beaconNext := false } }))

/-- A transmit-complete outside isolation (R161, R165, R50): the frame leaves its class, a newer frame
of the class takes its place, and the transmit-success timer starts again. The own INTENT moves the
own intent to WINDOW with its stamp as intent time and starts the 300 ms window. An INTENT whose
intent has been withdrawn opens none, whatever intent is open and whatever frame stands behind it; a
mark tells it from the own one (log entry 34). The first one in
isolation (R30) clears the isolated flag and leaves ISOLATED, to ENDED with ABORTED and BUS_LOST where
a run was active at the report, and to IDLE at position 0 otherwise; a load whose conditions now hold
starts (R177). -/
def Obligations.TransmitCompleteFreesTheClass : Prop :=
  (∀ (a : Attempt) (s : State), s.inReset = false → s.bus.attempt = some a →
    s.bus.isolated = false →
    (a.cls = .notice → s.bus.budgetNext = none → s.bus.beaconNext = false →
      exec .transmitComplete s = .next { s with bus := { s.bus with
        attempt := none, notices := s.bus.notices.tail
        lastSuccess := s.tmu.uptime, successTimer := some 2000 } }) ∧
    (a.cls = .response → s.bus.budgetNext = none → s.bus.beaconNext = false →
      exec .transmitComplete s = .next { s with bus := { s.bus with
        attempt := none, responses := s.bus.responses.tail
        lastSuccess := s.tmu.uptime, successTimer := some 2000 } }) ∧
    (a.cls = .beacon → s.bus.budgetNext = none →
      exec .transmitComplete s = .next { s with bus := { s.bus with
        attempt := none, beacon := if s.bus.beaconNext then some ⟨(), 0⟩ else none
        beaconNext := false, lastSuccess := s.tmu.uptime, successTimer := some 2000 } }) ∧
    (∀ r, a.cls = .budget → s.bus.budget = some ⟨.commit, r⟩ → s.bus.beaconNext = false →
      exec .transmitComplete s = .next { s with bus := { s.bus with
        attempt := none, budget := s.bus.budgetNext.map fun g => ⟨g, 0⟩
        budgetNext := none, lastSuccess := s.tmu.uptime, successTimer := some 2000 } }) ∧
    (∀ claim r w, a.cls = .budget → s.bus.budget = some ⟨.intent claim true, r⟩ →
      s.bgu.intent = some ⟨w, .queued⟩ → s.bus.budgetNext = none → s.bus.beaconNext = false →
      exec .transmitComplete s = .next { s with
        bus := { s.bus with attempt := none, budget := none
                            lastSuccess := s.tmu.uptime, successTimer := some 2000 }
        bgu := { s.bgu with intent := some ⟨w, .window a.stamp⟩, window := some 300 } }) ∧
    (∀ claim own r, a.cls = .budget → s.bus.budget = some ⟨.intent claim own, r⟩ →
      own = false ∨ (∀ w, s.bgu.intent ≠ some ⟨w, .queued⟩) → s.bus.beaconNext = false →
      exec .transmitComplete s = .next { s with bus := { s.bus with
        attempt := none, budget := s.bus.budgetNext.map fun g => ⟨g, 0⟩
        budgetNext := none, lastSuccess := s.tmu.uptime, successTimer := some 2000 } })) ∧
  (∀ (a : Attempt) (s : State), s.inReset = false → s.bus.attempt = some a →
    s.bus.isolated = true → s.rcu.run = .isolated →
    ∃ t, exec .transmitComplete s = .next t ∧ t.bus.isolated = false ∧
      t.bus.lastSuccess = s.tmu.uptime ∧ t.bus.successTimer = some 2000 ∧
      (s.rcu.isolatedRun = true → t.rcu = { s.rcu with
        run := .ended, verdict := .aborted, cause := .busLost, isolatedRun := false }) ∧
      (s.rcu.isolatedRun = false → t.rcu = { s.rcu with
        run := .idle, step := 0, phase := .none, iteration := 0 }) ∧
      (s.cfl.fixture = .present ∧ s.cfl.status = .absent →
        t.cfl = { s.cfl with status := .loading, reason := .none, modelCode := 0, serial := 0
                             loadTimer := some 200, read := 0 }) ∧
      (¬(s.cfl.fixture = .present ∧ s.cfl.status = .absent) → t.cfl = s.cfl ∧ t.asc = s.asc) ∧
      t.sou = s.sou ∧ t.wck = s.wck ∧ t.lanes = s.lanes ∧ t.lines = s.lines ∧ t.fcu = s.fcu ∧
      t.tmu = s.tmu ∧ t.bgu.committed = s.bgu.committed ∧ t.bgu.peers = s.bgu.peers)

/-- 2000 ms without a transmit success isolate the station (R165, R30, R65): the outputs go to 0 at
once, the claim to 0 with a COMMIT, the timers stop, and in an active run the open groups and a
BUS_LOST record are written and a RUN notice queued. -/
def Obligations.SilentBusIsolatesTheStation : Prop :=
  ∀ s : State, s.inReset = false → s.bus.successTimer = some 0 → s.bus.isolated = false →
    ∃ t, exec .transmitSuccessTimerExpiry s = .next t ∧ t.bus.isolated = true ∧
      t.bus.successTimer = none ∧
      (t.rcu.run = .isolated ∧ t.rcu.verdict = .none ∧ t.rcu.cause = .none ∧
        t.rcu.isolatedRun = s.rcu.run.active ∧ t.rcu.step = s.rcu.step ∧
        t.rcu.phase = s.rcu.phase ∧ t.rcu.iteration = s.rcu.iteration ∧
        t.rcu.governing = none ∧ t.rcu.duration = none ∧ t.rcu.reach = none ∧ t.rcu.off = none ∧
        t.rcu.on = none ∧ t.rcu.blankingTimer = none ∧ t.rcu.boardOn = false ∧
        t.rcu.blanking = false) ∧
      (t.sou.target0 = 0 ∧ t.sou.level0 = 0 ∧ t.sou.target1 = 0 ∧ t.sou.level1 = 0 ∧
        t.sou.target2 = 0 ∧ t.sou.level2 = 0 ∧ t.sou.pressed = false ∧ t.sou.pressTimer = none) ∧
      (t.bgu.committed = 0 ∧ t.bgu.intent = none ∧ t.bgu.window = none ∧
        t.bgu.waitingSince = none ∧ t.bgu.accumulator = 0 ∧ t.bgu.pendingLower = none ∧
        t.bgu.peers = s.bgu.peers) ∧
      (s.bus.attempt = none → t.bus.budget = some ⟨.commit, 0⟩) ∧
      (s.rcu.run.active = true → s.fcu.log.length + s.fcu.groups.length < 64 →
        t.fcu.groups = [] ∧ t.fcu.recordCount = s.fcu.recordCount + s.fcu.groups.length + 1 ∧
        ∃ r, t.fcu.log.getLast? = some r ∧ r.kind = .busLost ∧ r.points = [] ∧
          r.value = min (elapsed s.tmu.uptime s.bus.lastSuccess : Int) 2147483647 ∧
          r.step = s.rcu.step ∧ r.phase = s.rcu.phase ∧ r.rack = s.tmu.rack ∧
          (s.bus.notices.length + s.fcu.groups.length + 2 ≤ 8 →
            ∃ n, t.bus.notices.getLast? = some ⟨.run n, 0⟩ ∧ n.verdict = .aborted ∧
              n.cause = .busLost ∧ n.recordCount = t.fcu.recordCount)) ∧
      (s.rcu.run.active = false → t.fcu = { s.fcu with mode := .none } ∧
        t.bus.notices = s.bus.notices) ∧
      t.asc = s.asc ∧ t.tmu = s.tmu ∧ t.cfl = s.cfl

/-! ### Time -/

/-- The millisecond boundary, where it is no arrival (R35, R152): OUT0 does not land, or lands in a run
that is not RUNNING, such as CLAIMING or WAITING under the outputs of the step before, in a phase whose
arrival is taken, or off the level that the phase asks for (R10, R36). Uptime and every running timer
move by one, the outputs approach their targets, and in PAUSED the step timers and the power-good
wait stand still (R21, R127). The output-limit timer follows its input and the new level (R43; log
entry 38 where its count ends on the tick on which OUT0 reaches 0 mV), and the debounce counts to 100 ms
(R177). A load reads on, how far is left open, and the model code and the serial are taken where ten
bytes have been read whose first four pass the tests of the header (R178, log entry 31). Nothing else
changes. A ramp moves by the slew each tick, never passes its target,
and stands on it from the first tick at which the distance is covered. -/
def Obligations.TickMovesTimersAndOutputs : Prop :=
  (∀ s : State, s.inReset = false →
    s.sou.level0 = s.sou.target0 ∨
      approach s.sou.level0 s.sou.target0 s.sou.slew ≠ s.sou.target0 ∨
      s.rcu.run ≠ .running ∨ s.rcu.arrivalTaken = true ∨ s.rcu.phase = .none ∨
      s.sou.target0 ≠ s.asks →
    ∃ t, exec .outputTick s = .next t ∧
      t.tmu = { s.tmu with uptime := s.tmu.uptime + 1
                           settleTimer := s.tmu.settleTimer.map (· - 1) } ∧
      t.sou = { s.sou with
        level0 := approach s.sou.level0 s.sou.target0 s.sou.slew
        level1 := approach s.sou.level1 s.sou.target1 s.sou.slew
        pressTimer := s.sou.pressTimer.map (· - 1)
        limit := if t.sou.level0 = 0 ∨ s.sou.limitInput = false then .idle
          else match s.sou.limit with
            | .idle => .counting 0
            | .counting n => .counting (min (n + 1) 10)
            | .expired => .expired } ∧
      (s.rcu.run = .running → t.rcu = { s.rcu with
        duration := s.rcu.duration.map (· - 1), reach := s.rcu.reach.map (· - 1)
        off := s.rcu.off.map (· - 1), on := s.rcu.on.map (· - 1)
        blankingTimer := s.rcu.blankingTimer.map (· - 1) }) ∧
      (s.rcu.run ≠ .running → t.rcu = s.rcu) ∧
      t.bgu = { s.bgu with
        window := s.bgu.window.map (· - 1), listening := s.bgu.listening - 1
        accumulator := if s.bgu.waitingSince = none then s.bgu.accumulator
          else min (s.bgu.accumulator + 1) 600000 } ∧
      (∀ i, t.lines.get i =
        if s.rcu.run = .paused ∧ (s.lines.get i).sup = .powerGood .waiting then s.lines.get i
        else { s.lines.get i with timer := (s.lines.get i).timer.map (· - 1) }) ∧
      t.fcu = { s.fcu with
        groups := s.fcu.groups.map fun g => { g with closeTimer := g.closeTimer - 1 } } ∧
      t.bus = { s.bus with beaconTimer := s.bus.beaconTimer - 1
                           successTimer := s.bus.successTimer.map (· - 1) } ∧
      t.cfl = { s.cfl with
        loadTimer := s.cfl.loadTimer.map (· - 1)
        fixture := match s.cfl.fixture with
          | .absent => .absent
          | .debouncing n => .debouncing (min (n + 1) 100)
          | .present => .present
        modelCode := t.cfl.modelCode, serial := t.cfl.serial, read := t.cfl.read } ∧
      (s.cfl.status ≠ .loading → t.cfl.modelCode = s.cfl.modelCode ∧
        t.cfl.serial = s.cfl.serial ∧ t.cfl.read = s.cfl.read) ∧
      (∀ b, s.cfl.status = .loading → b = s.cfl.memory.take t.cfl.read →
        s.cfl.read ≤ t.cfl.read ∧ t.cfl.read ≤ max s.cfl.read s.cfl.memory.length ∧
        (t.cfl.modelCode, t.cfl.serial) =
          if 10 ≤ b.length ∧ 64 ≤ wordAt b 2 ∧ wordAt b 2 ≤ 2048 ∧ byteAt b 0 = 1 then
            (BitVec.ofNat 16 (wordAt b 4), BitVec.ofNat 32 (longAt b 6))
          else (s.cfl.modelCode, s.cfl.serial)) ∧
      t.asc = s.asc ∧ t.wck = s.wck ∧ t.lanes = s.lanes ∧ t.slot = s.slot ∧ t.code = s.code ∧
      t.inReset = false) ∧
  (∀ (level target slew n : Nat),
    (level ≤ target → (fun x => approach x target slew)^[n] level =
      min target (level + n * slew)) ∧
    (target ≤ level → (fun x => approach x target slew)^[n] level =
      max target (level - n * slew)))

/-- A millisecond boundary at which OUT0 lands on the phase level, in SETTLING or in POWERING, is the
arrival (R10, R36): the blanking timer starts and the pending lower claim is committed (R66). SETTLING
goes on to REACHING or TIMING (R11). In POWERING the on timer starts (R16), and ON follows the power-on
sequence (R15). With a power-on pending the press is commanded first (R41). In PAUSED a landing is no
arrival. -/
def Obligations.LandingIsTheArrival : Prop :=
  ∀ s : State, s.inReset = false → s.sou.level0 ≠ s.sou.target0 →
    approach s.sou.level0 s.sou.target0 s.sou.slew = s.sou.target0 →
    s.rcu.phase = .settling ∨ s.rcu.phase = .powering → s.rcu.arrivalTaken = false →
    s.asks = s.sou.target0 → s.bus.attempt = none →
    ∃ t, exec .outputTick s = .next t ∧ t.sou.level0 = s.sou.target0 ∧
      t.sou.target0 = s.sou.target0 ∧ t.rcu.step = s.rcu.step ∧
      t.rcu.iteration = s.rcu.iteration ∧ t.rcu.run = s.rcu.run ∧
      t.rcu.governing = s.rcu.governing ∧ t.fcu.log = s.fcu.log ∧
      (s.rcu.run = .paused → t.rcu = s.rcu) ∧
      (s.rcu.run = .running → Arrived s.sou.target0 s t)

/-- Rack time (R151, R153): an oscillator period adds 20 ns and changes nothing else, 50,000,000 of
them add one second with the seconds wrapping at 2^32, and a jump by the lead of one time over
another carries the one to the other (R156). A reset takes it to 0 s 0 ns, and between resets it
changes only by this advance and by the forward jump of a BEACON, by its lead over the receive stamp
where that exceeds 2000 ns. The sample is taken from a BEACON of every source (R156), and settles the
clock (R157). The receive stamp (R154) is the rack time that the periods since the frame's first bit
carry to the present one; that no jump falls between the two is the model's reading (log entry 37). -/
def Obligations.RackTimeAdvancesBy20ns : Prop :=
  (∀ s : State, s.inReset = false → exec .rackTimeAdvance s =
    .next { s with tmu := { s.tmu with rack := addNanos s.tmu.rack 20 } }) ∧
  (∀ (t : RackTime) (n : Nat), t.ns < 1000000000 → (addNanos t n).ns < 1000000000 ∧
    RackTime.total (addNanos t n) = (RackTime.total t + n) % (4294967296 * 1000000000)) ∧
  (∀ (t : RackTime) (n : Nat), t.ns < 1000000000 → n = 50000000 →
    (fun x => addNanos x 20)^[n] t = ⟨t.s + 1, t.ns⟩) ∧
  (∀ ts tr : RackTime, ts.ns < 1000000000 → tr.ns < 1000000000 → 0 ≤ leadNanos ts tr →
    addNanos tr (leadNanos ts tr).toNat = ts) ∧
  (∀ (f : RxFrame) (s : State), s.tmu.rack.ns < 1000000000 →
    addNanos (s.receiveStamp f) (20 * f.age) = s.tmu.rack) ∧
  (∀ (f : RxFrame) (lead : Int) (s : State), s.inReset = false → frameIntact 0x01 f = true →
    f.payload.length = 17 →
    lead = leadNanos ⟨BitVec.ofNat 32 (longAt f.payload 0), longAt f.payload 4⟩
      (s.receiveStamp f) →
    ∃ t, exec (.beaconReceived f) s = .next t ∧ t.tmu = { s.tmu with
      rack := if 2000 < lead then addNanos s.tmu.rack lead.toNat else s.tmu.rack
      jumps := if 2000 < lead then min (s.tmu.jumps + 1) 65535 else s.tmu.jumps
      settled := true }) ∧
  (∀ (c : Instr) (s t : State), exec c s = .next t →
    (c = .powerOnReset ∨ c = .rackReset → t.tmu.rack = ⟨0, 0⟩) ∧
    (c ≠ .powerOnReset → c ≠ .rackReset → t.tmu.rack ≠ s.tmu.rack →
      c = .rackTimeAdvance ∨ ∃ (f : RxFrame) (lead : Int), frameOf c = some (0x01, f) ∧
        f.payload.length = 17 ∧
        lead = leadNanos ⟨BitVec.ofNat 32 (longAt f.payload 0), longAt f.payload 4⟩
          (s.receiveStamp f) ∧
        2000 < lead ∧ t.tmu.rack = addNanos s.tmu.rack lead.toNat))

/-- An INTENT is queued once the clock is settled and the listening interval is over (R57, R157):
whichever of the two comes last queues it. The settle timer sets the flag in any case, and its expiry
on a settled station does nothing else than stop it. The beacon timer's expiry queues a BEACON and
starts the next 250 ms (R164); while a BEACON is in attempt the newer one waits for it (R161). Before
the expiry nothing happens. -/
def Obligations.TimersQueueIntentsAndBeacons : Prop :=
  (∀ s : State, s.inReset = false → s.bus.attempt = none →
    (s.tmu.settleTimer = some 0 →
      (∀ w, s.bgu.intent = some ⟨w, .held⟩ → s.bgu.listening = 0 → s.tmu.settled = false →
        exec .settleTimerExpiry s = .next { s with
          tmu := { s.tmu with settleTimer := none, settled := true }
          bgu := { s.bgu with intent := some ⟨w, .queued⟩ }
          bus := { s.bus with budget := some ⟨.intent w true, 0⟩ } }) ∧
      (s.bgu.intent = none ∨ 0 < s.bgu.listening ∨ s.tmu.settled = true →
        exec .settleTimerExpiry s = .next { s with
          tmu := { s.tmu with settleTimer := none, settled := true } })) ∧
    (s.bgu.listening = 0 →
      (∀ w, s.bgu.intent = some ⟨w, .held⟩ → s.tmu.settled = true →
        exec .listeningIntervalEnd s = .next { s with
          bgu := { s.bgu with intent := some ⟨w, .queued⟩ }
          bus := { s.bus with budget := some ⟨.intent w true, 0⟩ } }) ∧
      (s.bgu.intent = none ∨ s.tmu.settled = false →
        exec .listeningIntervalEnd s = .next s))) ∧
  (∀ s : State, s.inReset = false →
    (s.bus.beaconTimer = 0 → (∀ a, s.bus.attempt = some a → a.cls ≠ .beacon) →
      exec .beaconTimerExpiry s = .next { s with bus := { s.bus with
        beacon := some ⟨(), 0⟩, beaconTimer := 250 } }) ∧
    (∀ a, s.bus.beaconTimer = 0 → s.bus.attempt = some a → a.cls = .beacon →
      exec .beaconTimerExpiry s = .next { s with bus := { s.bus with
        beaconNext := true, beaconTimer := 250 } }) ∧
    (0 < s.bus.beaconTimer → exec .beaconTimerExpiry s = .next s))

/-! ### The power-on sequence and the step timers -/

/-- The end of a press (R42): the button is released in any case. While the power-on sequence that
commanded the press is in progress, a LOW power-good line starts its wait (R127). A HIGH one is UP at
once, from its last rise or, with none stamped, from now (R127); with it, or without a line of
that role, the sequence completes: SETTLING goes on to REACHING or TIMING (R11), POWERING to ON (R15)
or, with a held expiry of the on timer, to the end of the iteration (R16): to OFF of the next one, whose
entry commits a pending lower claim (R66), or, in the last, to the end of the step (R19). In PAUSED the
completion is held. When the sequence is in progress is the model's reading (log entry 28), and that
the commit of a lower claim keeps the refusal count is its choice (log entry 39). -/
def Obligations.PressEndGoesOnWithThePowerOn : Prop :=
  ∀ s : State, s.inReset = false → s.sou.pressTimer = some 0 →
    (s.poweringOn = false ∨ s.theStep.pressMs = 0 →
      exec .pressTimerExpiry s = .next { s with
        sou := { s.sou with pressed := false, pressTimer := none } }) ∧
    (s.poweringOn = true → 0 < s.theStep.pressMs →
      (∀ i, s.powerGoodLine = some i → (s.lines.get i).high = false →
        exec .pressTimerExpiry s = .next { s with
          sou := { s.sou with pressed := false, pressTimer := none }
          lines := s.lines.set i { s.lines.get i with
            sup := .powerGood .waiting, timer := some (s.cfg.lines.get i).pgTimeoutMs } }) ∧
      (∀ lines : Quad Line,
        (s.powerGoodLine = none ∧ lines = s.lines) ∨
          (∃ i, s.powerGoodLine = some i ∧ (s.lines.get i).high = true ∧
            lines = s.lines.set i { s.lines.get i with
              sup := .powerGood (.up ((s.lines.get i).riseUptime.getD s.tmu.uptime))
              timer := none }) →
        (s.rcu.run = .running → s.rcu.phase = .settling → s.theStep.reachPresent = false →
          exec .pressTimerExpiry s = .next { s with
            sou := { s.sou with pressed := false, pressTimer := none }, lines := lines
            rcu := { s.rcu with phase := .timing, reach := none
                                duration := some (s.theStep.durationS * 1000) } }) ∧
        (s.rcu.run = .running → s.rcu.phase = .settling → s.theStep.reachPresent = true →
          exec .pressTimerExpiry s = .next { s with
            sou := { s.sou with pressed := false, pressTimer := none }, lines := lines
            rcu := { s.rcu with phase := .reaching
                                reach := some (s.theStep.reachTimeoutS * 1000) }
            wck := { s.wck with reach := some ⟨s.theStep.reachPoint, s.theStep.reachTarget,
              s.theStep.reachBand⟩ } }) ∧
        (s.rcu.run = .running → s.rcu.phase = .powering → s.rcu.heldOn = false →
          exec .pressTimerExpiry s = .next { s with
            sou := { s.sou with pressed := false, pressTimer := none }, lines := lines
            rcu := { s.rcu with phase := .on } }) ∧
        (s.rcu.run = .running → s.rcu.phase = .powering → s.rcu.heldOn = true →
          s.rcu.iteration + 1 < s.theStep.repeats →
          ∃ t, exec .pressTimerExpiry s = .next t ∧ t.rcu.phase = .off ∧
            t.rcu.iteration = s.rcu.iteration + 1 ∧ t.rcu.off = some s.theStep.offMs ∧
            t.rcu.heldOn = false ∧ t.rcu.run = .running ∧ t.sou.target0 = 0 ∧ t.sou.level0 = 0 ∧
            t.sou.pressed = false ∧ t.fcu = s.fcu ∧
            (s.bgu.pendingLower = none → t.bgu = s.bgu ∧ t.bus = s.bus) ∧
            (∀ w, s.bgu.pendingLower = some w → s.bus.attempt = none →
              t.bgu = { s.bgu with committed := w, pendingLower := none, overdrawSamples := 0 } ∧
              t.bus = { s.bus with budget := some ⟨.commit, 0⟩ })) ∧
        (s.rcu.run = .running → s.rcu.phase = .powering → s.rcu.heldOn = true →
          s.theStep.repeats ≤ s.rcu.iteration + 1 →
          ∃ t, exec .pressTimerExpiry s = .next t ∧ t.rcu.heldOn = false ∧
            (s.rcu.step + 1 < s.cfg.steps.length →
              t.rcu.step = s.rcu.step + 1 ∧ t.rcu.iteration = 0 ∧ t.fcu = s.fcu ∧
              (s.bgu.committed < (s.stepAt (s.rcu.step + 1)).claimW →
                t.rcu.run = .claiming ∧ t.sou.pressed = false ∧ t.sou.pressTimer = none) ∧
              ((s.stepAt (s.rcu.step + 1)).claimW ≤ s.bgu.committed → t.rcu.run = .running)) ∧
            (s.cfg.steps.length ≤ s.rcu.step + 1 →
              RunCompleted s.openRecords { s with rcu := { s.rcu with phase := .on } } t)) ∧
        (s.rcu.run = .paused →
          exec .pressTimerExpiry s = .next { s with
            sou := { s.sou with pressed := false, pressTimer := none }, lines := lines
            rcu := { s.rcu with heldPowerOn := true } })))

/-- The ends of a power-good wait (R128, R129). The line's rise makes it UP, and the expiry makes it
UNSEEN with one more episode and, on a checked line, a NO_POWER_GOOD record with the timeout as value.
Either way the power-on sequence completes: SETTLING goes on to TIMING or REACHING (R11), POWERING to ON
(R15) or, with a held expiry of the on timer, to the end of the iteration (R16). In PAUSED a rise is
held for RESUME (R21), and the halted wait does not expire. A wait whose sequence ends first is
abandoned, with no episode and no raise of its own: by a NEXT_STEP action, here of a HANG, that leaves
the board on, the line is UP or UNSEEN by its level, and by a run end, here an ABORT, by entry to
ISOLATED or with the board off it is OFF. That a line abandoned HIGH with no stamped rise is UP from
that moment is the model's reading (log entry 33). -/
def Obligations.PowerGoodWaitEndsBothWays : Prop :=
  (∀ (i : Fin 4) (s : State), s.inReset = false → s.powerGoodLine = some i →
    (s.lines.get i).sup = .powerGood .waiting → (s.lines.get i).high = false →
    s.rcu.powerOnPending = true → s.rcu.arrivalTaken = true →
    (∀ (c : Instr) (lines : Quad Line),
      (c = .watchLineEdge i true ∧ lines = s.lines.set i { s.lines.get i with
          high := true, pulses := (s.lines.get i).pulses + 1, riseRack := some s.tmu.rack
          riseUptime := some s.tmu.uptime, sup := .powerGood (.up s.tmu.uptime)
          timer := none }) ∨
        (c = .powerGoodWaitExpiry ∧ (s.lines.get i).timer = some 0 ∧ s.rcu.run ≠ .paused ∧
          s.checked (12 + i.val) = false ∧ lines = s.lines.set i { s.lines.get i with
            sup := .powerGood .unseen, timer := none
            episodes := min ((s.lines.get i).episodes + 1) 65535 }) →
      (s.rcu.run = .running → s.rcu.phase = .settling → s.theStep.reachPresent = false →
        exec c s = .next { s with
          lines := lines
          rcu := { s.rcu with phase := .timing, reach := none
                              duration := some (s.theStep.durationS * 1000) } }) ∧
      (s.rcu.run = .running → s.rcu.phase = .settling → s.theStep.reachPresent = true →
        exec c s = .next { s with
          lines := lines
          rcu := { s.rcu with phase := .reaching, reach := some (s.theStep.reachTimeoutS * 1000) }
          wck := { s.wck with reach := some ⟨s.theStep.reachPoint, s.theStep.reachTarget,
            s.theStep.reachBand⟩ } }) ∧
      (s.rcu.run = .running → s.rcu.phase = .powering → s.rcu.heldOn = false →
        exec c s = .next { s with lines := lines, rcu := { s.rcu with phase := .on } }) ∧
      (s.rcu.run = .running → s.rcu.phase = .powering → s.rcu.heldOn = true →
        s.rcu.iteration + 1 < s.theStep.repeats →
        ∃ t, exec c s = .next t ∧ t.rcu.phase = .off ∧ t.rcu.heldOn = false ∧
          t.rcu.iteration = s.rcu.iteration + 1 ∧ t.rcu.off = some s.theStep.offMs ∧
          t.rcu.run = .running ∧ t.sou.target0 = 0 ∧ t.sou.level0 = 0 ∧ t.fcu = s.fcu ∧
          (t.lines.get i).sup = .powerGood .off ∧
          (t.lines.get i).episodes = (lines.get i).episodes) ∧
      (s.rcu.run = .running → s.rcu.phase = .powering → s.rcu.heldOn = true →
        s.theStep.repeats ≤ s.rcu.iteration + 1 → s.rcu.step + 1 < s.cfg.steps.length →
        ∃ t, exec c s = .next t ∧ t.rcu.step = s.rcu.step + 1 ∧ t.rcu.iteration = 0 ∧
          t.rcu.heldOn = false ∧ t.fcu = s.fcu) ∧
      (s.rcu.run = .running → s.rcu.phase = .powering → s.rcu.heldOn = true →
        s.theStep.repeats ≤ s.rcu.iteration + 1 → s.cfg.steps.length ≤ s.rcu.step + 1 →
        ∃ t, exec c s = .next t ∧
          RunCompleted s.openRecords { s with rcu := { s.rcu with phase := .on } } t) ∧
      (s.rcu.run = .paused → s.rcu.phase = .settling ∨ s.rcu.phase = .powering →
        exec c s = .next { s with lines := lines, rcu := { s.rcu with heldPowerOn := true } })) ∧
    (s.rcu.run = .paused → exec .powerGoodWaitExpiry s = .next s) ∧
    ((s.lines.get i).timer = some 0 → s.checked (12 + i.val) = true → s.RecordsAtOnce →
      s.rcu.run = .running →
      s.rcu.phase = .settling ∨ s.rcu.phase = .powering ∧ s.rcu.heldOn = false →
      ∃ t r, exec .powerGoodWaitExpiry s = .next t ∧
        Recorded .noPowerGood [12 + i.val] (s.cfg.lines.get i).pgTimeoutMs s t r ∧
        (s.rcu.phase = .settling → s.theStep.reachPresent = false →
          t.rcu = { s.rcu with phase := .timing, reach := none
                               duration := some (s.theStep.durationS * 1000) } ∧
          t.wck = s.wck) ∧
        (s.rcu.phase = .settling → s.theStep.reachPresent = true →
          t.rcu = { s.rcu with phase := .reaching
                               reach := some (s.theStep.reachTimeoutS * 1000) } ∧
          t.wck = { s.wck with reach := some ⟨s.theStep.reachPoint, s.theStep.reachTarget,
            s.theStep.reachBand⟩ }) ∧
        (s.rcu.phase = .powering → t.rcu = { s.rcu with phase := .on } ∧ t.wck = s.wck) ∧
        t.lines = s.lines.set i { s.lines.get i with
          sup := .powerGood .unseen, timer := none
          episodes := min ((s.lines.get i).episodes + 1) 65535 } ∧
        t.sou = s.sou ∧ t.bgu = s.bgu ∧ t.asc = s.asc ∧ t.tmu = s.tmu)) ∧
  (∀ (i j : Fin 4) (s : State), s.inReset = false → (s.lines.get i).sup = .powerGood .waiting →
    (s.lines.get j).sup = .heartbeat .armed → (s.lines.get j).timer = some 0 →
    s.checked (12 + j.val) = true → s.rcu.run.active = true → s.policyStep.policy = .nextStep →
    s.cfg.coalesceMs = 0 → s.fcu.recordCount + 1 ≠ s.cfg.maxFaults →
    s.rcu.step + 1 < s.cfg.steps.length →
    s.bgu.committed < (s.stepAt (s.rcu.step + 1)).claimW →
    ∃ t, exec (.heartbeatIntervalExpiry j) s = .next t ∧ t.rcu.run = .claiming ∧
      t.lines.get i = { s.lines.get i with
        timer := none
        sup := if s.sou.target0 = 0 then .powerGood .off
          else if (s.lines.get i).high = true then
            .powerGood (.up ((s.lines.get i).riseUptime.getD s.tmu.uptime))
          else .powerGood .unseen } ∧
      t.fcu.recordCount = s.fcu.recordCount + 1) ∧
  (∀ (i : Fin 4) (f : RxFrame) (c : Instr) (s : State), s.inReset = false →
    (s.lines.get i).sup = .powerGood .waiting → s.rcu.run.active = true →
    (c = .abort f ∧ s.takesControl 0x23 f = true) ∨
      (c = .transmitSuccessTimerExpiry ∧ s.bus.successTimer = some 0 ∧ s.bus.isolated = false) →
    ∃ t, exec c s = .next t ∧ t.rcu.run.active = false ∧
      t.lines.get i = { s.lines.get i with sup := .powerGood .off, timer := none })

/-- The duration timer ends the step (R13, R19). A step's set-point of OUT0 is main_mv, or for MARGIN the
floor of the main nominal with its margin, and the main maximum where that is exceeded, which sets
CLAMPED (R4). In the last step the run completes: the open groups are written in opening order (R145),
and the verdict is PASS where the run has no record and FAIL otherwise, with cause COMPLETED, or
FAULT_LIMIT where the closing reaches max_faults (R147). Otherwise the next step is entered (R7).
Where it claims more than is committed, the run is CLAIMING under the outputs and the governing step
of the step before. A step that claims no more starts at once (R9, and log entry 13 for a CYCLE step):
a HOLD or MARGIN step with power-on pending where OUT0 stands at 0 mV under a set-point above it, and
with its arrival where OUT0 stands on the set-point already or no slew is set (R10). A lower claim
stands pending until the arrival, which commits it (R66). -/
def Obligations.DurationEndsTheStep : Prop :=
  (∀ (c : LoadedConfig) (x : StepRec),
    (x.kind ≠ .margin → rawSetPoint c x = x.mainMv) ∧
    (x.kind = .margin → 10000 * rawSetPoint c x ≤ c.mainNominal * (10000 + x.marginBp) ∧
      c.mainNominal * (10000 + x.marginBp) < 10000 * (rawSetPoint c x + 1)) ∧
    (0 ≤ rawSetPoint c x → rawSetPoint c x ≤ c.mainMaxMv → setPoint c x = rawSetPoint c x) ∧
    ((c.mainMaxMv : Int) < rawSetPoint c x → setPoint c x = c.mainMaxMv)) ∧
  (∀ s : State, s.inReset = false → s.rcu.run = .running → s.rcu.duration = some 0 →
    s.cfg.steps.length ≤ s.rcu.step + 1 →
    ∃ t, exec .durationTimerExpiry s = .next t ∧ RunCompleted s.openRecords s t ∧
      t.asc = s.asc) ∧
  (∀ (next : StepRec) (s : State), s.inReset = false → s.rcu.run = .running →
    s.rcu.duration = some 0 → s.rcu.step + 1 < s.cfg.steps.length →
    next = s.stepAt (s.rcu.step + 1) →
    (s.bgu.committed < next.claimW → s.bgu.intent = none → s.tmu.settled = true →
      s.bgu.listening = 0 → s.bus.attempt = none →
      ∃ t, exec .durationTimerExpiry s = .next t ∧
        (t.rcu.run = .claiming ∧ t.rcu.step = s.rcu.step + 1 ∧ t.rcu.phase = .none ∧
          t.rcu.iteration = 0 ∧ t.rcu.duration = none ∧ t.rcu.governing = s.rcu.governing ∧
          t.rcu.blanking = s.rcu.blanking ∧
          t.rcu.clamped = (s.rcu.clamped ||
            decide ((s.cfg.mainMaxMv : Int) < rawSetPoint s.cfg next))) ∧
        t.bgu = { s.bgu with intent := some ⟨next.claimW, .queued⟩, pendingLower := none
                             waitingSince := none, accumulator := 0 } ∧
        t.bus = { s.bus with budget := some ⟨.intent next.claimW true, 0⟩ } ∧
        t.sou = s.sou ∧ t.fcu = s.fcu ∧ t.asc = s.asc) ∧
    (∀ e : State, next.claimW ≤ s.bgu.committed →
      e = s.entering (s.rcu.step + 1) →
      ∃ t, exec .durationTimerExpiry s = .next t ∧ e.stepStarted t ∧ t.rcu.iteration = 0 ∧
        t.rcu.clamped = (s.rcu.clamped ||
          decide ((s.cfg.mainMaxMv : Int) < rawSetPoint s.cfg next)) ∧
        (next.kind ≠ .cycle ∧ ¬e.landsAtStart →
          t.bgu.committed = s.bgu.committed ∧ t.bus = s.bus ∧
          t.bgu.pendingLower =
            if next.claimW < s.bgu.committed then some next.claimW else none) ∧
        (next.kind = .cycle ∨ e.landsAtStart →
          t.bgu.committed = next.claimW ∧ t.bgu.pendingLower = none ∧
          (s.bus.attempt = none → t.bus = if next.claimW < s.bgu.committed then
            { s.bus with budget := some ⟨.commit, 0⟩ } else s.bus)) ∧
        t.fcu = s.fcu ∧ t.asc = s.asc ∧ t.tmu = s.tmu ∧ t.cfl = s.cfl))

/-- The reach timer's expiry (R12, R103): the request closes and NOT_REACHED is raised with the
filtered value of the reach point. Under CONTINUE it is recorded and TIMING is entered; under STOP
the run ends FAIL with cause NOT_REACHED (R27). Under NEXT_STEP (R26) the step ends: the next one is
entered, CLAIMING where it claims more than is committed and RUNNING otherwise, and the record written
with the circumstances of the raise; after the last one the run completes FAIL, with the raise and the open
groups written (R144), and with cause FAULT_LIMIT where they reach max_faults (R147). It does so from every
state of an active run, as a HANG (R125, log entry 32 for its value) shows: a pause is cancelled, WAITING
is left, and the open intent of an abandoned claim is withdrawn by its stage (R64), a queued one and one
in its window by a COMMIT that the INTENT of the next asking replaces. That NEXT_STEP in WAITING leaves
the wait is the model's reading (log entry 27), and that the refusal count stands, also where the start
of a CYCLE step commits a lower claim, is its choice (log entry 39). -/
def Obligations.ReachTimeoutRaisesNotReached : Prop :=
  (∀ (p : Fin 8) (s : State), s.inReset = false → s.rcu.run = .running → s.rcu.phase = .reaching →
    s.rcu.reach = some 0 → s.theStep.reachPoint = p.val →
    (s.RecordsAtOnce → ∃ t r, exec .reachTimerExpiry s = .next t ∧
      Recorded .notReached [p.val] (s.asc.points.get p).y s t r ∧
      t.rcu = { s.rcu with phase := .timing, reach := none
                           duration := some (s.theStep.durationS * 1000) } ∧
      t.wck = { s.wck with reach := none } ∧ t.sou = s.sou ∧ t.bgu = s.bgu ∧ t.asc = s.asc ∧
      t.lanes = s.lanes ∧ t.lines = s.lines ∧ t.tmu = s.tmu) ∧
    (s.policyStep.policy = .stop → ∃ t r, exec .reachTimerExpiry s = .next t ∧
      RunEnded .fail .notReached s t ∧ Raised .notReached [p.val] (s.asc.points.get p).y s r ∧
      Wrote (s.closingRecords r) s t) ∧
    (s.policyStep.policy = .nextStep → s.cfg.steps.length ≤ s.rcu.step + 1 →
      ∃ t r, exec .reachTimerExpiry s = .next t ∧
        Raised .notReached [p.val] (s.asc.points.get p).y s r ∧
        RunCompleted (s.closingRecords r) s t) ∧
    (s.policyStep.policy = .nextStep → s.cfg.coalesceMs = 0 → s.fcu.log.length < 64 →
      s.fcu.recordCount + 1 ≠ s.cfg.maxFaults →
      (s.rcu.step + 1 < s.cfg.steps.length → ∃ t r, exec .reachTimerExpiry s = .next t ∧
        Recorded .notReached [p.val] (s.asc.points.get p).y s t r ∧
        t.rcu.step = s.rcu.step + 1 ∧ t.rcu.iteration = 0 ∧
        (s.bgu.committed < (s.stepAt (s.rcu.step + 1)).claimW →
          t.rcu.run = .claiming ∧ t.rcu.governing = s.rcu.governing) ∧
        ((s.stepAt (s.rcu.step + 1)).claimW ≤ s.bgu.committed →
          t.rcu.run = .running ∧ t.rcu.governing = some (s.rcu.step + 1)) ∧
        t.asc = s.asc ∧ t.tmu = s.tmu))) ∧
  (∀ (i : Fin 4) (next : StepRec) (s : State), s.inReset = false → s.rcu.run.active = true →
    s.checked (12 + i.val) = true → s.policyStep.policy = .nextStep →
    (s.lines.get i).sup = .heartbeat .armed → (s.lines.get i).timer = some 0 →
    next = s.stepAt (s.rcu.step + 1) →
    (s.cfg.steps.length ≤ s.rcu.step + 1 → ∃ t r, exec (.heartbeatIntervalExpiry i) s = .next t ∧
      Raised .hang [12 + i.val] (s.cfg.lines.get i).hbMaxMs s r ∧
      RunCompleted (s.closingRecords r) s t) ∧
    (s.cfg.coalesceMs = 0 → s.fcu.log.length < 64 → s.fcu.recordCount + 1 ≠ s.cfg.maxFaults →
      s.rcu.step + 1 < s.cfg.steps.length → ∃ t r, exec (.heartbeatIntervalExpiry i) s = .next t ∧
      Recorded .hang [12 + i.val] (s.cfg.lines.get i).hbMaxMs s t r ∧
      (t.rcu.step = s.rcu.step + 1 ∧ t.rcu.iteration = 0 ∧ t.rcu.on = none ∧
        t.rcu.heldPowerOn = false ∧ t.rcu.heldReach = false ∧ t.rcu.heldOn = false) ∧
      (t.bgu.waitingSince = none ∧ t.bgu.accumulator = 0 ∧ t.bgu.refusals = s.bgu.refusals ∧
        t.bgu.peers = s.bgu.peers) ∧
      (∀ w time, s.bgu.intent = some ⟨w, .window time⟩ → t.bgu.window = none) ∧
      (s.bgu.committed < next.claimW →
        t.rcu.run = .claiming ∧ t.rcu.phase = .none ∧ t.rcu.governing = s.rcu.governing ∧
        t.rcu.duration = none ∧ t.rcu.reach = none ∧ t.rcu.off = none ∧
        t.rcu.blankingTimer = none ∧ t.wck.reach = none ∧
        t.sou = s.sou ∧ t.bgu.committed = s.bgu.committed ∧
        (s.tmu.settled = true → s.bgu.listening = 0 → s.bus.attempt = none →
          t.bgu.intent = some ⟨next.claimW, .queued⟩ ∧
          t.bus.budget = some ⟨.intent next.claimW true, 0⟩)) ∧
      (next.claimW ≤ s.bgu.committed →
        t.rcu.run = .running ∧ t.rcu.governing = some (s.rcu.step + 1) ∧ t.bgu.intent = none ∧
        (∀ w, s.bgu.intent = some ⟨w, .held⟩ ∨ s.bgu.intent = none →
          next.claimW = s.bgu.committed → t.bus.budget = s.bus.budget) ∧
        (∀ w time, s.bgu.intent = some ⟨w, .queued⟩ ∨ s.bgu.intent = some ⟨w, .window time⟩ →
          s.bus.attempt = none → t.bus.budget = some ⟨.commit, 0⟩)) ∧
      t.asc = s.asc ∧ t.tmu = s.tmu ∧ t.cfl = s.cfl))

/-- The off and on timers of a CYCLE step (R14 to R16): OFF gives way to POWERING, a power-on with
blanking; ON gives way to OFF of the next iteration, with OUT0 at 0 and the lanes OFF, and with a
pending lower claim committed by the arrival of OFF (R66); in the last iteration it ends the step (R19)
as the duration timer of a HOLD step does: the next step is entered, or the run completes. In POWERING
the on timer's expiry is held. Without a slew, or with a set-point of 0 mV, the arrival of POWERING
falls on its start (R10, R15), where the on timer and the power-on's press begin. That the commit of a
lower claim keeps the refusal count is the model's choice (log entry 39). -/
def Obligations.CycleTimersSwitchTheBoard : Prop :=
  ∀ s : State, s.inReset = false → s.rcu.run = .running →
    (s.rcu.phase = .off → s.rcu.off = some 0 → s.sou.level0 = 0 → 0 < s.theStep.slew →
      0 < setPoint s.cfg s.theStep → setPoint s.cfg s.theStep ≤ 13200 →
      ∃ t, exec .offTimerExpiry s = .next t ∧
        (t.rcu.phase = .powering ∧ t.rcu.off = none ∧ t.rcu.arrivalTaken = false ∧
          t.rcu.powerOnPending = true ∧ t.rcu.blanking = true ∧ t.rcu.boardOn = true ∧
          t.rcu.run = .running ∧ t.rcu.step = s.rcu.step ∧ t.rcu.iteration = s.rcu.iteration) ∧
        (t.sou.target0 = setPoint s.cfg s.theStep ∧ t.sou.level0 = 0 ∧
          t.sou.slew = s.theStep.slew ∧ t.sou.target1 = s.sou.target1 ∧
          t.sou.level1 = s.sou.level1 ∧ t.sou.target2 = s.sou.target2 ∧
          t.sou.level2 = s.sou.level2) ∧
        (∀ i, (t.wck.points.get i).out = false) ∧ t.bgu = s.bgu ∧ t.fcu = s.fcu ∧
        t.bus = s.bus ∧ t.asc = s.asc ∧ t.tmu = s.tmu) ∧
    (s.rcu.phase = .off → s.rcu.off = some 0 → s.sou.level0 = 0 →
      s.theStep.slew = 0 ∨ setPoint s.cfg s.theStep = 0 → setPoint s.cfg s.theStep ≤ 13200 →
      s.bgu.pendingLower = none →
      ∃ t, exec .offTimerExpiry s = .next t ∧ t.rcu.off = none ∧ t.rcu.arrivalTaken = true ∧
        t.rcu.powerOnPending = decide (0 < setPoint s.cfg s.theStep) ∧
        t.rcu.boardOn = decide (0 < setPoint s.cfg s.theStep) ∧
        t.rcu.on = some s.theStep.onMs ∧
        (0 < s.theStep.blankingMs →
          t.rcu.blanking = true ∧ t.rcu.blankingTimer = some s.theStep.blankingMs) ∧
        (s.theStep.blankingMs = 0 → t.rcu.blanking = false ∧ t.rcu.blankingTimer = none) ∧
        t.sou.target0 = setPoint s.cfg s.theStep ∧ t.sou.level0 = setPoint s.cfg s.theStep ∧
        t.sou.level1 = s.sou.level1 ∧ t.sou.level2 = s.sou.level2 ∧
        (0 < setPoint s.cfg s.theStep → 0 < s.theStep.pressMs → t.rcu.phase = .powering ∧
          t.sou.pressed = true ∧ t.sou.pressTimer = some s.theStep.pressMs) ∧
        (setPoint s.cfg s.theStep = 0 ∨ s.theStep.pressMs = 0 ∧ s.powerGoodLine = none →
          t.rcu.phase = .on) ∧
        t.bgu = s.bgu ∧ t.fcu = s.fcu ∧ t.bus = s.bus ∧ t.asc = s.asc ∧ t.tmu = s.tmu) ∧
    (s.rcu.phase = .on → s.rcu.on = some 0 → s.rcu.iteration + 1 < s.theStep.repeats →
      ∃ t, exec .onTimerExpiry s = .next t ∧
        (t.rcu.phase = .off ∧ t.rcu.iteration = s.rcu.iteration + 1 ∧ t.rcu.on = none ∧
          t.rcu.off = some s.theStep.offMs ∧ t.rcu.boardOn = false ∧ t.rcu.run = .running ∧
          t.rcu.step = s.rcu.step) ∧
        (t.sou.target0 = 0 ∧ t.sou.level0 = 0 ∧ t.sou.pressed = false ∧
          t.sou.pressTimer = none ∧ t.sou.level1 = s.sou.level1 ∧
          t.sou.level2 = s.sou.level2) ∧
        (∀ i, (t.lanes.get i).lock = .off) ∧
        (s.bgu.pendingLower = none → t.bgu = s.bgu ∧ t.bus = s.bus) ∧
        (∀ w, s.bgu.pendingLower = some w → s.bus.attempt = none →
          t.bgu = { s.bgu with committed := w, pendingLower := none, overdrawSamples := 0 } ∧
          t.bus = { s.bus with budget := some ⟨.commit, 0⟩ }) ∧
        t.fcu = s.fcu ∧ t.asc = s.asc ∧ t.tmu = s.tmu) ∧
    (s.rcu.phase = .on → s.rcu.on = some 0 → s.theStep.repeats ≤ s.rcu.iteration + 1 →
      exec .onTimerExpiry s =
        exec .durationTimerExpiry { s with rcu := { s.rcu with duration := some 0 } } ∧
      (s.rcu.step + 1 < s.cfg.steps.length →
        ∃ t, exec .onTimerExpiry s = .next t ∧ t.rcu.step = s.rcu.step + 1 ∧
          t.rcu.iteration = 0 ∧ t.rcu.on = none ∧ t.fcu = s.fcu ∧
          (s.bgu.committed < (s.stepAt (s.rcu.step + 1)).claimW →
            t.rcu.run = .claiming ∧ t.sou = s.sou) ∧
          ((s.stepAt (s.rcu.step + 1)).claimW ≤ s.bgu.committed → t.rcu.run = .running ∧
            t.rcu.governing = some (s.rcu.step + 1))) ∧
      (s.cfg.steps.length ≤ s.rcu.step + 1 →
        ∃ t, exec .onTimerExpiry s = .next t ∧ RunCompleted s.openRecords s t)) ∧
    (s.rcu.phase = .powering → s.rcu.on = some 0 → exec .onTimerExpiry s =
      .next { s with rcu := { s.rcu with on := none, heldOn := true } })

/-- The end of blanking (R18, R124 to R126): the flag clears, and on a board that is on the HEARTBEAT
and RATE lines are armed with their timers. Nothing is judged before its next sample or window. -/
def Obligations.BlankingEndArmsTheSupervision : Prop :=
  ∀ s : State, s.inReset = false → s.rcu.run = .running → s.rcu.blankingTimer = some 0 →
    0 < s.sou.target0 → s.rcu.phase ≠ .off →
    ∃ t, exec .blankingTimerExpiry s = .next t ∧
      t.rcu = { s.rcu with blanking := false, blankingTimer := none, boardOn := true } ∧
      (∀ i, (s.lines.get i).sup = .heartbeat .disarmed →
        t.lines.get i = { s.lines.get i with
          sup := .heartbeat .armed, timer := some (s.cfg.lines.get i).hbMaxMs }) ∧
      (∀ i o, (s.lines.get i).sup = .rate false o →
        t.lines.get i = { s.lines.get i with
          sup := .rate true o, windowCount := 0, timer := some 1000 }) ∧
      t.sou = s.sou ∧ t.bgu = s.bgu ∧ t.asc = s.asc ∧ t.wck = s.wck ∧ t.fcu = s.fcu ∧
      t.tmu = s.tmu ∧ t.bus = s.bus ∧ t.cfl = s.cfl

/-! ### Supply inputs, forced ends and the start switch -/

/-- The output-limit input (R43) and the supply sense outside a run (R45): the count starts where
OUT0 is above 0 mV and ends with the input, and a loss of supply takes OUT1 and OUT2 to 0 in ENDED
and raises nothing outside an active run. -/
def Obligations.SupplyInputsTakeTheirReadings : Prop :=
  ∀ s : State,
    (s.sou.limit = .idle → 0 < s.sou.level0 →
      exec (.outputLimitInputChange true) s =
        .next { s with sou := { s.sou with limitInput := true, limit := .counting 0 } }) ∧
    (s.sou.level0 = 0 →
      exec (.outputLimitInputChange true) s =
        .next { s with sou := { s.sou with limitInput := true, limit := .idle } }) ∧
    exec (.outputLimitInputChange false) s =
      .next { s with sou := { s.sou with limitInput := false, limit := .idle } } ∧
    exec (.supplySenseChange true) s =
      .next { s with sou := { s.sou with sensePresent := true } } ∧
    (s.inReset = false → s.rcu.run = .ended → s.sou.sensePresent = true →
      exec (.supplySenseChange false) s = .next { s with sou := { s.sou with
        sensePresent := false, target1 := 0, level1 := 0, target2 := 0, level2 := 0 } }) ∧
    (s.rcu.run = .idle ∨ s.rcu.run = .isolated →
      exec (.supplySenseChange false) s =
        .next { s with sou := { s.sou with sensePresent := false } })

/-- The three forced raises of the block's own timers and lines end an active run: OUTPUT_LIMIT after
10 ms (R43, R44, R27), SUPPLY_LOST at a change to ABSENT (R45; an accepted START that finds it ABSENT
stands in StartClearsTheHistoryAndClaims), and BUDGET_TIMEOUT after 600000 ms of WAITING (R63). The
open groups and the raise's own record are written first (R144). -/
def Obligations.ForcedRaisesEndTheRun : Prop :=
  ∀ s : State, s.inReset = false → s.rcu.run.active = true →
    (s.sou.limit = .counting 10 → ∃ t, exec .outputLimitTimerExpiry s = .next t ∧
      RunEnded .fail .outputLimit s t ∧ t.asc = s.asc ∧ t.cfl = s.cfl ∧
      t.fcu.recordCount = s.fcu.recordCount + s.fcu.groups.length + 1 ∧
      (s.fcu.log.length + s.fcu.groups.length < 64 → ∃ r, t.fcu.log.getLast? = some r ∧
        r.kind = .outputLimit ∧ r.points = [] ∧
        r.value = min (s.sou.level0 : Int) 2147483647)) ∧
    (s.sou.sensePresent = true → ∃ t, exec (.supplySenseChange false) s = .next t ∧
      RunEnded .aborted .supplyLost s t ∧ t.asc = s.asc ∧ t.cfl = s.cfl ∧
      t.sou.sensePresent = false ∧ t.sou.target1 = 0 ∧ t.sou.level1 = 0 ∧ t.sou.target2 = 0 ∧
      t.sou.level2 = 0 ∧
      t.fcu.recordCount = s.fcu.recordCount + s.fcu.groups.length + 1 ∧
      (s.fcu.log.length + s.fcu.groups.length < 64 → ∃ r, t.fcu.log.getLast? = some r ∧
        r.kind = .supplyLost ∧ r.points = [] ∧
        r.value = min (s.sou.level0 : Int) 2147483647)) ∧
    (s.bgu.waitingSince ≠ none → 600000 ≤ s.bgu.accumulator →
      ∃ t, exec .waitingLimitReached s = .next t ∧
      RunEnded .aborted .budgetTimeout s t ∧ t.asc = s.asc ∧ t.cfl = s.cfl ∧
      t.fcu.recordCount = s.fcu.recordCount + s.fcu.groups.length + 1 ∧
      (s.fcu.log.length + s.fcu.groups.length < 64 → ∃ r, t.fcu.log.getLast? = some r ∧
        r.kind = .budgetTimeout ∧ r.points = [] ∧
        r.value = min (s.bgu.refusals : Int) 2147483647))

/-- The start switch (R25): a closing keeps its uptime, a release after fewer than 3000 ms acts in
IDLE as START and one of 3000 ms or more in ENDED as CLEAR, every other release is ignored, and none
is answered. What it does is what an unanswered broadcast START or CLEAR would do, and so nothing
where START would be refused, and a run that ends in SUPPLY_LOST at once where the supply sense is
ABSENT (R45). A switch closed at a reset counts as closed at uptime 0. -/
def Obligations.StartSwitchActsAtItsRelease : Prop :=
  (∀ (c : Instr) (s t : State), c = .powerOnReset ∨ c = .rackReset → exec c s = .next t →
    t.rcu.switchClosed = s.rcu.switchClosed.map fun _ => 0) ∧
  (∀ (u : Uptime) (f : RxFrame) (s : State), s.rcu.switchClosed = some u →
    (s.takesBroadcast 0x20 f = true → elapsed s.tmu.uptime u < 3000 → s.rcu.run = .idle →
      exec .startSwitchRelease s =
        exec (.start f) { s with rcu := { s.rcu with switchClosed := none } }) ∧
    (s.takesBroadcast 0x24 f = true → 3000 ≤ elapsed s.tmu.uptime u → s.rcu.run = .ended →
      exec .startSwitchRelease s =
        exec (.clear f) { s with rcu := { s.rcu with switchClosed := none } })) ∧
  ∀ s : State, s.inReset = false →
    (s.rcu.switchClosed = none →
      exec .startSwitchClose s =
        .next { s with rcu := { s.rcu with switchClosed := some s.tmu.uptime } }) ∧
    (∀ u, s.rcu.switchClosed = some u →
      (elapsed s.tmu.uptime u < 3000 → s.rcu.run = .idle → s.bgu.slotConflict = false →
        s.cfl.status = .valid → s.tmu.settled = true → s.sou.sensePresent = true →
        s.bgu.listening = 0 → s.bgu.intent = none → s.bus.attempt = none →
        s.bgu.committed < (s.stepAt 0).claimW →
        ∃ t, exec .startSwitchRelease s = .next t ∧ t.rcu.run = .claiming ∧ t.rcu.step = 0 ∧
          t.rcu.switchClosed = none ∧ t.fcu = ⟨[], [], 0, 0, false, .none⟩ ∧
          t.bgu.intent = some ⟨(s.stepAt 0).claimW, .queued⟩ ∧
          t.bus = { s.bus with budget := some ⟨.intent (s.stepAt 0).claimW true, 0⟩ } ∧
          t.sou = s.sou ∧ t.asc = s.asc ∧ t.tmu = s.tmu ∧ t.cfl = s.cfl) ∧
      (elapsed s.tmu.uptime u < 3000 → s.rcu.run = .idle → s.bgu.slotConflict = false →
        s.cfl.status = .valid → s.tmu.settled = true → s.sou.sensePresent = false →
        ∃ t r, exec .startSwitchRelease s = .next t ∧
          RunEnded .aborted .supplyLost
            { s with rcu := { s.rcu with step := 0, iteration := 0, phase := t.rcu.phase } } t ∧
          t.rcu.switchClosed = none ∧ t.fcu.log = [r] ∧ r.kind = .supplyLost ∧
          t.bus.responses = s.bus.responses) ∧
      (3000 ≤ elapsed s.tmu.uptime u → s.rcu.run = .ended →
        ∃ t, exec .startSwitchRelease s = .next t ∧
          t.rcu = { s.rcu with
            run := .idle, verdict := .none, cause := .none, step := 0, iteration := 0
            phase := .none, boardOn := false, switchClosed := none } ∧
          t.sou = { s.sou with target1 := 0, level1 := 0, target2 := 0, level2 := 0 } ∧
          t.bus = s.bus ∧ t.fcu = s.fcu ∧ t.bgu = s.bgu ∧ t.asc = s.asc ∧ t.tmu = s.tmu) ∧
      (elapsed s.tmu.uptime u < 3000 ∧ s.rcu.run ≠ .idle ∨
          3000 ≤ elapsed s.tmu.uptime u ∧ s.rcu.run ≠ .ended →
        exec .startSwitchRelease s = .next { s with rcu := { s.rcu with switchClosed := none } }))

/-! ### Measurement -/

/-- A scan start (R73) in BETWEEN_SCANS puts the position on the lowest enabled point and sets the
next scan start one period later; before its time, and in STOPPED and SCANNING, nothing happens. A
scan in which no point is enabled completes at its start: P is computed (R84), and the power judged
(R67). -/
def Obligations.ScanStartsAtTheLowestPoint : Prop :=
  (∀ (next : Uptime) (s : State), s.inReset = false → s.asc.scanner = .between next →
    (∀ i : Fin 8, elapsed s.tmu.uptime next < 140737488355328 →
      (s.cfg.points.get i).range ≠ .off → (∀ j, j < i → (s.cfg.points.get j).range = .off) →
      exec .scanStart s = .next { s with asc := { s.asc with
        scanner := .scanning (next + BitVec.ofNat 48 (s.cfg.scanInterval * 5)) i } }) ∧
    (elapsed s.tmu.uptime next < 140737488355328 → (∀ i, (s.cfg.points.get i).range = .off) →
      ∃ t, exec .scanStart s = .next t ∧ t.asc = { s.asc with
          scanner := .between (next + BitVec.ofNat 48 (s.cfg.scanInterval * 5))
          power := ((s.asc.points.get 0).y * (s.asc.points.get 1).y / 100000).toNat } ∧
        (s.sou.level0 = 0 →
          t = { s with asc := t.asc, bgu := { s.bgu with overdrawSamples := 0 } })) ∧
    (140737488355328 ≤ elapsed s.tmu.uptime next → exec .scanStart s = .next s)) ∧
  (∀ s : State, s.inReset = false → (s.asc.scanner = .stopped ∨
    ∃ next i, s.asc.scanner = .scanning next i) → exec .scanStart s = .next s)

/-- A conversion of a point that is not judged for its window (R75 to R81, R83): the code and its
flags, the scaled and calibrated sample, the filter, and the next enabled point. A sample of the point
of an open reach request is a reach sample (R100 to R102): inside the band, both bounds included, the
request closes and TIMING is entered, or the report held in PAUSED; outside it the request stays open,
and so it does at a sample of another point. One free value is used up, and a second at a reach sample
(log entries 8 and 7). A code is at most 4095 and rises with the input; a filter of constant input
stands on it, and its value never leaves the range of its samples. -/
def Obligations.ConversionScalesCalibratesAndFilters : Prop :=
  (∀ (uv : Int) (next : Uptime) (i j : Fin 8) (c : Nat) (raw m y : Int) (k : Nat) (v : PointValue)
    (s : State), s.inReset = false → s.asc.scanner = .scanning next i →
    s.judges i = false → i < j → (s.cfg.points.get j).range ≠ .off →
    (∀ n, i < n → n < j → (s.cfg.points.get n).range = .off) →
    c = min 4095 ((4096 * uv + 1250000) / 2500000).toNat →
    raw = (c * (s.cfg.points.get i).range.fullScale + 2048) / 4096 -
      (if (s.cfg.points.get i).range = .temp then 500 else 0) →
    m = (raw * (s.cfg.points.get i).gain + 16384) / 32768 + (s.cfg.points.get i).offset →
    k = (match (s.cfg.points.get i).filter with | .none => 0 | .short => 2 | .medium => 4 | .long => 6) →
    y = (if (s.asc.points.get i).running = true then
        (((s.asc.points.get i).acc + m - (s.asc.points.get i).acc / 2 ^ k) / 2 ^ k) else m) →
    v = { s.asc.points.get i with
      code := c, underRange := decide (c = 0), overRange := decide (c = 4095), m := m, y := y
      running := true
      acc := if (s.asc.points.get i).running = true then
        (s.asc.points.get i).acc + m - (s.asc.points.get i).acc / 2 ^ k else m * 2 ^ k } →
    (s.wck.reach = none → exec (.conversionCompletion uv) s = .next { s with
      asc := { s.asc with points := s.asc.points.set i v, scanner := .scanning next j }
      free := s.free + 1 }) ∧
    (∀ r, s.wck.reach = some r →
      (r.point ≠ i.val → exec (.conversionCompletion uv) s = .next { s with
        asc := { s.asc with points := s.asc.points.set i v, scanner := .scanning next j }
        free := s.free + 1 }) ∧
      (r.point = i.val → y < r.target - r.band ∨ r.target + r.band < y →
        exec (.conversionCompletion uv) s = .next { s with
          asc := { s.asc with points := s.asc.points.set i v, scanner := .scanning next j }
          free := s.free + 2 }) ∧
      (r.point = i.val → r.target - r.band ≤ y → y ≤ r.target + r.band →
        (s.rcu.run = .running → s.rcu.phase = .reaching →
          exec (.conversionCompletion uv) s = .next { s with
            asc := { s.asc with points := s.asc.points.set i v, scanner := .scanning next j }
            wck := { s.wck with reach := none }
            rcu := { s.rcu with phase := .timing, reach := none
                                duration := some (s.theStep.durationS * 1000) }
            free := s.free + 2 }) ∧
        (s.rcu.run = .paused →
          exec (.conversionCompletion uv) s = .next { s with
            asc := { s.asc with points := s.asc.points.set i v, scanner := .scanning next j }
            wck := { s.wck with reach := none }, rcu := { s.rcu with heldReach := true }
            free := s.free + 2 })))) ∧
  ((∀ x y : Int, x ≤ y → codeOf x ≤ codeOf y ∧ codeOf y ≤ 4095) ∧
  (∀ (f : Machine.Filter) (lo hi : Int) (first : Int) (samples : List Int) (v : PointValue),
    v.running = false → lo ≤ first → first ≤ hi → (∀ m ∈ samples, lo ≤ m ∧ m ≤ hi) →
    lo ≤ (samples.foldl (fun w m => w.filter f m) (v.filter f first)).y ∧
      (samples.foldl (fun w m => w.filter f m) (v.filter f first)).y ≤ hi) ∧
  (∀ (f : Machine.Filter) (m : Int) (n : Nat) (v : PointValue), v.running = false →
    ((List.replicate n m).foldl (fun w x => w.filter f x) (v.filter f m)).y = m))

/-- Windows (R92 to R97): the half-width is the tolerance's share of the nominal and the bounds are
inside. Of a run of samples outside the bounds the persistence-th makes the point OUT, with the one
episode and the one raise, and of a run inside them the persistence-th brings it back IN. On a judged
point the excursion sample that completes the run is recorded with its direction and filtered value,
and every other sample moves the runs or brings the point back, and raises nothing. A conversion uses
up one free value (log entry 8). -/
def Obligations.WindowsTurnAtTheirPersistence : Prop :=
  (∀ (p e n : Nat) (c : SampleClass), 0 < p → p ≤ 255 →
    (c ≠ .inside →
      ((fun w => (Window.judge p c w).1)^[n] ⟨false, 0, 0, e⟩ =
        if n < p then ⟨false, n, 0, e⟩ else ⟨true, 0, 0, min (e + 1) 65535⟩) ∧
      (Window.judge p c ((fun w => (Window.judge p c w).1)^[n] ⟨false, 0, 0, e⟩)).2 =
        decide (n + 1 = p)) ∧
    ((fun w => (Window.judge p .inside w).1)^[n] ⟨true, 0, 0, e⟩ =
      if n < p then ⟨true, 0, n, e⟩ else ⟨false, 0, 0, e⟩) ∧
    (∀ r, r < p → (Window.judge p .inside ⟨false, r, 0, e⟩) = (⟨false, 0, 0, e⟩, false)) ∧
    (∀ r, c ≠ .inside → (Window.judge p c ⟨true, 0, r, e⟩) = (⟨true, 0, 0, e⟩, false))) ∧
  ((∀ (nominal tolerance : Nat) (y : Int), tolerance ≤ 5000 →
    (classify nominal tolerance y = .low ↔ y < nominal - nominal * tolerance / 10000) ∧
    (classify nominal tolerance y = .high ↔
      min 32767 ((nominal : Int) + nominal * tolerance / 10000) < y ∧
        (nominal : Int) - nominal * tolerance / 10000 ≤ y)) ∧
  (∀ (uv y : Int) (next : Uptime) (i j : Fin 8) (s : State), s.inReset = false →
    s.asc.scanner = .scanning next i → s.judges i = true → s.wck.reach = none → i < j →
    (s.cfg.points.get j).range ≠ .off →
    (∀ n, i < n → n < j → (s.cfg.points.get n).range = .off) →
    (s.wck.points.get i).out = false →
    (s.cfg.points.get i).persistence ≤ (s.wck.points.get i).excursionRun + 1 →
    y = ((s.asc.points.get i).convert (s.cfg.points.get i) uv).y →
    classify (s.nominal i) (s.tolerance i) y ≠ .inside → s.RecordsAtOnce →
    ∃ t r, exec (.conversionCompletion uv) s = .next t ∧
      Recorded (if y < windowLow (s.nominal i) (s.tolerance i) then .excursionLow
        else .excursionHigh) [i.val] y s t r ∧
      t.wck.points.get i = ⟨true, 0, 0, min ((s.wck.points.get i).episodes + 1) 65535⟩ ∧
      (∀ n, n ≠ i → t.wck.points.get n = s.wck.points.get n) ∧
      t.asc.scanner = .scanning next j ∧ t.rcu = s.rcu ∧ t.sou = s.sou ∧ t.bgu = s.bgu ∧
      t.lanes = s.lanes ∧ t.lines = s.lines ∧ t.tmu = s.tmu) ∧
  (∀ (uv : Int) (next : Uptime) (i j : Fin 8) (v : PointValue) (w after : Window) (c : SampleClass)
    (s : State), s.inReset = false → s.asc.scanner = .scanning next i → s.judges i = true →
    s.wck.reach = none → i < j → (s.cfg.points.get j).range ≠ .off →
    (∀ n, i < n → n < j → (s.cfg.points.get n).range = .off) →
    v = (s.asc.points.get i).convert (s.cfg.points.get i) uv → w = s.wck.points.get i →
    c = classify (s.nominal i) (s.tolerance i) v.y →
    w.out = true ∨ c = .inside ∨ w.excursionRun + 1 < (s.cfg.points.get i).persistence →
    after = (if w.out = true ∧ c = .inside then
        if (s.cfg.points.get i).persistence ≤ w.returnRun + 1 then
          { w with out := false, excursionRun := 0, returnRun := 0 }
        else { w with returnRun := w.returnRun + 1 }
      else if w.out = true then { w with returnRun := 0 }
      else if c = .inside then { w with excursionRun := 0 }
      else { w with excursionRun := w.excursionRun + 1 }) →
    exec (.conversionCompletion uv) s = .next { s with
      asc := { s.asc with points := s.asc.points.set i v, scanner := .scanning next j }
      wck := { s.wck with points := s.wck.points.set i after }
      free := s.free + 1 }))

/-- A scan completion (R67, R68, R84): P comes from the filtered values of points 0 and 1, the
overdraw count moves by the limit of 1.125 times the claim, and the count that completes ends the
run FAIL with cause OVERDRAW. The raise's record holds the points 0 and 1 and that P, and is written with
the open groups (R144). What its context reads of the scan is left open (log entry 8). -/
def Obligations.ScanCompletionJudgesThePower : Prop :=
  ∀ (uv : Int) (next : Uptime) (i : Fin 8) (pts : Oct PointValue) (power : Nat) (s : State),
    s.inReset = false → s.asc.scanner = .scanning next i → s.judges i = false →
    s.wck.reach = none → (∀ n, i < n → (s.cfg.points.get n).range = .off) →
    pts = s.asc.points.set i ((s.asc.points.get i).convert (s.cfg.points.get i) uv) →
    power = ((pts.get 0).y * (pts.get 1).y / 100000).toNat →
    (s.sou.level0 = 0 ∨ 8 * power ≤ 90 * s.bgu.committed →
      exec (.conversionCompletion uv) s = .next { s with
        asc := { s.asc with points := pts, scanner := .between next, power := power }
        bgu := { s.bgu with overdrawSamples := 0 }, free := s.free + 1 }) ∧
    (0 < s.sou.level0 → 90 * s.bgu.committed < 8 * power →
      s.bgu.overdrawSamples + 1 < s.cfg.overdrawCount →
      exec (.conversionCompletion uv) s = .next { s with
        asc := { s.asc with points := pts, scanner := .between next, power := power }
        bgu := { s.bgu with overdrawSamples := s.bgu.overdrawSamples + 1 }
        free := s.free + 1 }) ∧
    (0 < s.sou.level0 → 90 * s.bgu.committed < 8 * power →
      s.cfg.overdrawCount ≤ s.bgu.overdrawSamples + 1 → s.rcu.run.active = true →
      ∃ t r, exec (.conversionCompletion uv) s = .next t ∧ RunEnded .fail .overdraw s t ∧
        Raised .overdraw [0, 1] power s r ∧ Wrote (s.closingRecords r) s t ∧
        t.bgu.overdrawSamples = 0 ∧
        t.bgu.overdrawEpisodes = min (s.bgu.overdrawEpisodes + 1) 65535 ∧
        t.asc = { s.asc with points := pts, scanner := .between next, power := power })

/-! ### Link lanes -/

/-- The code table and the lock of a lane (R105, R106, R109 to R113). The table holds 260 groups: one
for each byte value, the MARKER and three fill groups. A valid group is NEUTRAL, PLUS or MINUS by its
five ones, six ones or six zeros, and a pattern outside the table is UNKNOWN; all of it holds whatever
patterns the table has (log entry 9). The running sign follows the weight of the last group
that is not NEUTRAL, and a weight that repeats the sign violates it. On an arrival a lane in OFF does
nothing, SEARCH counts good groups to 16 and enters CODE_LOCK, and CODE_LOCK enters FRAME_LOCK on a
MARKER 256 groups after the last one. A group without error moves the distance and the frame position,
and a MARKER at frame position 0 starts the run of MARK errors anew. The fourth UNKNOWN group in a row
takes CODE_LOCK and FRAME_LOCK back to SEARCH, at every frame position, and the fourth MARK error in a
row, of a MARKER or of another group, FRAME_LOCK back to CODE_LOCK with its distance kept. Leaving
FRAME_LOCK is a lock loss, which is counted, and recorded as LANE_LOST on a checked lane outside
blanking. Only that lane changes. -/
def Obligations.LanesLockByTheirGroups : Prop :=
  (codeTable.length = 260 ∧ codeTable.Nodup ∧
    (∀ p, p ∈ codeTable ↔ (∃ b, p = dataGroup b) ∨ p = markerGroup ∨ ∃ n, p = fillGroup n) ∧
    (∀ p, groupOf p = .unknown ↔ p ∉ codeTable) ∧
    (∀ p w, groupOf p = .marker w ↔ p = markerGroup ∧ weightOf p = some w) ∧
    (∀ p w, groupOf p = .data w ↔ p ∈ codeTable ∧ p ≠ markerGroup ∧ weightOf p = some w) ∧
    ∀ p, (weightOf p = some .neutral ↔ onesOf p = 5) ∧ (weightOf p = some .plus ↔ onesOf p = 6) ∧
      (weightOf p = some .minus ↔ onesOf p = 4)) ∧
  ((∀ (w : Weight) (x : Sign), signViolation w x = true ↔
      (w = .plus ∧ x = .pos) ∨ (w = .minus ∧ x = .neg)) ∧
    (∀ x : Sign, signAfter .neutral x = x ∧ signAfter .plus x = .pos ∧ signAfter .minus x = .neg) ∧
    (∀ d : Option Nat, nextDistance true d = some 0) ∧ nextDistance false none = none ∧
    (∀ n, nextDistance false (some n) = if n + 1 = 256 then none else some (n + 1))) ∧
  ∀ (i : Fin 4) (p : BitVec 10) (w : Weight) (l : Lane) (s : State), s.inReset = false →
    l = s.lanes.get i →
    (l.lock = .off → exec (.codeGroupArrival i p) s = .next s) ∧
    (l.lock = .search → groupOf p ≠ .unknown → l.searchRun < 15 →
      exec (.codeGroupArrival i p) s = .next { s with
        lanes := s.lanes.set i
          { l with sign := signAfter (groupWeight (groupOf p)) l.sign
                   searchRun := l.searchRun + 1 } }) ∧
    (l.lock = .search → groupOf p = .unknown →
      exec (.codeGroupArrival i p) s = .next { s with
        lanes := s.lanes.set i
          { l with searchRun := 0 } }) ∧
    (l.lock = .search → groupOf p ≠ .unknown → l.searchRun = 15 →
      exec (.codeGroupArrival i p) s = .next { s with
        lanes := s.lanes.set i
          { l with sign := signAfter (groupWeight (groupOf p)) l.sign, searchRun := 16
                   lock := .codeLock, unknownRun := 0, distance := none } }) ∧
    (l.lock = .codeLock → signViolation w l.sign = false →
      (groupOf p = .data w →
        exec (.codeGroupArrival i p) s = .next { s with
          lanes := s.lanes.set i
            { l with sign := signAfter w l.sign, unknownRun := 0
                     distance := nextDistance false l.distance } }) ∧
      (groupOf p = .marker w → l.distance ≠ some 255 →
        exec (.codeGroupArrival i p) s = .next { s with
          lanes := s.lanes.set i
            { l with sign := signAfter w l.sign, unknownRun := 0, distance := some 0 } }) ∧
      (groupOf p = .marker w → l.distance = some 255 →
        exec (.codeGroupArrival i p) s = .next { s with
          lanes := s.lanes.set i
            { l with sign := signAfter w l.sign, lock := .frameLock, unknownRun := 0
                     distance := some 0, framePosition := 0, markErrorRun := 0 } })) ∧
    (l.lock = .codeLock → groupOf p = .unknown → l.unknownRun = 3 →
      s.laneSilent i ∨ s.belowThresholds i (groupOf p) →
      ∃ t, exec (.codeGroupArrival i p) s = .next t ∧ (t.lanes.get i).lock = .search ∧
        (t.lanes.get i).sign = .undetermined ∧ (t.lanes.get i).searchRun = 0 ∧
        (t.lanes.get i).lockLosses = l.lockLosses ∧
        (∀ n, n ≠ i → t.lanes.get n = s.lanes.get n) ∧ t.rcu = s.rcu ∧ t.fcu = s.fcu) ∧
    (l.lock = .frameLock → signViolation w l.sign = false →
      (groupOf p = .data w → l.framePosition < 255 → l.markErrorRun < 4 →
        exec (.codeGroupArrival i p) s = .next { s with
          lanes := s.lanes.set i
            { l with sign := signAfter w l.sign, unknownRun := 0
                     distance := nextDistance false l.distance
                     framePosition := l.framePosition + 1 } }) ∧
      (groupOf p = .marker w → l.framePosition = 255 →
        exec (.codeGroupArrival i p) s = .next { s with
          lanes := s.lanes.set i
            { l with sign := signAfter w l.sign, unknownRun := 0, distance := some 0
                     framePosition := 0, markErrorRun := 0 } })) ∧
    (∀ (dest : Lock) (next : Lane), l.lock = .frameLock →
      (groupOf p = .unknown ∧ l.unknownRun = 3 ∧ dest = .search ∧
          next = { l with
            lock := .search, sign := .undetermined, searchRun := 0, unknownRun := 0
            markErrorRun := 0, framePosition := 0, distance := none }) ∨
        ((groupOf p = .unknown → l.unknownRun < 3) ∧ l.markErrorRun = 3 ∧
          (p = markerGroup ∧ l.framePosition < 255 ∨
            p ≠ markerGroup ∧ l.framePosition = 255) ∧ dest = .codeLock ∧
          next = { l with
            lock := .codeLock, sign := signAfter (groupWeight (groupOf p)) l.sign
            unknownRun := 0, markErrorRun := 4, framePosition := (l.framePosition + 1) % 256
            distance := nextDistance (decide (p = markerGroup)) l.distance }) →
      (s.laneSilent i →
        ∃ t, exec (.codeGroupArrival i p) s = .next t ∧
          t.lanes.get i = { next with
            lockLosses := min (l.lockLosses + 1) 65535, signErrors := (t.lanes.get i).signErrors
            codeErrors := (t.lanes.get i).codeErrors, markErrors := (t.lanes.get i).markErrors } ∧
          (∀ n, n ≠ i → t.lanes.get n = s.lanes.get n) ∧ t.rcu = s.rcu ∧ t.fcu = s.fcu) ∧
      (¬s.laneSilent i → s.RecordsAtOnce → s.belowThresholds i (groupOf p) →
        ∃ t r, exec (.codeGroupArrival i p) s = .next t ∧
          Recorded .laneLost [8 + i.val] (min (l.lockLosses + 1) 65535) s t r ∧
          (t.lanes.get i).lock = dest ∧ (t.lanes.get i).distance = next.distance ∧
          (t.lanes.get i).lockLosses = min (l.lockLosses + 1) 65535 ∧
          (∀ n, n ≠ i → t.lanes.get n = s.lanes.get n) ∧ t.rcu = s.rcu))

/-- A lane's error counters (R114 to R117). SIGN counts a weight that repeats the running sign (R106),
CODE an UNKNOWN group (R107), both in CODE_LOCK and FRAME_LOCK, and MARK, in FRAME_LOCK, a MARKER away
from frame position 0 or another group at it (R112); an UNKNOWN group there counts in two. A HOLD
counter stays at 255 and a ROLL counter goes on to 0; the error that reaches the threshold sets the
terminal flag and returns the counter to 0 where the class clears itself, and it is recorded on a
checked lane outside blanking, and on no other. A lock loss in the same arrival is recorded after it. -/
def Obligations.LaneErrorsCountToTheirThreshold : Prop :=
  (∀ (roll flag : Bool) (n : Nat), n < 256 → ErrorCounter.bump roll ⟨n, flag⟩ =
    if n < 255 then (⟨n + 1, flag⟩, true) else if roll then (⟨0, flag⟩, true)
    else (⟨255, flag⟩, false)) ∧
  (∀ (k : ErrorKind) (g : CodeGroup) (l : Lane), l.errs k g = true ↔
    (l.lock = .codeLock ∨ l.lock = .frameLock) ∧ match k with
      | .sign => ∃ w, (g = .marker w ∨ g = .data w) ∧ signViolation w l.sign = true
      | .code => g = .unknown
      | .mark => l.lock = .frameLock ∧ ((l.framePosition + 1) % 256 = 0 ↔ ∀ w, g ≠ .marker w)) ∧
  (∀ (i : Fin 4) (p : BitVec 10) (s : State), s.inReset = false → s.laneSilent i →
    ∃ t, exec (.codeGroupArrival i p) s = .next t ∧
      (∀ k, ((s.lanes.get i).errs k (groupOf p) = true → ErrorCounter.counts (s.cfg.errorClass k)
          ((s.lanes.get i).counter k) ((t.lanes.get i).counter k)) ∧
        ((s.lanes.get i).errs k (groupOf p) = false →
          (t.lanes.get i).counter k = (s.lanes.get i).counter k)) ∧
      (∀ n, n ≠ i → t.lanes.get n = s.lanes.get n) ∧ t.rcu = s.rcu ∧ t.fcu = s.fcu ∧
      t.bus = s.bus ∧ t.sou = s.sou ∧ t.bgu = s.bgu ∧ t.lines = s.lines) ∧
  (∀ (i : Fin 4) (p : BitVec 10) (k : ErrorKind) (l : Lane) (s : State), s.inReset = false →
    l = s.lanes.get i → l.errs k (groupOf p) = true →
    (∀ m, m ≠ k → l.errs m (groupOf p) = false) → ¬s.laneSilent i → s.RecordsAtOnce →
    (l.counter k).count < 255 → (l.counter k).count + 1 = (s.cfg.errorClass k).threshold →
    (l.unknownRun < 3 →
      (l.lock = .frameLock → l.markErrorRun < 3 ∨ k ≠ .mark ∧ l.markErrorRun = 3) →
      (l.lock = .codeLock → p = markerGroup → l.distance ≠ some 255) →
      ∃ t r, exec (.codeGroupArrival i p) s = .next t ∧
        Recorded .laneErrors [8 + i.val] (s.cfg.errorClass k).threshold s t r ∧
        (t.lanes.get i).counter k = ⟨if (s.cfg.errorClass k).autoClear = true then 0
          else (s.cfg.errorClass k).threshold, true⟩ ∧
        (∀ m, m ≠ k → (t.lanes.get i).counter m = l.counter m) ∧
        (t.lanes.get i).lock = l.lock ∧ (∀ n, n ≠ i → t.lanes.get n = s.lanes.get n) ∧
        t.rcu = s.rcu ∧ t.sou = s.sou ∧ t.bgu = s.bgu ∧ t.lines = s.lines) ∧
    (k = .mark → l.markErrorRun = 3 → s.fcu.log.length < 63 →
      s.fcu.recordCount + 2 ≠ s.cfg.maxFaults →
      ∃ t q r, exec (.codeGroupArrival i p) s = .next t ∧ t.fcu.log = s.fcu.log ++ [q, r] ∧
        q.kind = .laneErrors ∧ q.points = [8 + i.val] ∧
        q.value = min ((s.cfg.errorClass .mark).threshold : Int) 2147483647 ∧
        r.kind = .laneLost ∧ r.points = [8 + i.val] ∧
        r.value = ((min (l.lockLosses + 1) 65535 : Nat) : Int) ∧ (t.lanes.get i).lock = .codeLock)) ∧
  (∀ (i : Fin 4) (p : BitVec 10) (l : Lane) (s : State), s.inReset = false →
    l = s.lanes.get i → groupOf p = .unknown → l.unknownRun < 3 →
    s.belowThresholds i (groupOf p) →
    (l.lock = .codeLock →
      exec (.codeGroupArrival i p) s = .next { s with
        lanes := s.lanes.set i
          { l with unknownRun := l.unknownRun + 1, distance := nextDistance false l.distance
                   codeErrors := ⟨l.codeErrors.count + 1, l.codeErrors.terminal⟩ } }) ∧
    (l.lock = .frameLock → l.framePosition < 255 → l.markErrorRun < 4 →
      exec (.codeGroupArrival i p) s = .next { s with
        lanes := s.lanes.set i
          { l with unknownRun := l.unknownRun + 1, distance := nextDistance false l.distance
                   framePosition := l.framePosition + 1
                   codeErrors := ⟨l.codeErrors.count + 1, l.codeErrors.terminal⟩ } }) ∧
    (l.lock = .frameLock → l.framePosition = 255 → l.markErrorRun < 3 →
      exec (.codeGroupArrival i p) s = .next { s with
        lanes := s.lanes.set i
          { l with unknownRun := l.unknownRun + 1, distance := nextDistance false l.distance
                   framePosition := 0, markErrorRun := l.markErrorRun + 1
                   codeErrors := ⟨l.codeErrors.count + 1, l.codeErrors.terminal⟩
                   markErrors := ⟨l.markErrors.count + 1, l.markErrors.terminal⟩ } })) ∧
  (∀ (i : Fin 4) (p : BitVec 10) (w : Weight) (l : Lane) (s : State), s.inReset = false →
    l = s.lanes.get i →
    (l.lock = .codeLock → groupOf p = .data w → signViolation w l.sign = true →
      l.signErrors.count < 255 → l.signErrors.count + 1 ≠ s.cfg.signClass.threshold →
      exec (.codeGroupArrival i p) s = .next { s with
        lanes := s.lanes.set i
          { l with sign := signAfter w l.sign, unknownRun := 0
                   distance := nextDistance false l.distance
                   signErrors := ⟨l.signErrors.count + 1, l.signErrors.terminal⟩ } }) ∧
    (l.lock = .frameLock → signViolation w l.sign = false → l.markErrorRun < 3 →
      l.markErrors.count < 255 → l.markErrors.count + 1 ≠ s.cfg.markClass.threshold →
      (groupOf p = .marker w → l.framePosition < 255 →
        exec (.codeGroupArrival i p) s = .next { s with
          lanes := s.lanes.set i
            { l with sign := signAfter w l.sign, unknownRun := 0, distance := some 0
                     framePosition := l.framePosition + 1, markErrorRun := l.markErrorRun + 1
                     markErrors := ⟨l.markErrors.count + 1, l.markErrors.terminal⟩ } }) ∧
      (groupOf p = .data w → l.framePosition = 255 →
        exec (.codeGroupArrival i p) s = .next { s with
          lanes := s.lanes.set i
            { l with sign := signAfter w l.sign, unknownRun := 0
                     distance := nextDistance false l.distance, framePosition := 0
                     markErrorRun := l.markErrorRun + 1
                     markErrors := ⟨l.markErrors.count + 1, l.markErrors.terminal⟩ } })))

/-! ### Watch lines -/

/-- An edge of a watch line (R120, R123) is counted and stamped when it rises, in every run state and
whatever the role; a falling edge keeps the count and the stamps, and a level that the line already
has is no edge. -/
def Obligations.LineEdgesAreCountedAndStamped : Prop :=
  ∀ (i : Fin 4) (s : State), s.inReset = false →
    (∀ level, (s.lines.get i).high = level → exec (.watchLineEdge i level) s = .next s) ∧
    ((s.lines.get i).high = false → ∃ t, exec (.watchLineEdge i true) s = .next t ∧
      (t.lines.get i).high = true ∧ (t.lines.get i).pulses = (s.lines.get i).pulses + 1 ∧
      (t.lines.get i).riseRack = some s.tmu.rack ∧
      (t.lines.get i).riseUptime = some s.tmu.uptime ∧
      ∀ n, n ≠ i → (t.lines.get n).pulses = (s.lines.get n).pulses) ∧
    ((s.lines.get i).high = true → ∃ t, exec (.watchLineEdge i false) s = .next t ∧
      (t.lines.get i).high = false ∧ (t.lines.get i).pulses = (s.lines.get i).pulses ∧
      (t.lines.get i).riseRack = (s.lines.get i).riseRack ∧
      (t.lines.get i).riseUptime = (s.lines.get i).riseUptime)

/-- The supervision of the roles (R125, R126, R129, R130): an armed heartbeat's expiry is HUNG with
one episode and its next rise arms it again, as each rise restarts an armed one's interval; a RATE window
is judged by its count, to which each rise of an armed line adds one, and only the first bad one of an
episode counts; a POWER_GOOD line that falls is UNSEEN and UP again at its next rise, and a RESET_WATCH
line that falls under supervision is ASSERTED until its next rise, each fall with one episode. No other
edge does more than R123. On a line that is not checked nothing is
raised and only the line changes; on a checked one the episode is recorded with its kind's value
(log entry 32 for HANG's), or under the step policy STOP ends the run FAIL with cause FAULT_POLICY
(R27), as a HANG does here. -/
def Obligations.RolesSuperviseTheirLines : Prop :=
  (∀ (i : Fin 4) (s : State), s.inReset = false →
    ((s.lines.get i).high = false → (s.lines.get i).sup ≠ .powerGood .waiting →
      exec (.watchLineEdge i true) s = .next { s with
        lines := s.lines.set i
          { s.lines.get i with
          high := true, pulses := (s.lines.get i).pulses + 1, riseRack := some s.tmu.rack
          riseUptime := some s.tmu.uptime
          sup := match (s.lines.get i).sup with
            | .heartbeat .hung => .heartbeat .armed
            | .powerGood .unseen => .powerGood (.up s.tmu.uptime)
            | .resetWatch _ => .resetWatch false
            | other => other
          timer := match (s.lines.get i).sup with
            | .heartbeat .armed => some (s.cfg.lines.get i).hbMaxMs
            | .heartbeat .hung => some (s.cfg.lines.get i).hbMaxMs
            | _ => (s.lines.get i).timer
          windowCount := match (s.lines.get i).sup with
            | .rate true _ => min ((s.lines.get i).windowCount + 1) 65535
            | _ => (s.lines.get i).windowCount } }) ∧
    ((s.lines.get i).high = true → (∀ u, (s.lines.get i).sup ≠ .powerGood (.up u)) →
      (s.lines.get i).sup ≠ .resetWatch false →
      exec (.watchLineEdge i false) s = .next { s with
        lines := s.lines.set i { s.lines.get i with high := false } })) ∧
  (∀ (i : Fin 4) (s : State), s.inReset = false → s.checked (12 + i.val) = false →
    ((s.lines.get i).sup = .heartbeat .armed → (s.lines.get i).timer = some 0 →
      exec (.heartbeatIntervalExpiry i) s = .next { s with
        lines := s.lines.set i
          { s.lines.get i with sup := .heartbeat .hung, timer := none
                               episodes := min ((s.lines.get i).episodes + 1) 65535 } }) ∧
    (∀ o bad, (s.lines.get i).sup = .rate true o → (s.lines.get i).timer = some 0 →
      bad = decide ((s.lines.get i).windowCount < (s.cfg.lines.get i).rateMin ∨
        (s.cfg.lines.get i).rateMax < (s.lines.get i).windowCount) →
      exec (.rateWindowExpiry i) s = .next { s with
        lines := s.lines.set i
          { s.lines.get i with
          sup := .rate true bad, windowCount := 0, timer := some 1000
          episodes := if bad = true ∧ o = false then min ((s.lines.get i).episodes + 1) 65535
            else (s.lines.get i).episodes } }) ∧
    (∀ u, (s.lines.get i).sup = .powerGood (.up u) → (s.lines.get i).high = true →
      exec (.watchLineEdge i false) s = .next { s with
        lines := s.lines.set i
          { s.lines.get i with high := false, sup := .powerGood .unseen
                               episodes := min ((s.lines.get i).episodes + 1) 65535 } }) ∧
    ((s.lines.get i).sup = .resetWatch false → (s.lines.get i).high = true →
      exec (.watchLineEdge i false) s = .next { s with
        lines := s.lines.set i
          (if s.rcu.boardOn = true ∧ s.rcu.blanking = false then
          { s.lines.get i with high := false, sup := .resetWatch true
                               episodes := min ((s.lines.get i).episodes + 1) 65535 }
        else { s.lines.get i with high := false }) })) ∧
  (∀ (i : Fin 4) (s : State), s.inReset = false → s.checked (12 + i.val) = true →
    s.RecordsAtOnce →
    ((s.lines.get i).sup = .heartbeat .armed → (s.lines.get i).timer = some 0 →
      ∃ t r, exec (.heartbeatIntervalExpiry i) s = .next t ∧
        Recorded .hang [12 + i.val] (s.cfg.lines.get i).hbMaxMs s t r ∧
        (t.lines.get i).sup = .heartbeat .hung ∧ t.rcu = s.rcu ∧ t.sou = s.sou) ∧
    ((s.lines.get i).sup = .rate true false → (s.lines.get i).timer = some 0 →
      ((s.lines.get i).windowCount < (s.cfg.lines.get i).rateMin ∨
        (s.cfg.lines.get i).rateMax < (s.lines.get i).windowCount) →
      ∃ t r, exec (.rateWindowExpiry i) s = .next t ∧
        Recorded .fanRate [12 + i.val] (s.lines.get i).windowCount s t r ∧
        (t.lines.get i).sup = .rate true true ∧ t.rcu = s.rcu ∧ t.sou = s.sou) ∧
    (∀ u, (s.lines.get i).sup = .powerGood (.up u) → (s.lines.get i).high = true →
      ∃ t r, exec (.watchLineEdge i false) s = .next t ∧
        Recorded .pgDrop [12 + i.val] (elapsed s.tmu.uptime u) s t r ∧
        (t.lines.get i).sup = .powerGood .unseen ∧ t.rcu = s.rcu ∧ t.sou = s.sou) ∧
    ((s.lines.get i).sup = .resetWatch false → (s.lines.get i).high = true →
      s.rcu.boardOn = true → s.rcu.blanking = false →
      ∃ t r, exec (.watchLineEdge i false) s = .next t ∧
        Recorded .spontaneousReset [12 + i.val] (s.lines.get i).pulses.toNat s t r ∧
        (t.lines.get i).sup = .resetWatch true ∧ t.rcu = s.rcu ∧ t.sou = s.sou)) ∧
  (∀ (i : Fin 4) (s : State), s.inReset = false → s.checked (12 + i.val) = true →
    s.policyStep.policy = .stop → (s.lines.get i).sup = .heartbeat .armed →
    (s.lines.get i).timer = some 0 →
    ∃ t, exec (.heartbeatIntervalExpiry i) s = .next t ∧ RunEnded .fail .faultPolicy s t ∧
      (t.lines.get i).episodes = min ((s.lines.get i).episodes + 1) 65535 ∧
      (s.cfg.coalesceMs = 0 → t.fcu.recordCount = s.fcu.recordCount + 1 + s.fcu.groups.length))

/-! ### The claim window -/

/-- The order of two intents (R58) is by intent time, seconds first, and then by slot: no intent
precedes itself, of two with different times or slots exactly one precedes the other, and the order
carries over. The times ordered are the one that a peer's INTENT carries and the stamp of the own
INTENT's completed attempt. -/
def Obligations.IntentsAreTotallyOrdered : Prop :=
  (∀ (x y : RackTime) (m n : Nat), precedes x m y n = true ↔
    (x.s.toNat < y.s.toNat ∨ (x.s = y.s ∧ (x.ns < y.ns ∨ (x.ns = y.ns ∧ m < n))))) ∧
  (∀ (x y : RackTime) (m n : Nat), (x, m) ≠ (y, n) → precedes x m y n ≠ precedes y n x m) ∧
  (∀ (x y z : RackTime) (l m n : Nat), precedes x l y m = true → precedes y m z n = true →
    precedes x l z n = true) ∧
  (∀ (f : RxFrame) (s : State), s.hears 0x02 f = true → f.source.toNat < 32 →
    f.payload.length = 10 →
    ∃ t i, exec (.intentReceived f) s = .next t ∧ t.heldIntent f.source.toNat = some i ∧
      i.time = ⟨BitVec.ofNat 32 (longAt f.payload 0), longAt f.payload 4⟩) ∧
  (∀ (a : Attempt) (claim r w : Nat) (s : State), s.inReset = false → s.bus.attempt = some a →
    s.bus.isolated = false → a.cls = .budget → s.bus.budget = some ⟨.intent claim true, r⟩ →
    s.bgu.intent = some ⟨w, .queued⟩ →
    ∃ t, exec .transmitComplete s = .next t ∧ t.bgu.intent = some ⟨w, .window a.stamp⟩)

/-- The window's expiry (R59 to R61): the rack sum takes the own claim, of each peer the claim of an
open intent that precedes the own one, and its committed claim otherwise. A sum within the budget is
committed and the step being entered starts, whatever its kind (R8, R9, and log entry 13 for a CYCLE
step): a HOLD or MARGIN step with power-on pending where OUT0 stands at 0 mV under a set-point above
it, and with its arrival where the start lands OUT0 (R10). A larger sum is refused, and the run waits
with its committed claim restated. -/
def Obligations.ClaimWindowDecidesByTheRackSum : Prop :=
  ∀ (w sum : Nat) (time : RackTime) (s : State), s.inReset = false →
    s.bgu.intent = some ⟨w, .window time⟩ → s.bgu.window = some 0 → s.rcu.run = .claiming →
    s.bus.attempt = none →
    sum = w + (s.bgu.peers.map fun p => match p.intent with
      | none => p.committed
      | some i => if precedes i.time p.slot time s.slot.toNat = true then i.claim
        else p.committed).sum →
    (400 + 200 * s.code.toNat < sum →
      exec .claimWindowExpiry s = .next { s with
        bgu := { s.bgu with intent := none, window := none, waitingSince := some s.tmu.uptime
                            refusals := min (s.bgu.refusals + 1) 65535 }
        rcu := { s.rcu with run := .waiting }
        bus := { s.bus with budget := some ⟨.commit, 0⟩ } }) ∧
    (sum ≤ 400 + 200 * s.code.toNat →
      s.theStep.kind ≠ .cycle ∧ ¬s.landsAtStart ∨ s.bgu.pendingLower = none →
      ∃ t, exec .claimWindowExpiry s = .next t ∧ s.stepStarted t ∧
        t.rcu.iteration = s.rcu.iteration ∧
        t.bgu = { s.bgu with intent := none, window := none, accumulator := 0, refusals := 0
                             committed := w, overdrawSamples := 0 } ∧
        t.bus = { s.bus with budget := some ⟨.commit, 0⟩ } ∧
        t.fcu = s.fcu ∧ t.asc = s.asc ∧ t.tmu = s.tmu ∧ t.cfl = s.cfl)

/-! ### The fixture and its configuration -/

/-- The fixture-present line (R177, R182): a reading present starts the debounce and its end at 100 ms
a load in IDLE or ENDED, whose start takes the filters and the CAL_DEFAULT flags back (R178, R72); a
removal makes the status ABSENT with reason none, stops the scanner and the lines, and ends an active
run with FIXTURE_REMOVED. A fixture that comes brings its memory, and one that goes takes it
along (log entry 31). -/
def Obligations.FixtureComesAndGoes : Prop :=
  ∀ (memory : List Byte) (s : State), s.inReset = false →
    (s.cfl.fixture = .absent → exec (.fixturePresentChange (some memory)) s =
      .next { s with cfl := { s.cfl with fixture := .debouncing 0, memory := memory } }) ∧
    (∀ n, s.cfl.fixture = .debouncing n → exec (.fixturePresentChange none) s =
      .next { s with cfl := { s.cfl with fixture := .absent, memory := [] } }) ∧
    (s.cfl.fixture = .debouncing 100 →
      (s.rcu.run = .idle ∨ s.rcu.run = .ended → s.cfl.status = .absent →
        ∃ t, exec .fixtureDebounceExpiry s = .next t ∧
          t.cfl = { s.cfl with fixture := .present, status := .loading, reason := .none
                               modelCode := 0, serial := 0, loadTimer := some 200, read := 0 } ∧
          (∀ i, t.asc.points.get i =
            { s.asc.points.get i with running := false, calDefault := false }) ∧
          t.asc.scanner = s.asc.scanner ∧ t.asc.power = s.asc.power ∧
          t.rcu = s.rcu ∧ t.sou = s.sou ∧ t.bgu = s.bgu ∧ t.bus = s.bus ∧ t.lines = s.lines) ∧
      (s.rcu.run ≠ .idle → s.rcu.run ≠ .ended → exec .fixtureDebounceExpiry s =
        .next { s with cfl := { s.cfl with fixture := .present } })) ∧
    (s.cfl.fixture = .present → ∃ t, exec (.fixturePresentChange none) s = .next t ∧
      t.cfl = { s.cfl with fixture := .absent, status := .absent, reason := .none, modelCode := 0
                           serial := 0, loadTimer := none, memory := [], read := 0 } ∧
      t.asc = { s.asc with scanner := .stopped } ∧
      (∀ i, (t.lines.get i).sup = .unused ∧ (t.lines.get i).timer = none ∧
        (t.lines.get i).pulses = (s.lines.get i).pulses) ∧
      (s.rcu.run.active = true → RunEnded .aborted .fixtureRemoved s t ∧
        t.sou.level1 = 0 ∧ t.sou.level2 = 0 ∧
        t.fcu.recordCount = s.fcu.recordCount + s.fcu.groups.length + 1) ∧
      (s.rcu.run.active = false → t.rcu = s.rcu ∧ t.sou = s.sou ∧ t.fcu = s.fcu ∧ t.bgu = s.bgu))

/-- A load ends VALID when every test passes (R178 to R181): the corrected values are in force, the
line roles stand in their first states, every filter starts anew, an OFF point reads 0 (R82), and the
first scan starts; with no enabled point it completes at once, with P at 0 (R73, R84). Otherwise it ends
INVALID with the reason of the first test that failed, LENGTH, VERSION, NO_RESPONSE for bytes that are
missing, CHECKSUM, BAD_STRUCTURE (STRUCTURE of the manual), and the blocks keep their values. The model
code and the serial are taken where ten bytes have been read whose first four pass their tests, and kept
otherwise. A block that has passed the tests before it passes the structure test (R180) where it has 1
to 32 steps in exactly the length of that many, codes in their ranges, a reach point of 0 to 7 in every
HOLD or MARGIN step whose reach is present, and at most one POWER_GOOD and one HEARTBEAT line, and fails
it otherwise. That the bytes are those of the memory that came with the fixture, as many as it has
answered by then and never fewer than the load has read, is the model's way to bring them (log
entry 31). -/
def Obligations.LoadsEndValidOrInvalid : Prop :=
  (∀ (answered : Nat) (b : List Byte) (model : BitVec 16) (serial : BitVec 32) (s : State),
    s.inReset = false → s.cfl.status = .loading →
    b = s.cfl.memory.take (max s.cfl.read answered) →
    (model, serial) =
      (if 10 ≤ b.length ∧ 64 ≤ wordAt b 2 ∧ wordAt b 2 ≤ 2048 ∧ byteAt b 0 = 1 then
        (BitVec.ofNat 16 (wordAt b 4), BitVec.ofNat 32 (longAt b 6))
      else (s.cfl.modelCode, s.cfl.serial)) →
    (blockFault b = none →
      ∃ t, exec (.loadCompletion answered) s = .next t ∧
        t.cfl = { s.cfl with status := .valid, reason := .none, loadTimer := none
                             config := some (configOf b), modelCode := model, serial := serial
                             read := 0 } ∧
        (∀ i : Fin 8, ((configOf b).points.get i).range ≠ .off →
          (∀ j, j < i → ((configOf b).points.get j).range = .off) →
          t.asc.scanner = .scanning (s.tmu.uptime +
            BitVec.ofNat 48 ((configOf b).scanInterval * 5)) i ∧
          t.asc.power = s.asc.power ∧ t.bgu = s.bgu) ∧
        ((∀ i : Fin 8, ((configOf b).points.get i).range = .off) →
          t.asc.scanner = .between (s.tmu.uptime +
            BitVec.ofNat 48 ((configOf b).scanInterval * 5)) ∧
          t.asc.power = 0 ∧ t.bgu = { s.bgu with overdrawSamples := 0 }) ∧
        (∀ n, t.asc.points.get n = if ((configOf b).points.get n).range = .off then
            ⟨0, false, false, 0, false, 0, 0, ((configOf b).points.get n).calDefault⟩
          else { s.asc.points.get n with
            running := false, calDefault := ((configOf b).points.get n).calDefault }) ∧
        (∀ n, (t.lines.get n).sup = match ((configOf b).lines.get n).role with
          | .unused => .unused
          | .heartbeat => .heartbeat .disarmed
          | .rate => .rate false false
          | .powerGood => .powerGood .off
          | .resetWatch => .resetWatch false) ∧
        (∀ n, (t.lines.get n).high = (s.lines.get n).high ∧
          (t.lines.get n).pulses = (s.lines.get n).pulses ∧ (t.lines.get n).timer = none) ∧
        t.rcu = s.rcu ∧ t.sou = s.sou ∧ t.fcu = s.fcu ∧ t.bus = s.bus ∧
        t.wck = s.wck ∧ t.lanes = s.lanes ∧ t.tmu = s.tmu) ∧
    (∀ r, blockFault b = some r → exec (.loadCompletion answered) s = .next { s with
      cfl := { s.cfl with status := .invalid, reason := r, loadTimer := none
                          modelCode := model, serial := serial, read := 0 } }) ∧
    (∀ c, c = .memoryNoResponse answered ∨
        (c = .loadTimerExpiry answered ∧ s.cfl.loadTimer = some 0) →
      exec c s = .next { s with
        cfl := { s.cfl with
          status := .invalid, loadTimer := none, modelCode := model, serial := serial, read := 0
          reason := if b.length < 4 then .noResponse
            else if wordAt b 2 < 64 ∨ 2048 < wordAt b 2 then .length
            else if byteAt b 0 ≠ 1 then .version else .noResponse } }) ∧
    (s.cfl.loadTimer ≠ some 0 → exec (.loadTimerExpiry answered) s = .next s)) ∧
  (∀ b : List Byte, 4 ≤ b.length →
    (wordAt b 2 < 64 ∨ 2048 < wordAt b 2 → blockFault b = some .length) ∧
    (64 ≤ wordAt b 2 → wordAt b 2 ≤ 2048 →
      (byteAt b 0 ≠ 1 → blockFault b = some .version) ∧
      (byteAt b 0 = 1 → b.length < wordAt b 2 → blockFault b = some .noResponse) ∧
      (byteAt b 0 = 1 → wordAt b 2 ≤ b.length →
        ((crc16 (b.take (wordAt b 2 - 2))).toNat ≠ wordAt b (wordAt b 2 - 2) →
          blockFault b = some .checksum) ∧
        (∀ good : Prop, (good ↔ 1 ≤ byteAt b 1 ∧ byteAt b 1 ≤ 32 ∧
            wordAt b 2 = 247 + 34 * byteAt b 1 ∧
            (∀ i, i < byteAt b 1 → byteAt b (245 + 34 * i) ≤ 2 ∧ byteAt b (246 + 34 * i) ≤ 2 ∧
              byteAt b (254 + 34 * i) ≤ 3 ∧ (byteAt b (245 + 34 * i) ≠ 1 →
                byteAt b (271 + 34 * i) ≠ 0 → byteAt b (272 + 34 * i) ≤ 7)) ∧
            (∀ i, i < 8 → byteAt b (31 + 11 * i) ≤ 6) ∧
            (∀ i, i < 4 → byteAt b (119 + 9 * i) ≤ 4) ∧
            (∀ i j, i < 4 → j < 4 → i ≠ j → byteAt b (119 + 9 * i) = 3 →
              byteAt b (119 + 9 * j) ≠ 3) ∧
            (∀ i j, i < 4 → j < 4 → i ≠ j → byteAt b (119 + 9 * i) = 1 →
              byteAt b (119 + 9 * j) ≠ 1)) →
          (crc16 (b.take (wordAt b 2 - 2))).toNat = wordAt b (wordAt b 2 - 2) →
          (good → blockFault b = none) ∧ (¬good → blockFault b = some .badStructure)))))

/-- The values that a load hands on lie in the ranges of their tables, whatever the bytes (R3, R78,
R88, R90, R121, R134, R48, R70, R181), so every set-point that they give lies within OUT0's limit (R4,
R33). -/
def Obligations.LoadedValuesLieInTheirRanges : Prop :=
  ∀ b : List Byte,
    ((configOf b).steps.length = byteAt b 1 ∧ (configOf b).mainMaxMv ≤ 13200 ∧
      (configOf b).mainNominal ≤ 13200 ∧
      (configOf b).standbyMaxMv ≤ 5500 ∧ (configOf b).out1SafeMv ≤ (configOf b).standbyMaxMv ∧
      (configOf b).out2SafePct ≤ 100 ∧ 1 ≤ (configOf b).overdrawCount ∧
      (configOf b).overdrawCount ≤ 255 ∧ 1 ≤ (configOf b).scanInterval ∧
      (configOf b).scanInterval ≤ 200 ∧ 1 ≤ (configOf b).maxFaults ∧
      (configOf b).maxFaults ≤ 64 ∧ (configOf b).coalesceMs ≤ 100 ∧
      (configOf b).sources.length ≤ 4) ∧
    (∀ t ∈ (configOf b).steps, -2000 ≤ t.marginBp ∧ t.marginBp ≤ 2000 ∧ t.standbyMv ≤ 5500 ∧
      t.fanPct ≤ 100 ∧ t.slew ≤ 1000 ∧ 1 ≤ t.durationS ∧ t.durationS ≤ 65535 ∧ 100 ≤ t.onMs ∧
      t.onMs ≤ 60000 ∧ 100 ≤ t.offMs ∧ t.offMs ≤ 60000 ∧ 1 ≤ t.repeats ∧ t.repeats ≤ 1000 ∧
      t.claimW ≤ 400 ∧ t.blankingMs ≤ 5000 ∧
      (t.pressMs = 0 ∨ 50 ≤ t.pressMs ∧ t.pressMs ≤ 5000) ∧ 1 ≤ t.reachBand ∧
      t.reachBand ≤ 255 ∧ -32768 ≤ t.reachTarget ∧ t.reachTarget ≤ 32767 ∧
      1 ≤ t.reachTimeoutS ∧ t.reachTimeoutS ≤ 65535 ∧
      setPoint (configOf b) t ≤ (configOf b).mainMaxMv) ∧
    (∀ i, (29491 ≤ ((configOf b).points.get i).gain ∧ ((configOf b).points.get i).gain ≤ 36045 ∧
        -500 ≤ ((configOf b).points.get i).offset ∧ ((configOf b).points.get i).offset ≤ 500) ∧
      ((configOf b).points.get i).nominal ≤ 32767 ∧
      ((configOf b).points.get i).tolerance ≤ 5000 ∧
      1 ≤ ((configOf b).points.get i).persistence ∧
      ((configOf b).points.get i).persistence ≤ 255) ∧
    (∀ i j v, ((configOf b).profiles.get i).overrides.get j = some v → v ≤ 5000) ∧
    (∀ k, 1 ≤ ((configOf b).errorClass k).threshold ∧ ((configOf b).errorClass k).threshold ≤ 255) ∧
    (∀ i, 10 ≤ ((configOf b).lines.get i).hbMaxMs ∧ ((configOf b).lines.get i).hbMaxMs ≤ 60000 ∧
      ((configOf b).lines.get i).rateMin ≤ ((configOf b).lines.get i).rateMax ∧
      ((configOf b).lines.get i).rateMax ≤ 10000 ∧
      10 ≤ ((configOf b).lines.get i).pgTimeoutMs ∧
      ((configOf b).lines.get i).pgTimeoutMs ≤ 5000)

/-! ### The fault log -/

/-- Coalescing (R140 to R142): a raise joins the open group of its kind with its points in ascending
order and without a second copy, or opens a group at the end of the list; the close timer's expiry
writes the record of the group that was opened first. So does a HANG of a checked line under the
policy CONTINUE with coalescing (log entry 32 for its value): nothing is recorded and no notice queued
before the group closes. The write that brings the count to max_faults ends the run FAIL with cause
FAULT_LIMIT (R147), of a group that closes and, with W = 0, of a raise. -/
def Obligations.GroupsCollectPointsAndClose : Prop :=
  (∀ (r : Record) (s : State), (∀ g ∈ s.fcu.groups, g.record.kind ≠ r.kind) →
    (s.joinOrOpen r).fcu.groups = s.fcu.groups ++ [⟨r, s.cfg.coalesceMs⟩]) ∧
  (∀ (r : Record) (g : Machine.Group) (before after : List Machine.Group) (s : State),
    s.fcu.groups = before ++ g :: after → g.record.kind = r.kind →
    (∀ x ∈ before ++ after, x.record.kind ≠ r.kind) →
    (s.joinOrOpen r).fcu.groups =
      before ++ { g with record := { g.record with
        points := joinPoints r.points g.record.points } } :: after) ∧
  (∀ (added into : List Nat), into.Pairwise (· < ·) → (joinPoints added into).Pairwise (· < ·) ∧
    ∀ n, n ∈ joinPoints added into ↔ n ∈ added ∨ n ∈ into) ∧
  (∀ (i : Fin 4) (s : State), s.inReset = false → s.checked (12 + i.val) = true →
    s.policyStep.policy = .goOn → 0 < s.cfg.coalesceMs →
    (s.lines.get i).sup = .heartbeat .armed → (s.lines.get i).timer = some 0 →
    ((∀ g ∈ s.fcu.groups, g.record.kind ≠ .hang) →
      ∃ t r, exec (.heartbeatIntervalExpiry i) s = .next t ∧
        t.fcu = { s.fcu with groups := s.fcu.groups ++ [⟨r, s.cfg.coalesceMs⟩] } ∧
        r.kind = .hang ∧ r.points = [12 + i.val] ∧
        r.value = min ((s.cfg.lines.get i).hbMaxMs : Int) 2147483647 ∧
        (r.rack = s.tmu.rack ∧ r.uptime = s.tmu.uptime ∧ r.step = s.rcu.step ∧
          r.phase = s.rcu.phase ∧ r.iteration = s.rcu.iteration) ∧
        t.bus = s.bus ∧ t.rcu = s.rcu ∧ t.sou = s.sou) ∧
    (∀ (g : Machine.Group) (before after : List Machine.Group),
      s.fcu.groups = before ++ g :: after → g.record.kind = .hang →
      (∀ x ∈ before ++ after, x.record.kind ≠ .hang) →
      ∃ t, exec (.heartbeatIntervalExpiry i) s = .next t ∧
        t.fcu = { s.fcu with groups := before ++ { g with record := { g.record with
          points := joinPoints [12 + i.val] g.record.points } } :: after } ∧
        t.bus = s.bus ∧ t.rcu = s.rcu ∧ t.sou = s.sou)) ∧
  (∀ (g : Machine.Group) (gs : List Machine.Group) (s : State), s.inReset = false →
    s.fcu.groups = g :: gs →
    (0 < g.closeTimer → exec .closeTimerExpiry s = .next s) ∧
    (g.closeTimer = 0 → s.fcu.log.length < 64 → s.fcu.recordCount + 1 ≠ s.cfg.maxFaults →
      s.bus.notices.length < 8 →
      exec .closeTimerExpiry s = .next { s with
        fcu := { s.fcu with groups := gs, recordCount := s.fcu.recordCount + 1
                            log := s.fcu.log ++ [{ g.record with index := s.fcu.log.length }] }
        bus := { s.bus with notices := s.bus.notices ++
          [⟨.fault { g.record with index := s.fcu.log.length }, 0⟩] } }) ∧
    (g.closeTimer = 0 → s.fcu.log.length < 64 → s.fcu.recordCount + 1 = s.cfg.maxFaults →
      ∃ t, exec .closeTimerExpiry s = .next t ∧ RunEnded .fail .faultLimit s t ∧
        t.fcu.recordCount = s.fcu.recordCount + 1 + gs.length)) ∧
  (∀ (i : Fin 4) (s : State), s.inReset = false → s.checked (12 + i.val) = true →
    s.policyStep.policy = .goOn → s.cfg.coalesceMs = 0 →
    s.fcu.recordCount + 1 = s.cfg.maxFaults →
    (s.lines.get i).sup = .heartbeat .armed → (s.lines.get i).timer = some 0 →
    ∃ t r, exec (.heartbeatIntervalExpiry i) s = .next t ∧ RunEnded .fail .faultLimit s t ∧
      Raised .hang [12 + i.val] (s.cfg.lines.get i).hbMaxMs s r ∧
      Wrote (s.closingRecords r) s t)

/-! ### Promises of every state -/

/-- Every command keeps the safety of the outputs and the board (R17, R38, R109, R124): outside an active
run OUT0 stands at 0 mV with the button released, the board-on flag is its condition, and no lane is
out of OFF without it. A HEARTBEAT or RATE line is armed exactly while board-on is set and blanking is
clear, a RESET_WATCH line ASSERTED only then (R125, R126, R130), and a POWER_GOOD line is OFF while
board-on is clear (R129). With them go what they rest on: an intent is open only in CLAIMING and the wait
state set only in WAITING (R8), an active run has a VALID configuration (R177), and a power-on in progress
is one to a level above 0 mV (R9, R15). -/
def Obligations.EveryCommandKeepsTheBoardSafe : Prop :=
  ∀ (c : Instr) (s t : State), s.BoardSafe → exec c s = .next t → t.BoardSafe

/-- Every command keeps the books of the station: the log holds at most 64 records, each at its own
index (R146), the outbox classes stay within their capacities (R163), the peer view stays in ascending
slot order without the own slot (R53), the nanoseconds stay below one second (R151), every claim
within 400 W (R3, R66), and the model code and the serial 0 while the status is ABSENT or a load has
read fewer than ten bytes (R176, R178, R182; log entry 31). -/
def Obligations.EveryCommandKeepsTheBooks : Prop :=
  ∀ (c : Instr) (s t : State), exec c s = .next t →
    (s.logOrdered → s.outboxBounded → t.logOrdered ∧ t.outboxBounded) ∧
    (s.viewOrdered → t.viewOrdered) ∧ (s.rackTimeRight → t.rackTimeRight) ∧
    (s.claimsBounded → t.claimsBounded) ∧ (s.idsRight → t.idsRight)

/-- Which commands move which items, of all the commands there are: uptime moves at the millisecond
boundary (R152), rack time by its advance and by BEACONs (R153, R156), the straps and the budget are
read at a reset's end (R48), the snapshot store is written by SNAPSHOT (R170), the corrected values
come with a load (R178), the memory that is read with the fixture (log entry 31), and a point's
filtered value moves at a conversion and at a load (R80, R82, R72). Only a reset moves any of them
otherwise. -/
def Obligations.ItemsMoveByTheirCommandsOnly : Prop :=
  ∀ (c : Instr) (s t : State), exec c s = .next t → c ≠ .powerOnReset → c ≠ .rackReset →
    (t.tmu.uptime ≠ s.tmu.uptime → c = .outputTick ∧ t.tmu.uptime = s.tmu.uptime + 1) ∧
    (t.tmu.rack ≠ s.tmu.rack → c = .rackTimeAdvance ∨ ∃ f, frameOf c = some (0x01, f)) ∧
    (t.slot ≠ s.slot ∨ t.code ≠ s.code → ∃ slot code, c = .resetEnd slot code) ∧
    (t.bus.snapshot ≠ s.bus.snapshot → ∃ f, frameOf c = some (0x25, f)) ∧
    (t.cfl.config ≠ s.cfl.config → ∃ answered, c = .loadCompletion answered) ∧
    (t.cfl.memory ≠ s.cfl.memory → ∃ fixture, c = .fixturePresentChange fixture) ∧
    (∀ i, (t.asc.points.get i).y ≠ (s.asc.points.get i).y →
      (∃ answered, c = .loadCompletion answered) ∨ ∃ uv, c = .conversionCompletion uv)

/-- A claim is released with its run (R66, R65): every command that leaves the run in ENDED, IDLE or
ISOLATED from an active run leaves the committed claim at 0, no intent open, no WAITING, and the
outputs' main channel at 0. -/
def Obligations.LeavingARunReleasesTheClaim : Prop :=
  ∀ (c : Instr) (s t : State), s.rcu.run.active = true → exec c s = .next t →
    t.rcu.run.active = false →
    t.bgu.committed = 0 ∧ t.bgu.intent = none ∧ t.bgu.window = none ∧ t.bgu.waitingSince = none ∧
      t.sou.target0 = 0 ∧ t.sou.level0 = 0 ∧ t.sou.pressed = false ∧ t.rcu.boardOn = false ∧
      ∀ i, (t.lanes.get i).lock = .off

/-- The state after reset keeps every promise (R5, R38, R53, R146, R151, R163, R176). -/
def Obligations.ResetStateKeepsEveryPromise : Prop :=
  State.reset.BoardSafe ∧ State.reset.logOrdered ∧ State.reset.outboxBounded ∧
    State.reset.viewOrdered ∧ State.reset.rackTimeRight ∧ State.reset.claimsBounded ∧
    State.reset.idsRight ∧ State.reset.pending = [] ∧ State.reset.inReset = true
end

