-- ==== Sys2Proof/Decode.lean ====
section
/-! DEFINITION. The command that a word spells by the bits of spec/opcode_table.json. -/

namespace Sys2Proof

/-- No row of spec/opcode_table.json gives bits: the commands are events of the station, and a word
spells none of them (log entry 19). -/
def decodeTableWord (_nbits _w : Nat) : Option Instr := .none

end Sys2Proof
end

