-- ==== Sys2Proof/Laws/Word.lean ====
section
/-! SUPPORT. Reading the fixed-size tables after they are filled, changed or set. -/

namespace Sys2Proof

namespace Quad

variable {α β : Type}

@[simp] theorem get_fill (x : α) (i : Fin 4) : (fill x).get i = x := by fin_cases i <;> rfl

@[simp] theorem get_ofFn (f : Fin 4 → α) (i : Fin 4) : (ofFn f).get i = f i := by
  fin_cases i <;> rfl

@[simp] theorem get_mapIdx (q : Quad α) (f : Fin 4 → α → β) (i : Fin 4) :
    (q.mapIdx f).get i = f i (q.get i) := by fin_cases i <;> rfl

@[simp] theorem get_map (q : Quad α) (f : α → β) (i : Fin 4) : (q.map f).get i = f (q.get i) := by
  fin_cases i <;> rfl

@[simp] theorem get_set_self (q : Quad α) (x : α) (i : Fin 4) : (q.set i x).get i = x := by
  fin_cases i <;> rfl

theorem get_set_of_ne (q : Quad α) (x : α) {i j : Fin 4} (h : j ≠ i) :
    (q.set i x).get j = q.get j := by
  revert h; fin_cases i <;> fin_cases j <;> simp [set, get]

@[simp] theorem set_set (q : Quad α) (x y : α) (i : Fin 4) : (q.set i x).set i y = q.set i y := by
  fin_cases i <;> rfl

@[simp] theorem set_get_self (q : Quad α) (i : Fin 4) : q.set i (q.get i) = q := by
  fin_cases i <;> rfl

/-- Two tables that read alike at every index are one. -/
theorem ext_get {p q : Quad α} (h : ∀ i, p.get i = q.get i) : p = q := by
  have h0 := h 0; have h1 := h 1; have h2 := h 2; have h3 := h 3
  cases p; cases q; simp_all [get]

end Quad

namespace Oct

variable {α β : Type}

@[simp] theorem get_fill (x : α) (i : Fin 8) : (fill x).get i = x := by fin_cases i <;> rfl

@[simp] theorem get_ofFn (f : Fin 8 → α) (i : Fin 8) : (ofFn f).get i = f i := by
  fin_cases i <;> rfl

@[simp] theorem get_mapIdx (q : Oct α) (f : Fin 8 → α → β) (i : Fin 8) :
    (q.mapIdx f).get i = f i (q.get i) := by fin_cases i <;> rfl

@[simp] theorem get_map (q : Oct α) (f : α → β) (i : Fin 8) : (q.map f).get i = f (q.get i) := by
  fin_cases i <;> rfl

@[simp] theorem get_set_self (q : Oct α) (x : α) (i : Fin 8) : (q.set i x).get i = x := by
  fin_cases i <;> rfl

theorem get_set_of_ne (q : Oct α) (x : α) {i j : Fin 8} (h : j ≠ i) :
    (q.set i x).get j = q.get j := by
  revert h; fin_cases i <;> fin_cases j <;> simp [set, get]

@[simp] theorem set_set (q : Oct α) (x y : α) (i : Fin 8) : (q.set i x).set i y = q.set i y := by
  fin_cases i <;> rfl

/-- Two tables that read alike at every index are one. -/
theorem ext_get {p q : Oct α} (h : ∀ i, p.get i = q.get i) : p = q := by
  have h0 := h 0; have h1 := h 1; have h2 := h 2; have h3 := h 3
  have h4 := h 4; have h5 := h 5; have h6 := h 6; have h7 := h 7
  cases p; cases q; simp_all [get]

end Oct

end Sys2Proof
end

