-- ==== Sys2Proof/Laws/Ops.lean ====
section
/-! SUPPORT. What each shared operation can do, said once: the outbox, the outputs, the lanes and lines
under the flags, the claim, the log, the run end and isolation. A lemma of the form `t = { s with … }`
names every field that can change; the fields it does not name stay. -/

namespace Sys2Proof.Machine

/-! ### The outbox -/

/-- A notice entering its class changes the notices and their drop count only (R163). -/
theorem queueNotice_spec (n : Notice) (b : Bif) :
    (b.notices.length < 8 ∧ b.queueNotice n = { b with notices := b.notices ++ [⟨n, 0⟩] }) ∨
    (8 ≤ b.notices.length ∧
      b.queueNotice n = { b with noticeDrops := satInc 65535 b.noticeDrops }) := by
  unfold Bif.queueNotice
  by_cases h : b.notices.length < 8
  · simp [h]
  · simp [h]; omega

/-- A BUDGET frame entering its class changes the class or its waiting place only (R161). -/
theorem queueBudget_spec (f : BudgetFrame) (b : Bif) :
    b.queueBudget f = { b with budget := some ⟨f, 0⟩ } ∨
    b.queueBudget f = { b with budgetNext := some f } := by
  unfold Bif.queueBudget
  split <;> simp

/-- With no attempt under way a BUDGET frame stands in its class (R161). -/
theorem queueBudget_idle (f : BudgetFrame) (b : Bif) (h : b.attempt = none) :
    b.queueBudget f = { b with budget := some ⟨f, 0⟩ } := by
  simp [Bif.queueBudget, Bif.attempting, h]

/-! ### The log -/

/-- Two states that differ in the Fault Capture Unit and the NOTICE class only. -/
def LogOnly (s t : State) : Prop :=
  ∃ f n d, t = { s with fcu := f, bus := { s.bus with notices := n, noticeDrops := d } }

theorem LogOnly.refl (s : State) : LogOnly s s := ⟨s.fcu, s.bus.notices, s.bus.noticeDrops, rfl⟩

theorem LogOnly.trans {s t u : State} (h : LogOnly s t) (g : LogOnly t u) : LogOnly s u := by
  obtain ⟨f, n, d, rfl⟩ := h
  obtain ⟨f', n', d', rfl⟩ := g
  exact ⟨f', n', d', rfl⟩

/-- A written record changes the log and the notices only (R146, R148). -/
theorem writeRecord_logOnly (r : Record) (s : State) : LogOnly s (s.writeRecord r) := by
  unfold State.writeRecord
  by_cases h : s.fcu.log.length < 64
  · rcases queueNotice_spec (.fault { r with index := s.fcu.log.length }) s.bus with ⟨-, e⟩ | ⟨-, e⟩
    · exact ⟨_, _, s.bus.noticeDrops, by simp only [h, if_true, e]; rfl⟩
    · exact ⟨_, s.bus.notices, _, by simp only [h, if_true, e]; rfl⟩
  · exact ⟨_, s.bus.notices, s.bus.noticeDrops, by simp only [h, if_false]; rfl⟩

/-- A written record is counted, and leaves the open groups as they stand. -/
theorem writeRecord_counts (r : Record) (s : State) :
    (s.writeRecord r).fcu.recordCount = s.fcu.recordCount + 1 ∧
      (s.writeRecord r).fcu.groups = s.fcu.groups ∧
      (s.fcu.mode ≠ .completing → (s.writeRecord r).fcu.mode = s.fcu.mode) ∧
      (s.writeRecord r).fcu.log.length ≤ s.fcu.log.length + 1 ∧
      (s.writeRecord r).bus.notices.length ≤ s.bus.notices.length + 1 := by
  unfold State.writeRecord
  by_cases h : s.fcu.log.length < 64
  · rcases queueNotice_spec (.fault { r with index := s.fcu.log.length }) s.bus with ⟨-, e⟩ | ⟨-, e⟩ <;>
      simp +contextual [h, e]
  · simp +contextual [h]

/-- A record that finds room stands at the end of the log under its index (R146). -/
theorem writeRecord_room (r : Record) (s : State) (h : s.fcu.log.length < 64) :
    (s.writeRecord r).fcu.log = s.fcu.log ++ [{ r with index := s.fcu.log.length }] := by
  simp [State.writeRecord, h]

/-- A RUN notice that is queued changes the notices only (R172). -/
theorem queueRunNotice_logOnly (v : Verdict) (c : EndCause) (s : State) :
    LogOnly s (s.queueRunNotice v c) := by
  unfold State.queueRunNotice
  rcases queueNotice_spec (.run (s.runNotice v c)) s.bus with ⟨-, e⟩ | ⟨-, e⟩
  · exact ⟨s.fcu, s.bus.notices ++ [⟨.run (s.runNotice v c), 0⟩], s.bus.noticeDrops, by rw [e]⟩
  · exact ⟨s.fcu, s.bus.notices, satInc 65535 s.bus.noticeDrops, by rw [e]⟩

/-- Closing the open groups changes the log and the notices only (R144). -/
theorem foldRecords_spec (gs : List Group) (s : State) :
    LogOnly s (gs.foldl (fun s g => s.writeRecord g.record) s) ∧
      (gs.foldl (fun s g => s.writeRecord g.record) s).fcu.recordCount =
        s.fcu.recordCount + gs.length ∧
      (gs.foldl (fun s g => s.writeRecord g.record) s).fcu.groups = s.fcu.groups ∧
      (s.fcu.mode ≠ .completing →
        (gs.foldl (fun s g => s.writeRecord g.record) s).fcu.mode = s.fcu.mode) ∧
      (gs.foldl (fun s g => s.writeRecord g.record) s).fcu.log.length ≤
        s.fcu.log.length + gs.length ∧
      (gs.foldl (fun s g => s.writeRecord g.record) s).bus.notices.length ≤
        s.bus.notices.length + gs.length := by
  induction gs generalizing s with
  | nil => simpa using LogOnly.refl s
  | cons g gs ih =>
    obtain ⟨h1, h2, h3, h4, h5, h6⟩ := ih (s.writeRecord g.record)
    obtain ⟨w2, w3, w4, w5, w6⟩ := writeRecord_counts g.record s
    simp only [List.foldl_cons, List.length_cons]
    refine ⟨(writeRecord_logOnly g.record s).trans h1, by omega, h3.trans w3, fun hm => ?_,
      by omega, by omega⟩
    rw [h4 (by rw [w4 hm]; exact hm), w4 hm]

/-- The final closing (R145): every open group is written and none stays open. -/
theorem finalClosing_spec (mode : ClosingMode) (s : State) :
    LogOnly s (s.finalClosing mode) ∧
      (s.finalClosing mode).fcu.recordCount = s.fcu.recordCount + s.fcu.groups.length ∧
      (s.finalClosing mode).fcu.groups = [] ∧
      (mode ≠ .completing → (s.finalClosing mode).fcu.mode = mode) ∧
      (s.finalClosing mode).fcu.log.length ≤ s.fcu.log.length + s.fcu.groups.length ∧
      (s.finalClosing mode).bus.notices.length ≤
        s.bus.notices.length + s.fcu.groups.length := by
  obtain ⟨h1, h2, h3, h4, h5, h6⟩ := foldRecords_spec s.fcu.groups
    { s with fcu := { s.fcu with mode := mode, groups := [] } }
  obtain ⟨f, n, d, e⟩ := h1
  exact ⟨⟨f, n, d, e⟩, h2, h3, h4, h5, h6⟩

/-- A raise that joins or opens a group changes the groups only (R140, R141). -/
theorem joinOrOpen_spec (r : Record) (s : State) :
    ∃ gs, s.joinOrOpen r = { s with fcu := { s.fcu with groups := gs } } ∧ gs ≠ [] := by
  refine ⟨_, rfl, ?_⟩
  split
  · next h => intro e; simp_all
  · simp

/-! ### The claim -/

/-- The withdrawal of the own intent (R64) changes the intent, its window and the BUDGET class. -/
theorem withdrawIntent_spec (s : State) : ∃ w b bn,
    s.withdrawIntent = { s with
      bgu := { s.bgu with intent := none, window := w }
      bus := { s.bus with budget := b, budgetNext := bn } } := by
  unfold State.withdrawIntent
  split
  · next h => exact ⟨s.bgu.window, s.bus.budget, s.bus.budgetNext, by rw [← h]⟩
  · exact ⟨s.bgu.window, s.bus.budget, s.bus.budgetNext, rfl⟩
  · rcases queueBudget_spec .commit s.bus.disown with e | e
    · exact ⟨s.bgu.window, _, _, by rw [e]; rfl⟩
    · exact ⟨s.bgu.window, _, _, by rw [e]; rfl⟩
  · rcases queueBudget_spec .commit s.bus with e | e
    · exact ⟨_, _, s.bus.budgetNext, by rw [e]⟩
    · exact ⟨_, s.bus.budget, _, by rw [e]⟩

/-- A committed claim (R51, R60) changes the claim, the overdraw count and the BUDGET class. -/
theorem commitClaim_spec (w : Nat) (s : State) : ∃ b bn,
    s.commitClaim w = { s with
      bgu := { s.bgu with committed := w, overdrawSamples := 0 }
      bus := { s.bus with budget := b, budgetNext := bn } } := by
  rcases queueBudget_spec .commit s.bus with e | e
  · exact ⟨some ⟨.commit, 0⟩, s.bus.budgetNext, by
      simp only [State.commitClaim, State.queueCommit, e]⟩
  · exact ⟨s.bus.budget, some .commit, by simp only [State.commitClaim, State.queueCommit, e]⟩

/-- The claim at a run end (R66): nothing is claimed, asked or waited for. -/
theorem releaseClaim_spec (s : State) : ∃ o b bn,
    s.releaseClaim = { s with
      bgu := { s.bgu with intent := none, window := none, waitingSince := none, accumulator := 0
                          committed := 0, overdrawSamples := o }
      bus := { s.bus with budget := b, budgetNext := bn } } ∧
    (o = 0 ∨ o = s.bgu.overdrawSamples) := by
  obtain ⟨w, b, bn, e⟩ := withdrawIntent_spec s
  simp only [State.releaseClaim, e]
  by_cases h : s.bgu.committed = 0
  · exact ⟨s.bgu.overdrawSamples, b, bn, by rw [if_pos h, ← h], .inr rfl⟩
  · obtain ⟨b', bn', e'⟩ := commitClaim_spec 0 { s with
      bgu := { s.bgu with intent := none, window := none, waitingSince := none, accumulator := 0 }
      bus := { s.bus with budget := b, budgetNext := bn } }
    exact ⟨0, b', bn', by rw [if_neg h]; exact e', .inl rfl⟩

/-- The asking of a claim (R57) changes the intent, its window and the BUDGET class. -/
theorem askClaim_spec (w : Nat) (s : State) : ∃ i wd b bn,
    s.askClaim w = { s with
      bgu := { s.bgu with intent := some ⟨w, i⟩, window := wd }
      bus := { s.bus with budget := b, budgetNext := bn } } ∧
    ((s.mayAnnounce = true ∧ i = .queued) ∨ (s.mayAnnounce = false ∧ i = .held)) := by
  obtain ⟨wd, b, bn, e⟩ := withdrawIntent_spec s
  simp only [State.askClaim, e, State.promoteIntent]
  by_cases h : s.mayAnnounce = true
  · have h' := h
    simp only [State.mayAnnounce] at h'
    rcases queueBudget_spec (.intent w true) { s.bus with budget := b, budgetNext := bn } with q | q
    · exact ⟨.queued, wd, some ⟨.intent w true, 0⟩, bn, by
        simp only [State.mayAnnounce, h', if_true, q], .inl ⟨h, rfl⟩⟩
    · exact ⟨.queued, wd, b, some (.intent w true), by
        simp only [State.mayAnnounce, h', if_true, q], .inl ⟨h, rfl⟩⟩
  · have h' := h
    simp only [State.mayAnnounce] at h'
    exact ⟨.held, wd, b, bn, by simp only [State.mayAnnounce]; exact if_neg h', .inr
      ⟨by simpa using h, rfl⟩⟩

/-- A HELD intent that is queued (R57) changes its stage and the BUDGET class. -/
theorem promoteIntent_spec (s : State) : ∃ i b bn,
    s.promoteIntent = { s with
      bgu := { s.bgu with intent := i }, bus := { s.bus with budget := b, budgetNext := bn } } ∧
    ((∀ w, s.bgu.intent ≠ some ⟨w, .held⟩) ∨ s.mayAnnounce = false → s.promoteIntent = s) := by
  unfold State.promoteIntent
  split
  · next w h =>
    by_cases m : s.mayAnnounce = true
    · rcases queueBudget_spec (.intent w true) s.bus with q | q
      · exact ⟨some ⟨w, .queued⟩, some ⟨.intent w true, 0⟩, s.bus.budgetNext,
          by simp only [m, if_true, q], by simp [m, h]⟩
      · exact ⟨some ⟨w, .queued⟩, s.bus.budget, some (.intent w true),
          by simp only [m, if_true, q], by simp [m, h]⟩
    · exact ⟨s.bgu.intent, s.bus.budget, s.bus.budgetNext, by simp [m], by simp [m]⟩
  all_goals exact ⟨s.bgu.intent, s.bus.budget, s.bus.budgetNext, rfl, fun _ => rfl⟩

/-- A station becomes settled once: one that is settled stays as it is (R157). -/
theorem becomeSettled_spec (s : State) :
    (s.tmu.settled = true → s.becomeSettled = s) ∧
    (s.tmu.settled = false → s.becomeSettled =
      { s with tmu := { s.tmu with settled := true } }.promoteIntent) := by
  unfold State.becomeSettled
  constructor <;> intro h <;> simp [h]

/-! ### The outputs -/

/-- The outputs at a run end (R28, R38): OUT0 at 0 mV, the button released, no press under way. -/
theorem runEnd_outputs (c : LoadedConfig) (e : EndCause) (u : Sou) :
    (u.runEnd c e).target0 = 0 ∧ (u.runEnd c e).level0 = 0 ∧ (u.runEnd c e).pressed = false ∧
      (u.runEnd c e).pressTimer = none ∧ (u.runEnd c e).sensePresent = u.sensePresent ∧
      (u.runEnd c e).limit = .idle ∧ (u.runEnd c e).limitInput = u.limitInput := by
  unfold Sou.runEnd
  split
  · simp [Sou.forceZero, Sou.zero12, Sou.syncLimit]
  · unfold Sou.safe2 Sou.safe1
    cases c.out1Safe <;> cases c.out2Safe <;>
      simp [Sou.forceZero, Sou.syncLimit, Sou.atOnce1, Sou.atOnce2]

/-- OUT1 and OUT2 at a run end: 0 for FIXTURE_REMOVED and SUPPLY_LOST, and their safe sources
otherwise (R28, R39). -/
theorem runEnd_safe (c : LoadedConfig) (e : EndCause) (u : Sou) :
    (e = .fixtureRemoved ∨ e = .supplyLost → (u.runEnd c e).target1 = 0 ∧
      (u.runEnd c e).level1 = 0 ∧ (u.runEnd c e).target2 = 0 ∧ (u.runEnd c e).level2 = 0) ∧
    (¬(e = .fixtureRemoved ∨ e = .supplyLost) →
      (c.out1Safe = .zero → (u.runEnd c e).target1 = 0 ∧ (u.runEnd c e).level1 = 0) ∧
      (c.out1Safe = .hold → (u.runEnd c e).target1 = min u.level1 (limit1 c) ∧
        (u.runEnd c e).level1 = min u.level1 (limit1 c)) ∧
      (c.out1Safe = .value → (u.runEnd c e).target1 = min c.out1SafeMv (limit1 c) ∧
        (u.runEnd c e).level1 = min c.out1SafeMv (limit1 c)) ∧
      (c.out2Safe = .zero → (u.runEnd c e).target2 = 0 ∧ (u.runEnd c e).level2 = 0) ∧
      (c.out2Safe = .hold → (u.runEnd c e).target2 = min u.level2 100 ∧
        (u.runEnd c e).level2 = min u.level2 100) ∧
      (c.out2Safe = .value → (u.runEnd c e).target2 = min c.out2SafePct 100 ∧
        (u.runEnd c e).level2 = min c.out2SafePct 100)) := by
  unfold Sou.runEnd
  constructor
  · intro h; simp [h, Sou.zero12]
  · intro h
    simp only [h, if_false]
    unfold Sou.safe2 Sou.safe1
    cases c.out1Safe <;> cases c.out2Safe <;>
      simp [Sou.forceZero, Sou.syncLimit, Sou.atOnce1, Sou.atOnce2]

/-- A move of a level stays between the level and its target (R35). -/
theorem approach_between (level target slew : Nat) :
    min level target ≤ approach level target slew ∧
      approach level target slew ≤ max level target := by
  unfold approach
  split <;> split <;> omega

/-! ### Lanes and lines under the flags -/

/-- A lane is OFF while the board is (R109). -/
theorem sync_off (enabled : Bool) (l : Lane) : (l.sync false enabled).lock = .off := by
  unfold Lane.sync; split <;> simp_all

/-- A lane's counters do not follow the flags (R109). -/
theorem sync_counters (on enabled : Bool) (l : Lane) :
    (l.sync on enabled).signErrors = l.signErrors ∧ (l.sync on enabled).codeErrors = l.codeErrors ∧
      (l.sync on enabled).markErrors = l.markErrors ∧
      (l.sync on enabled).lockLosses = l.lockLosses := by
  unfold Lane.sync Lane.enterSearch; split <;> split <;> simp

/-- A line's level, counts and stamps do not follow the flags (R123). -/
theorem sync_counts (on force : Bool) (hb : Nat) (l : Line) :
    (l.sync on force hb).high = l.high ∧ (l.sync on force hb).pulses = l.pulses ∧
      (l.sync on force hb).riseRack = l.riseRack ∧
      (l.sync on force hb).riseUptime = l.riseUptime ∧
      (l.sync on force hb).episodes = l.episodes := by
  unfold Line.sync; (repeat' split) <;> simp

/-- The refresh changes the board-on flag, the lanes and the lines only (R17). -/
theorem refresh_spec (s : State) : ∃ lanes lines,
    s.refresh = { s with
      rcu := { s.rcu with boardOn := s.boardOnNow }, lanes := lanes, lines := lines } ∧
    (∀ i, lanes.get i = (s.lanes.get i).sync s.boardOnNow (s.cfg.laneEnable.getLsbD i.val)) ∧
    (∀ i, lines.get i = (s.lines.get i).sync s.boardOnNow (s.boardOnNow && !s.rcu.blanking)
      (s.cfg.lines.get i).hbMaxMs) :=
  ⟨_, _, rfl, fun i => by simp, fun i => by simp⟩

/-! ### The run end and isolation -/

/-- The run end (R28): everything it changes. -/
theorem runEnd_spec (v : Verdict) (c : EndCause) (s : State) : ∃ o b bn ns nd lanes lines,
    s.runEnd v c = { s with
      rcu := { s.rcu.stopTimers.dropHeld with
        run := .ended, verdict := v, cause := c, blanking := false, boardOn := false
        governing := none }
      sou := s.sou.runEnd s.cfg c
      bgu := { s.bgu with
        intent := none, window := none, waitingSince := none, accumulator := 0, committed := 0
        overdrawSamples := o, pendingLower := none }
      wck := { s.wck with reach := none }
      fcu := { s.fcu with mode := .none }
      bus := { s.bus with budget := b, budgetNext := bn, notices := ns, noticeDrops := nd }
      lanes := lanes, lines := lines } ∧
    (o = 0 ∨ o = s.bgu.overdrawSamples) ∧
    (s.bus.notices.length < 8 → ns = s.bus.notices ++ [⟨.run (s.runNotice v c), 0⟩]) ∧
    (∀ i, lanes.get i = (s.lanes.get i).sync false (s.cfg.laneEnable.getLsbD i.val)) ∧
    (∀ i, lines.get i = (s.lines.get i).sync false false (s.cfg.lines.get i).hbMaxMs) := by
  obtain ⟨o, b, bn, e, ho⟩ := releaseClaim_spec { s with
    rcu := { s.rcu with verdict := v, cause := c }, sou := s.sou.runEnd s.cfg c }
  have key : s.runEnd v c = { s with
      rcu := { s.rcu.stopTimers.dropHeld with
        run := .ended, verdict := v, cause := c, blanking := false, boardOn := false
        governing := none }
      sou := s.sou.runEnd s.cfg c
      bgu := { s.bgu with
        intent := none, window := none, waitingSince := none, accumulator := 0, committed := 0
        overdrawSamples := o, pendingLower := none }
      wck := { s.wck with reach := none }
      fcu := { s.fcu with mode := .none }
      bus := Bif.queueNotice (.run (s.runNotice v c))
        { s.bus with budget := b, budgetNext := bn }
      lanes := s.lanes.mapIdx fun i l => l.sync false (s.cfg.laneEnable.getLsbD i.val)
      lines := s.lines.mapIdx fun i l => l.sync false false (s.cfg.lines.get i).hbMaxMs } := by
    have key : s.runEnd v c = (fun x : State =>
        let x := { x with
          rcu := { x.rcu.stopTimers.dropHeld with blanking := false, boardOn := false }
          bgu := { x.bgu with pendingLower := none }
          wck := { x.wck with reach := none } }
        let x := x.queueRunNotice v c
        { x with
          rcu := { x.rcu with run := .ended, governing := none }
          fcu := { x.fcu with mode := .none } }.refresh)
        (State.releaseClaim { s with
          rcu := { s.rcu with verdict := v, cause := c }, sou := s.sou.runEnd s.cfg c }) := rfl
    rw [key, e]
    rfl
  rcases queueNotice_spec (.run (s.runNotice v c))
      { s.bus with budget := b, budgetNext := bn } with ⟨hn, q⟩ | ⟨hn, q⟩
  · exact ⟨o, b, bn, s.bus.notices ++ [⟨.run (s.runNotice v c), 0⟩], s.bus.noticeDrops,
      s.lanes.mapIdx fun i l => l.sync false (s.cfg.laneEnable.getLsbD i.val),
      s.lines.mapIdx fun i l => l.sync false false (s.cfg.lines.get i).hbMaxMs,
      by rw [key, q], ho, fun _ => rfl, fun i => by simp, fun i => by simp⟩
  · exact ⟨o, b, bn, s.bus.notices, satInc 65535 s.bus.noticeDrops,
      s.lanes.mapIdx fun i l => l.sync false (s.cfg.laneEnable.getLsbD i.val),
      s.lines.mapIdx fun i l => l.sync false false (s.cfg.lines.get i).hbMaxMs,
      by rw [key, q], ho, fun h => absurd h (by simp at hn; omega), fun i => by simp,
      fun i => by simp⟩

/-- Entry to ISOLATED (R30, R65): everything it changes besides the log, the outbox, the lanes and
the lines. -/
theorem enterIsolated_spec (ms : Nat) (s : State) : ∃ f bus lanes lines,
    s.enterIsolated ms = { s with
      rcu := { s.rcu.stopTimers.dropHeld with
        run := .isolated, governing := none, verdict := .none, cause := .none, blanking := false
        boardOn := false, isolatedRun := s.rcu.run.active }
      sou := s.sou.forceZero.zero12
      bgu := { s.bgu with
        intent := none, window := none, waitingSince := none, accumulator := 0
        pendingLower := none, committed := 0, overdrawSamples := 0 }
      wck := { s.wck with reach := none }
      fcu := f, bus := bus, lanes := lanes, lines := lines } ∧
    f.mode = .none ∧ bus.responses = s.bus.responses ∧ bus.beacon = s.bus.beacon ∧
    bus.attempt = s.bus.attempt ∧ (∀ i, (lanes.get i).lock = .off) := by
  have hc : LogOnly s (if s.rcu.run.active = true then s.busLostClosing ms else s) := by
    split
    · exact ((finalClosing_spec .ending s).1.trans (writeRecord_logOnly _ _)).trans
        (queueRunNotice_logOnly _ _ _)
    · exact LogOnly.refl s
  obtain ⟨f, n, d, e⟩ := hc
  simp only [State.enterIsolated, e, State.isolateClaim, State.commitClaim, State.queueCommit]
  rcases queueBudget_spec .commit
    (Bif.disown { s.bus with notices := n, noticeDrops := d }) with q | q
  · refine ⟨_, _, _, _, rfl, rfl, ?_, ?_, ?_, ?_⟩
    · rw [q]; rfl
    · rw [q]; rfl
    · rw [q]; rfl
    · intro i; simp [State.boardOnNow, RunState.active, sync_off]
  · refine ⟨_, _, _, _, rfl, rfl, ?_, ?_, ?_, ?_⟩
    · rw [q]; rfl
    · rw [q]; rfl
    · rw [q]; rfl
    · intro i; simp [State.boardOnNow, RunState.active, sync_off]

end Sys2Proof.Machine
end

