-- ==== Sys2Proof/Laws/Requests.lean ====
section
/-! SUPPORT. What a reception does, said once: a request that passes every step of R167 before its
action, a broadcast, a request turned away, and the view's entry after a frame or with time. With them
what a refresh of the board-on flag, a load, a run end and a retry leave behind. -/

namespace Sys2Proof.Machine

/-- Out of reset a command's effect is its next state (R175). -/
theorem live_next {s : State} {f : State → State} (h : s.inReset = false) :
    s.live f = .next (f s) := by simp [State.live, h]

/-! ### Requests -/

/-- A control request that is taken acts, and its answer enters the RESPONSE class (R167, R169). -/
theorem takesControl_spec {k : Byte} {f : RxFrame} {s : State} (h : s.takesControl k f = true) :
    s.inReset = false ∧ ∀ act, s.hear k f (State.controlRequest k f act) =
      { (act s).after with
        bus := (act s).after.bus.queueResponse
          ⟨f.source, f.payload.headD 0, k, (act s).code.code, (act s).data⟩ } := by
  simp [State.takesControl, State.hearsRequest, State.hears] at h
  obtain ⟨⟨⟨⟨⟨⟨h1, h2⟩, h3⟩, h4⟩, h5⟩, h6⟩, h7⟩ := h
  refine ⟨h1, fun act => ?_⟩
  match hp : f.payload, h6 with
  | [b], _ =>
    simp [State.hear, h2, State.noteSource, h3, State.controlRequest, h4, h5, hp, h7, State.respond]

/-- A read request that is taken is answered with its data (R167, R171). -/
theorem takesRead_spec {k : Byte} {f : RxFrame} {s : State} (h : s.takesRead k f = true) :
    s.inReset = false ∧ ∀ act : Nat → State → Answer,
      s.hear k f (State.readRequest k f act) =
        { (act (byteAt f.payload 1) s).after with
          bus := (act (byteAt f.payload 1) s).after.bus.queueResponse
            ⟨f.source, f.payload.headD 0, k, (act (byteAt f.payload 1) s).code.code,
              (act (byteAt f.payload 1) s).data⟩ } := by
  simp [State.takesRead, State.hearsRequest, State.hears] at h
  obtain ⟨⟨⟨⟨⟨h1, h2⟩, h3⟩, h4⟩, h5⟩, h6⟩ := h
  refine ⟨h1, fun act => ?_⟩
  match hp : f.payload, h6 with
  | [b, c], _ =>
    simp [State.hear, h2, State.noteSource, h3, State.readRequest, h4, h5, hp, State.respond]

/-- A broadcast control request acts and is not answered (R167). -/
theorem takesBroadcast_spec {k : Byte} {f : RxFrame} {s : State}
    (h : s.takesBroadcast k f = true) :
    s.inReset = false ∧
      ∀ act, s.hear k f (State.controlRequest k f act) = (act s).after := by
  simp [State.takesBroadcast, State.hears] at h
  obtain ⟨⟨⟨⟨⟨h1, h2⟩, h3⟩, h4⟩, h5⟩, h6⟩ := h
  refine ⟨h1, fun act => ?_⟩
  have : s.addressed f = false := by
    simp [State.addressed, h4, everyNode]
    intro h
    have := congrArg BitVec.toNat h
    simp at this
    omega
  simp [State.hear, h2, State.noteSource, h3, State.controlRequest, this, h4, h5, h6]

/-- A BAD_REQUEST answer changes the outbox, and the count of free values where the tag is missing
(R166, R167, log entry 4). -/
theorem respond_answersBad (k : Byte) (f : RxFrame) (s : State) :
    s.answersBad k f (s.respond k f .badRequest []) := by
  unfold State.respond State.answersBad
  split
  · next h =>
    exact ⟨Config.missingTag s.free, by intro b r e; simp [h] at e,
      by simp [h, Bif.queueResponse, ResponseCode.code]⟩
  · next a b h =>
    exact ⟨a, by intro b' r e; exact (List.cons.inj (h.symm.trans e)).1,
      by simp [h, Bif.queueResponse, ResponseCode.code]⟩

/-! ### The peer view -/

/-- An entry put into the view is found there, and every other slot's is found as before (R53). -/
theorem findPeer_putPeer (p : Peer) (l : List Peer) :
    findPeer p.slot (putPeer p l) = some p ∧
      ∀ n, n ≠ p.slot → findPeer n (putPeer p l) = findPeer n l := by
  induction l with
  | nil =>
    simp [putPeer, findPeer]
    intro n h h'
    exact h h'.symm
  | cons q qs ih =>
    simp only [putPeer]
    split
    · refine ⟨by simp [findPeer], ?_⟩
      intro n hn
      simp [findPeer, Ne.symm hn]
    · split
      · refine ⟨by simp [findPeer], ?_⟩
        intro n hn
        simp [findPeer, Ne.symm hn]
        rw [List.find?_cons_of_neg]
        simp
        omega
      · rename_i h1 h2
        refine ⟨?_, ?_⟩
        · simp only [findPeer] at ih ⊢
          rw [List.find?_cons_of_neg]
          exact ih.1
          simp
          omega
        · intro n hn
          simp only [findPeer] at ih ⊢
          by_cases hq : q.slot = n
          · simp [hq]
          · rw [List.find?_cons_of_neg (by simpa using hq),
              List.find?_cons_of_neg (by simpa using hq)]
            exact ih.2 n hn

/-- The entry found for a slot carries it. -/
theorem findPeer_slot {n : Nat} {l : List Peer} {p : Peer} (h : findPeer n l = some p) :
    p.slot = n := by
  simp only [findPeer] at h
  have := List.find?_some h
  simpa using this

/-- An entry changed in place: only its own slot's reading changes (R55, R56). -/
theorem findPeer_changePeer (n : Nat) (act : Peer → Peer) (hs : ∀ p, (act p).slot = p.slot)
    (l : List Peer) (m : Nat) :
    findPeer m (changePeer n act l) =
      (findPeer m l).map fun p => if p.slot = n then act p else p := by
  induction l with
  | nil => rfl
  | cons q qs ih =>
    simp only [changePeer, List.map_cons, findPeer] at ih ⊢
    by_cases hq : q.slot = m
    · rw [List.find?_cons_of_pos, List.find?_cons_of_pos (by simpa using hq)]
      rfl
      split <;> simp [hs, hq]
    · rw [List.find?_cons_of_neg, List.find?_cons_of_neg (by simpa using hq)]
      exact ih
      split <;> simp [hs, hq]

/-- A retry with nothing in its way asks the step's claim at once (R57, R62). -/
theorem beginRetry_spec (s : State) (hi : s.bgu.intent = none) (ha : s.bus.attempt = none)
    (hs : s.tmu.settled = true) (hl : s.bgu.listening = 0) (hacc : s.bgu.accumulator < 600000) :
    s.beginRetry = { s with
      rcu := { s.rcu with run := .claiming }
      bgu := { s.bgu with waitingSince := none, intent := some ⟨s.theStep.claimW, .queued⟩ }
      bus := { s.bus with budget := some ⟨.intent s.theStep.claimW true, 0⟩ } } := by
  have : min s.bgu.accumulator 599999 = s.bgu.accumulator := by omega
  simp [State.beginRetry, State.askClaim, State.withdrawIntent, hi, State.promoteIntent,
    State.mayAnnounce, hs, hl, Bif.queueBudget, Bif.attempting, ha, this, State.theStep,
    State.stepAt, State.cfg]

/-! ### The board -/

/-- A line that has followed the flags stands as they allow (R124 to R126, R129, R130). -/
theorem sync_allowed (on force : Bool) (hb : Nat) (l : Line) :
    ((l.sync on force hb).sup).allowed on force := by
  unfold Line.sync
  (repeat' split) <;> simp_all [Supervision.allowed]

/-- A refresh gives the board-on flag its condition, and no lane and no line stands where the flags
do not allow it (R17, R109, R124). -/
theorem refresh_follows (s : State) :
    s.refresh.boardOnRight ∧ s.refresh.lanesFollowBoard ∧ s.refresh.linesFollowBoard := by
  refine ⟨rfl, fun i h => ?_, fun i => ?_⟩
  · simp only [State.refresh, Quad.get_mapIdx] at h ⊢
    cases hb : s.boardOnNow
    · exact absurd (by rw [hb]; exact sync_off _ _) h
    · rfl
  · simp only [State.refresh, Quad.get_mapIdx, State.supervising]
    exact sync_allowed _ _ _ _

/-! ### Loads -/

/-- What a load takes as its bytes are read (R178): the model code and the serial alone. -/
theorem takeIds_spec (b : List Byte) (s : State) : ∃ m n,
    s.takeIds b = { s with cfl := { s.cfl with modelCode := m, serial := n } } := by
  unfold State.takeIds
  split
  · exact ⟨_, _, rfl⟩
  · exact ⟨s.cfl.modelCode, s.cfl.serial, rfl⟩

/-- What a load does as it reads on (R178): the count of the bytes read, and the model code and the
serial, which stay until ten bytes have been read. -/
theorem readOn_spec (answered : Nat) (s : State) : ∃ k m n,
    s.readOn answered = { s with cfl := { s.cfl with read := k, modelCode := m, serial := n } } ∧
    k = max s.cfl.read (min (readLimit s.cfl.memory) (s.cfl.read + answered)) ∧
    (k < 10 → m = s.cfl.modelCode ∧ n = s.cfl.serial) := by
  simp only [State.readOn, State.takeIds]
  split
  · next h =>
    exact ⟨_, _, _, rfl, rfl, fun hk => by have := h.1; rw [List.length_take] at this; omega⟩
  · exact ⟨_, _, _, rfl, rfl, fun _ => ⟨rfl, rfl⟩⟩

/-- What a millisecond boundary of a load finds read (R178): outside LOADING nothing happens, and in
LOADING one free value is used up. -/
theorem readIds_spec (s : State) : ∃ f k m n,
    s.readIds = { s with
      cfl := { s.cfl with read := k, modelCode := m, serial := n }, free := f } ∧
    s.cfl.read ≤ k ∧ (k < 10 → m = s.cfl.modelCode ∧ n = s.cfl.serial) ∧
    (s.cfl.status ≠ .loading → s.readIds = s) := by
  unfold State.readIds
  split
  · next h =>
    obtain ⟨k, m, n, e, hk, hi⟩ :=
      readOn_spec (Config.bytesAnswered s.free) { s with free := s.free + 1 }
    exact ⟨_, k, m, n, e, hk ▸ Nat.le_max_left _ _, hi, by simp [h]⟩
  · exact ⟨s.free, s.cfl.read, s.cfl.modelCode, s.cfl.serial, rfl, Nat.le_refl _,
      fun _ => ⟨rfl, rfl⟩, fun _ => rfl⟩

/-! ### Run ends -/

/-- The run end of a state that its closing has left with the run's position, clocks and view gives
what R28 asks of it. -/
theorem runEnd_ended {v : Verdict} {c : EndCause} {s s' : State} (hg : s'.fcu.groups = [])
    (h1 : s'.rcu.step = s.rcu.step ∧ s'.rcu.phase = s.rcu.phase ∧
      s'.rcu.iteration = s.rcu.iteration)
    (h2 : s'.tmu = s.tmu) (h3 : s'.bgu.peers = s.bgu.peers) : RunEnded v c s (s'.runEnd v c) := by
  obtain ⟨o, b, bn, ns, nd, lanes, lines, e, -, -, hl, -⟩ := runEnd_spec v c s'
  obtain ⟨u1, u2, u3, u4, -⟩ := runEnd_outputs s'.cfg c s'.sou
  rw [e]
  constructor <;> simp_all [Rcu.stopTimers, Rcu.dropHeld, sync_off]

end Sys2Proof.Machine
end

