-- ==== Sys2Proof/Laws/Lanes.lean ====
section
/-! SUPPORT. The code table of the lanes, said once, and the arrival of a pattern as the arrival of the
group that the table makes of it. -/

namespace Sys2Proof.Machine

/-- The numbers below 1024 are patterns of their own. -/
theorem patterns_nodup (n : Nat) (hn : n ≤ 1024) :
    ((List.range n).map (BitVec.ofNat 10)).Nodup := by
  refine List.Nodup.map_on (fun a ha b hb h => ?_) List.nodup_range
  have ha := List.mem_range.mp ha
  have hb := List.mem_range.mp hb
  have h := congrArg BitVec.toNat h
  rw [BitVec.toNat_ofNat, BitVec.toNat_ofNat, Nat.mod_eq_of_lt (by omega),
    Nat.mod_eq_of_lt (by omega)] at h
  exact h

/-- Every pattern is one of them. -/
theorem mem_patterns (p : BitVec 10) : p ∈ (List.range 1024).map (BitVec.ofNat 10) :=
  List.mem_map.mpr ⟨p.toNat, List.mem_range.mpr p.isLt, by simp⟩

/-- The patterns of a weight are distinct, and enough for a table. -/
theorem weighedPatterns_spec : weighedPatterns.Nodup ∧ (weighedPatterns.take 260).length = 260 ∧
    ∀ p ∈ weighedPatterns, (weightOf p).isSome = true := by
  refine ⟨?_, by decide +kernel, fun p hp => (List.mem_filter.mp hp).2⟩
  unfold weighedPatterns
  generalize h : 1024 = n
  exact (patterns_nodup n (by omega)).filter _

/-- R105 holds of the table, whatever the free value is. -/
theorem codeTable_isCodeTable : isCodeTable codeTable = true := by
  obtain ⟨hd, hl, hw⟩ := weighedPatterns_spec
  unfold codeTable
  split
  · assumption
  · generalize weighedPatterns = l at hd hl hw
    simp only [isCodeTable, List.all_eq_true, decide_eq_true_eq]
    exact ⟨hl, hd.sublist (List.take_sublist _ _), fun p hp => hw p (List.mem_of_mem_take hp)⟩

/-- The table has 260 groups, no two alike, each with a weight. -/
theorem codeTable_spec :
    codeTable.length = 260 ∧ codeTable.Nodup ∧ ∀ p ∈ codeTable, ∃ w, weightOf p = some w := by
  have h := codeTable_isCodeTable
  simp only [isCodeTable, List.all_eq_true, Option.isSome_iff_exists, decide_eq_true_eq] at h
  exact h

/-- A place of the table below 260 holds one of its groups. -/
theorem codeTable_getD_mem {n : Nat} (h : n < 260) : codeTable.getD n 0 ∈ codeTable := by
  have hn : n < codeTable.length := codeTable_spec.1 ▸ h
  rw [List.getD_eq_getElem _ _ hn]
  exact List.getElem_mem hn

/-- Two places of the table below 260 hold the same pattern only where they are one place. -/
theorem codeTable_getD_inj {m n : Nat} (hm : m < 260) (hn : n < 260)
    (h : codeTable.getD m 0 = codeTable.getD n 0) : m = n := by
  have hl := codeTable_spec.1
  rw [List.getD_eq_getElem _ _ (hl ▸ hm), List.getD_eq_getElem _ _ (hl ▸ hn)] at h
  exact (codeTable_spec.2.1.getElem_inj_iff).mp h

/-- A pattern of no weight is UNKNOWN (R105, R106). -/
theorem groupOf_unweighed {p : BitVec 10} (h : weightOf p = none) : groupOf p = .unknown := by
  simp [groupOf, h]

/-- The MARKER is classified as the MARKER, with its own weight (R106). -/
theorem groupOf_marker : ∃ w, weightOf markerGroup = some w ∧ groupOf markerGroup = .marker w := by
  obtain ⟨w, h⟩ := codeTable_spec.2.2 _ (codeTable_getD_mem (n := 256) (by decide))
  have h : weightOf markerGroup = some w := h
  exact ⟨w, h, by simp only [groupOf, h, if_true]⟩

/-- A group of the table at another place than the MARKER's is DATA, with its own weight (R106). -/
theorem groupOf_other {n : Nat} (h : n < 260) (hn : n ≠ 256) :
    ∃ w, weightOf (codeTable.getD n 0) = some w ∧ groupOf (codeTable.getD n 0) = .data w := by
  obtain ⟨w, hw⟩ := codeTable_spec.2.2 _ (codeTable_getD_mem h)
  have hm : codeTable.getD n 0 ≠ markerGroup := fun e =>
    hn (codeTable_getD_inj h (by decide) e)
  exact ⟨w, hw, by simp only [groupOf, hw, hm, codeTable_getD_mem h, if_true, if_false]⟩

/-- Fewer patterns than there are data groups hold five ones, so some data group is PLUS or MINUS. -/
theorem exists_data_sign : ∃ p w x, groupOf p = .data w ∧ signViolation w x = true := by
  by_contra hno
  have hn : ∀ n < 256, onesOf (codeTable.getD n 0) = 5 := fun n hn => by
    obtain ⟨w, hw, hg⟩ := groupOf_other (show n < 260 by omega) (show n ≠ 256 by omega)
    have hx := fun x => (not_and.mp fun h => hno ⟨_, w, x, h⟩) hg
    unfold weightOf at hw
    split_ifs at hw <;> cases hw
    · exact absurd rfl (hx .pos)
    · exact absurd rfl (hx .neg)
    · assumption
  have hl : (codeTable.take 256).length = 256 := by rw [List.length_take, codeTable_spec.1]; rfl
  have hsub : codeTable.take 256 ⊆
      ((List.range 1024).map (BitVec.ofNat 10)).filter (onesOf · = 5) := fun p hp => by
    obtain ⟨n, hlt, rfl⟩ := List.mem_take_iff_getElem.mp hp
    have hlt := Nat.lt_min.mp hlt
    have h5 := hn n hlt.1
    rw [List.getD_eq_getElem _ _ hlt.2] at h5
    exact List.mem_filter.mpr ⟨mem_patterns _, decide_eq_true h5⟩
  have hle := ((codeTable_spec.2.1.sublist (List.take_sublist _ _)).subperm hsub).length_le
  have hc : (((List.range 1024).map (BitVec.ofNat 10)).filter (onesOf · = 5)).length = 252 := by
    decide +kernel
  omega

/-- Out of reset the arrival of a pattern is the arrival of the group that it is. -/
theorem execCodeGroupArrival_eq {i : Fin 4} {p : BitVec 10} {g : CodeGroup} {s : State}
    (h : s.inReset = false) (hp : groupOf p = g) :
    execCodeGroupArrival i p s = .next (groupArrives i g s) :=
  hp ▸ live_next h

end Sys2Proof.Machine
end

