-- ==== Sys2Proof/Laws/State.lean ====
section
/-! SUPPORT. What each named update of the state leaves alone: one lemma per update and field, each
true by unfolding. After them the fields that the small updates of one block set. -/

namespace Sys2Proof.Machine

variable (s : State)

/-! A lane replaced. -/

@[simp] theorem setLane_pending (i : Fin 4) (l : Lane) : (s.setLane i l).pending = s.pending := rfl
@[simp] theorem setLane_inReset (i : Fin 4) (l : Lane) : (s.setLane i l).inReset = s.inReset := rfl
@[simp] theorem setLane_slot (i : Fin 4) (l : Lane) : (s.setLane i l).slot = s.slot := rfl
@[simp] theorem setLane_code (i : Fin 4) (l : Lane) : (s.setLane i l).code = s.code := rfl
@[simp] theorem setLane_rcu (i : Fin 4) (l : Lane) : (s.setLane i l).rcu = s.rcu := rfl
@[simp] theorem setLane_sou (i : Fin 4) (l : Lane) : (s.setLane i l).sou = s.sou := rfl
@[simp] theorem setLane_bgu (i : Fin 4) (l : Lane) : (s.setLane i l).bgu = s.bgu := rfl
@[simp] theorem setLane_asc (i : Fin 4) (l : Lane) : (s.setLane i l).asc = s.asc := rfl
@[simp] theorem setLane_wck (i : Fin 4) (l : Lane) : (s.setLane i l).wck = s.wck := rfl
@[simp] theorem setLane_lines (i : Fin 4) (l : Lane) : (s.setLane i l).lines = s.lines := rfl
@[simp] theorem setLane_fcu (i : Fin 4) (l : Lane) : (s.setLane i l).fcu = s.fcu := rfl
@[simp] theorem setLane_tmu (i : Fin 4) (l : Lane) : (s.setLane i l).tmu = s.tmu := rfl
@[simp] theorem setLane_bus (i : Fin 4) (l : Lane) : (s.setLane i l).bus = s.bus := rfl
@[simp] theorem setLane_cfl (i : Fin 4) (l : Lane) : (s.setLane i l).cfl = s.cfl := rfl
@[simp] theorem setLane_free (i : Fin 4) (l : Lane) : (s.setLane i l).free = s.free := rfl

/-! A line replaced. -/

@[simp] theorem setLine_pending (i : Fin 4) (l : Line) : (s.setLine i l).pending = s.pending := rfl
@[simp] theorem setLine_inReset (i : Fin 4) (l : Line) : (s.setLine i l).inReset = s.inReset := rfl
@[simp] theorem setLine_slot (i : Fin 4) (l : Line) : (s.setLine i l).slot = s.slot := rfl
@[simp] theorem setLine_code (i : Fin 4) (l : Line) : (s.setLine i l).code = s.code := rfl
@[simp] theorem setLine_rcu (i : Fin 4) (l : Line) : (s.setLine i l).rcu = s.rcu := rfl
@[simp] theorem setLine_sou (i : Fin 4) (l : Line) : (s.setLine i l).sou = s.sou := rfl
@[simp] theorem setLine_bgu (i : Fin 4) (l : Line) : (s.setLine i l).bgu = s.bgu := rfl
@[simp] theorem setLine_asc (i : Fin 4) (l : Line) : (s.setLine i l).asc = s.asc := rfl
@[simp] theorem setLine_wck (i : Fin 4) (l : Line) : (s.setLine i l).wck = s.wck := rfl
@[simp] theorem setLine_lanes (i : Fin 4) (l : Line) : (s.setLine i l).lanes = s.lanes := rfl
@[simp] theorem setLine_fcu (i : Fin 4) (l : Line) : (s.setLine i l).fcu = s.fcu := rfl
@[simp] theorem setLine_tmu (i : Fin 4) (l : Line) : (s.setLine i l).tmu = s.tmu := rfl
@[simp] theorem setLine_bus (i : Fin 4) (l : Line) : (s.setLine i l).bus = s.bus := rfl
@[simp] theorem setLine_cfl (i : Fin 4) (l : Line) : (s.setLine i l).cfl = s.cfl := rfl
@[simp] theorem setLine_free (i : Fin 4) (l : Line) : (s.setLine i l).free = s.free := rfl

/-! The start of a power-good wait (R127). -/

@[simp] theorem startWait_pending (i : Fin 4) : (s.startWait i).pending = s.pending := rfl
@[simp] theorem startWait_inReset (i : Fin 4) : (s.startWait i).inReset = s.inReset := rfl
@[simp] theorem startWait_slot (i : Fin 4) : (s.startWait i).slot = s.slot := rfl
@[simp] theorem startWait_code (i : Fin 4) : (s.startWait i).code = s.code := rfl
@[simp] theorem startWait_rcu (i : Fin 4) : (s.startWait i).rcu = s.rcu := rfl
@[simp] theorem startWait_sou (i : Fin 4) : (s.startWait i).sou = s.sou := rfl
@[simp] theorem startWait_bgu (i : Fin 4) : (s.startWait i).bgu = s.bgu := rfl
@[simp] theorem startWait_asc (i : Fin 4) : (s.startWait i).asc = s.asc := rfl
@[simp] theorem startWait_wck (i : Fin 4) : (s.startWait i).wck = s.wck := rfl
@[simp] theorem startWait_lanes (i : Fin 4) : (s.startWait i).lanes = s.lanes := rfl
@[simp] theorem startWait_fcu (i : Fin 4) : (s.startWait i).fcu = s.fcu := rfl
@[simp] theorem startWait_tmu (i : Fin 4) : (s.startWait i).tmu = s.tmu := rfl
@[simp] theorem startWait_bus (i : Fin 4) : (s.startWait i).bus = s.bus := rfl
@[simp] theorem startWait_cfl (i : Fin 4) : (s.startWait i).cfl = s.cfl := rfl
@[simp] theorem startWait_free (i : Fin 4) : (s.startWait i).free = s.free := rfl

/-! A request dropped for want of room (R167). -/

@[simp] theorem dropRequest_pending : (s.dropRequest).pending = s.pending := rfl
@[simp] theorem dropRequest_inReset : (s.dropRequest).inReset = s.inReset := rfl
@[simp] theorem dropRequest_slot : (s.dropRequest).slot = s.slot := rfl
@[simp] theorem dropRequest_code : (s.dropRequest).code = s.code := rfl
@[simp] theorem dropRequest_rcu : (s.dropRequest).rcu = s.rcu := rfl
@[simp] theorem dropRequest_sou : (s.dropRequest).sou = s.sou := rfl
@[simp] theorem dropRequest_bgu : (s.dropRequest).bgu = s.bgu := rfl
@[simp] theorem dropRequest_asc : (s.dropRequest).asc = s.asc := rfl
@[simp] theorem dropRequest_wck : (s.dropRequest).wck = s.wck := rfl
@[simp] theorem dropRequest_lanes : (s.dropRequest).lanes = s.lanes := rfl
@[simp] theorem dropRequest_lines : (s.dropRequest).lines = s.lines := rfl
@[simp] theorem dropRequest_fcu : (s.dropRequest).fcu = s.fcu := rfl
@[simp] theorem dropRequest_tmu : (s.dropRequest).tmu = s.tmu := rfl
@[simp] theorem dropRequest_cfl : (s.dropRequest).cfl = s.cfl := rfl
@[simp] theorem dropRequest_free : (s.dropRequest).free = s.free := rfl

/-! A COMMIT queued (R51). -/

@[simp] theorem queueCommit_pending : (s.queueCommit).pending = s.pending := rfl
@[simp] theorem queueCommit_inReset : (s.queueCommit).inReset = s.inReset := rfl
@[simp] theorem queueCommit_slot : (s.queueCommit).slot = s.slot := rfl
@[simp] theorem queueCommit_code : (s.queueCommit).code = s.code := rfl
@[simp] theorem queueCommit_rcu : (s.queueCommit).rcu = s.rcu := rfl
@[simp] theorem queueCommit_sou : (s.queueCommit).sou = s.sou := rfl
@[simp] theorem queueCommit_bgu : (s.queueCommit).bgu = s.bgu := rfl
@[simp] theorem queueCommit_asc : (s.queueCommit).asc = s.asc := rfl
@[simp] theorem queueCommit_wck : (s.queueCommit).wck = s.wck := rfl
@[simp] theorem queueCommit_lanes : (s.queueCommit).lanes = s.lanes := rfl
@[simp] theorem queueCommit_lines : (s.queueCommit).lines = s.lines := rfl
@[simp] theorem queueCommit_fcu : (s.queueCommit).fcu = s.fcu := rfl
@[simp] theorem queueCommit_tmu : (s.queueCommit).tmu = s.tmu := rfl
@[simp] theorem queueCommit_cfl : (s.queueCommit).cfl = s.cfl := rfl
@[simp] theorem queueCommit_free : (s.queueCommit).free = s.free := rfl

/-! A RUN notice queued (R172). -/

@[simp] theorem queueRunNotice_pending (v : Verdict) (c : EndCause) :
    (s.queueRunNotice v c).pending = s.pending := rfl
@[simp] theorem queueRunNotice_inReset (v : Verdict) (c : EndCause) :
    (s.queueRunNotice v c).inReset = s.inReset := rfl
@[simp] theorem queueRunNotice_slot (v : Verdict) (c : EndCause) :
    (s.queueRunNotice v c).slot = s.slot := rfl
@[simp] theorem queueRunNotice_code (v : Verdict) (c : EndCause) :
    (s.queueRunNotice v c).code = s.code := rfl
@[simp] theorem queueRunNotice_rcu (v : Verdict) (c : EndCause) :
    (s.queueRunNotice v c).rcu = s.rcu := rfl
@[simp] theorem queueRunNotice_sou (v : Verdict) (c : EndCause) :
    (s.queueRunNotice v c).sou = s.sou := rfl
@[simp] theorem queueRunNotice_bgu (v : Verdict) (c : EndCause) :
    (s.queueRunNotice v c).bgu = s.bgu := rfl
@[simp] theorem queueRunNotice_asc (v : Verdict) (c : EndCause) :
    (s.queueRunNotice v c).asc = s.asc := rfl
@[simp] theorem queueRunNotice_wck (v : Verdict) (c : EndCause) :
    (s.queueRunNotice v c).wck = s.wck := rfl
@[simp] theorem queueRunNotice_lanes (v : Verdict) (c : EndCause) :
    (s.queueRunNotice v c).lanes = s.lanes := rfl
@[simp] theorem queueRunNotice_lines (v : Verdict) (c : EndCause) :
    (s.queueRunNotice v c).lines = s.lines := rfl
@[simp] theorem queueRunNotice_fcu (v : Verdict) (c : EndCause) :
    (s.queueRunNotice v c).fcu = s.fcu := rfl
@[simp] theorem queueRunNotice_tmu (v : Verdict) (c : EndCause) :
    (s.queueRunNotice v c).tmu = s.tmu := rfl
@[simp] theorem queueRunNotice_cfl (v : Verdict) (c : EndCause) :
    (s.queueRunNotice v c).cfl = s.cfl := rfl
@[simp] theorem queueRunNotice_free (v : Verdict) (c : EndCause) :
    (s.queueRunNotice v c).free = s.free := rfl

/-! The committed claim set (R60, R66). -/

@[simp] theorem commitClaim_pending (w : Nat) : (s.commitClaim w).pending = s.pending := rfl
@[simp] theorem commitClaim_inReset (w : Nat) : (s.commitClaim w).inReset = s.inReset := rfl
@[simp] theorem commitClaim_slot (w : Nat) : (s.commitClaim w).slot = s.slot := rfl
@[simp] theorem commitClaim_code (w : Nat) : (s.commitClaim w).code = s.code := rfl
@[simp] theorem commitClaim_rcu (w : Nat) : (s.commitClaim w).rcu = s.rcu := rfl
@[simp] theorem commitClaim_sou (w : Nat) : (s.commitClaim w).sou = s.sou := rfl
@[simp] theorem commitClaim_asc (w : Nat) : (s.commitClaim w).asc = s.asc := rfl
@[simp] theorem commitClaim_wck (w : Nat) : (s.commitClaim w).wck = s.wck := rfl
@[simp] theorem commitClaim_lanes (w : Nat) : (s.commitClaim w).lanes = s.lanes := rfl
@[simp] theorem commitClaim_lines (w : Nat) : (s.commitClaim w).lines = s.lines := rfl
@[simp] theorem commitClaim_fcu (w : Nat) : (s.commitClaim w).fcu = s.fcu := rfl
@[simp] theorem commitClaim_tmu (w : Nat) : (s.commitClaim w).tmu = s.tmu := rfl
@[simp] theorem commitClaim_cfl (w : Nat) : (s.commitClaim w).cfl = s.cfl := rfl
@[simp] theorem commitClaim_free (w : Nat) : (s.commitClaim w).free = s.free := rfl

/-! The claim at entry to ISOLATED (R65). -/

@[simp] theorem isolateClaim_pending : (s.isolateClaim).pending = s.pending := rfl
@[simp] theorem isolateClaim_inReset : (s.isolateClaim).inReset = s.inReset := rfl
@[simp] theorem isolateClaim_slot : (s.isolateClaim).slot = s.slot := rfl
@[simp] theorem isolateClaim_code : (s.isolateClaim).code = s.code := rfl
@[simp] theorem isolateClaim_rcu : (s.isolateClaim).rcu = s.rcu := rfl
@[simp] theorem isolateClaim_sou : (s.isolateClaim).sou = s.sou := rfl
@[simp] theorem isolateClaim_asc : (s.isolateClaim).asc = s.asc := rfl
@[simp] theorem isolateClaim_wck : (s.isolateClaim).wck = s.wck := rfl
@[simp] theorem isolateClaim_lanes : (s.isolateClaim).lanes = s.lanes := rfl
@[simp] theorem isolateClaim_lines : (s.isolateClaim).lines = s.lines := rfl
@[simp] theorem isolateClaim_fcu : (s.isolateClaim).fcu = s.fcu := rfl
@[simp] theorem isolateClaim_tmu : (s.isolateClaim).tmu = s.tmu := rfl
@[simp] theorem isolateClaim_cfl : (s.isolateClaim).cfl = s.cfl := rfl
@[simp] theorem isolateClaim_free : (s.isolateClaim).free = s.free := rfl

/-! A refusal (R61). -/

@[simp] theorem refuseWindow_pending : (s.refuseWindow).pending = s.pending := rfl
@[simp] theorem refuseWindow_inReset : (s.refuseWindow).inReset = s.inReset := rfl
@[simp] theorem refuseWindow_slot : (s.refuseWindow).slot = s.slot := rfl
@[simp] theorem refuseWindow_code : (s.refuseWindow).code = s.code := rfl
@[simp] theorem refuseWindow_sou : (s.refuseWindow).sou = s.sou := rfl
@[simp] theorem refuseWindow_asc : (s.refuseWindow).asc = s.asc := rfl
@[simp] theorem refuseWindow_wck : (s.refuseWindow).wck = s.wck := rfl
@[simp] theorem refuseWindow_lanes : (s.refuseWindow).lanes = s.lanes := rfl
@[simp] theorem refuseWindow_lines : (s.refuseWindow).lines = s.lines := rfl
@[simp] theorem refuseWindow_fcu : (s.refuseWindow).fcu = s.fcu := rfl
@[simp] theorem refuseWindow_tmu : (s.refuseWindow).tmu = s.tmu := rfl
@[simp] theorem refuseWindow_cfl : (s.refuseWindow).cfl = s.cfl := rfl
@[simp] theorem refuseWindow_free : (s.refuseWindow).free = s.free := rfl

/-! A raise joins or opens a group (R140, R141). -/

@[simp] theorem joinOrOpen_pending (r : Record) : (s.joinOrOpen r).pending = s.pending := rfl
@[simp] theorem joinOrOpen_inReset (r : Record) : (s.joinOrOpen r).inReset = s.inReset := rfl
@[simp] theorem joinOrOpen_slot (r : Record) : (s.joinOrOpen r).slot = s.slot := rfl
@[simp] theorem joinOrOpen_code (r : Record) : (s.joinOrOpen r).code = s.code := rfl
@[simp] theorem joinOrOpen_rcu (r : Record) : (s.joinOrOpen r).rcu = s.rcu := rfl
@[simp] theorem joinOrOpen_sou (r : Record) : (s.joinOrOpen r).sou = s.sou := rfl
@[simp] theorem joinOrOpen_bgu (r : Record) : (s.joinOrOpen r).bgu = s.bgu := rfl
@[simp] theorem joinOrOpen_asc (r : Record) : (s.joinOrOpen r).asc = s.asc := rfl
@[simp] theorem joinOrOpen_wck (r : Record) : (s.joinOrOpen r).wck = s.wck := rfl
@[simp] theorem joinOrOpen_lanes (r : Record) : (s.joinOrOpen r).lanes = s.lanes := rfl
@[simp] theorem joinOrOpen_lines (r : Record) : (s.joinOrOpen r).lines = s.lines := rfl
@[simp] theorem joinOrOpen_tmu (r : Record) : (s.joinOrOpen r).tmu = s.tmu := rfl
@[simp] theorem joinOrOpen_bus (r : Record) : (s.joinOrOpen r).bus = s.bus := rfl
@[simp] theorem joinOrOpen_cfl (r : Record) : (s.joinOrOpen r).cfl = s.cfl := rfl
@[simp] theorem joinOrOpen_free (r : Record) : (s.joinOrOpen r).free = s.free := rfl

/-! The board-on flag, the lanes and the lines (R17). -/

@[simp] theorem refresh_pending : s.refresh.pending = s.pending := rfl
@[simp] theorem refresh_inReset : s.refresh.inReset = s.inReset := rfl
@[simp] theorem refresh_slot : s.refresh.slot = s.slot := rfl
@[simp] theorem refresh_code : s.refresh.code = s.code := rfl
@[simp] theorem refresh_sou : s.refresh.sou = s.sou := rfl
@[simp] theorem refresh_bgu : s.refresh.bgu = s.bgu := rfl
@[simp] theorem refresh_asc : s.refresh.asc = s.asc := rfl
@[simp] theorem refresh_wck : s.refresh.wck = s.wck := rfl
@[simp] theorem refresh_fcu : s.refresh.fcu = s.fcu := rfl
@[simp] theorem refresh_tmu : s.refresh.tmu = s.tmu := rfl
@[simp] theorem refresh_bus : s.refresh.bus = s.bus := rfl
@[simp] theorem refresh_cfl : s.refresh.cfl = s.cfl := rfl
@[simp] theorem refresh_free : s.refresh.free = s.free := rfl

/-! The blanking flag set (R18, R99). -/

@[simp] theorem setBlanking_pending : (s.setBlanking).pending = s.pending := rfl
@[simp] theorem setBlanking_inReset : (s.setBlanking).inReset = s.inReset := rfl
@[simp] theorem setBlanking_slot : (s.setBlanking).slot = s.slot := rfl
@[simp] theorem setBlanking_code : (s.setBlanking).code = s.code := rfl
@[simp] theorem setBlanking_sou : (s.setBlanking).sou = s.sou := rfl
@[simp] theorem setBlanking_bgu : (s.setBlanking).bgu = s.bgu := rfl
@[simp] theorem setBlanking_asc : (s.setBlanking).asc = s.asc := rfl
@[simp] theorem setBlanking_lanes : (s.setBlanking).lanes = s.lanes := rfl
@[simp] theorem setBlanking_lines : (s.setBlanking).lines = s.lines := rfl
@[simp] theorem setBlanking_fcu : (s.setBlanking).fcu = s.fcu := rfl
@[simp] theorem setBlanking_tmu : (s.setBlanking).tmu = s.tmu := rfl
@[simp] theorem setBlanking_bus : (s.setBlanking).bus = s.bus := rfl
@[simp] theorem setBlanking_cfl : (s.setBlanking).cfl = s.cfl := rfl
@[simp] theorem setBlanking_free : (s.setBlanking).free = s.free := rfl

/-! The blanking flag cleared (R18). -/

@[simp] theorem clearBlanking_pending : (s.clearBlanking).pending = s.pending := rfl
@[simp] theorem clearBlanking_inReset : (s.clearBlanking).inReset = s.inReset := rfl
@[simp] theorem clearBlanking_slot : (s.clearBlanking).slot = s.slot := rfl
@[simp] theorem clearBlanking_code : (s.clearBlanking).code = s.code := rfl
@[simp] theorem clearBlanking_sou : (s.clearBlanking).sou = s.sou := rfl
@[simp] theorem clearBlanking_bgu : (s.clearBlanking).bgu = s.bgu := rfl
@[simp] theorem clearBlanking_asc : (s.clearBlanking).asc = s.asc := rfl
@[simp] theorem clearBlanking_wck : (s.clearBlanking).wck = s.wck := rfl
@[simp] theorem clearBlanking_fcu : (s.clearBlanking).fcu = s.fcu := rfl
@[simp] theorem clearBlanking_tmu : (s.clearBlanking).tmu = s.tmu := rfl
@[simp] theorem clearBlanking_bus : (s.clearBlanking).bus = s.bus := rfl
@[simp] theorem clearBlanking_cfl : (s.clearBlanking).cfl = s.cfl := rfl
@[simp] theorem clearBlanking_free : (s.clearBlanking).free = s.free := rfl

/-! Entry to TIMING (R13). -/

@[simp] theorem enterTiming_pending : (s.enterTiming).pending = s.pending := rfl
@[simp] theorem enterTiming_inReset : (s.enterTiming).inReset = s.inReset := rfl
@[simp] theorem enterTiming_slot : (s.enterTiming).slot = s.slot := rfl
@[simp] theorem enterTiming_code : (s.enterTiming).code = s.code := rfl
@[simp] theorem enterTiming_sou : (s.enterTiming).sou = s.sou := rfl
@[simp] theorem enterTiming_bgu : (s.enterTiming).bgu = s.bgu := rfl
@[simp] theorem enterTiming_asc : (s.enterTiming).asc = s.asc := rfl
@[simp] theorem enterTiming_wck : (s.enterTiming).wck = s.wck := rfl
@[simp] theorem enterTiming_lanes : (s.enterTiming).lanes = s.lanes := rfl
@[simp] theorem enterTiming_lines : (s.enterTiming).lines = s.lines := rfl
@[simp] theorem enterTiming_fcu : (s.enterTiming).fcu = s.fcu := rfl
@[simp] theorem enterTiming_tmu : (s.enterTiming).tmu = s.tmu := rfl
@[simp] theorem enterTiming_bus : (s.enterTiming).bus = s.bus := rfl
@[simp] theorem enterTiming_cfl : (s.enterTiming).cfl = s.cfl := rfl
@[simp] theorem enterTiming_free : (s.enterTiming).free = s.free := rfl

/-! Entry to REACHING (R12, R101). -/

@[simp] theorem enterReaching_pending : (s.enterReaching).pending = s.pending := rfl
@[simp] theorem enterReaching_inReset : (s.enterReaching).inReset = s.inReset := rfl
@[simp] theorem enterReaching_slot : (s.enterReaching).slot = s.slot := rfl
@[simp] theorem enterReaching_code : (s.enterReaching).code = s.code := rfl
@[simp] theorem enterReaching_sou : (s.enterReaching).sou = s.sou := rfl
@[simp] theorem enterReaching_bgu : (s.enterReaching).bgu = s.bgu := rfl
@[simp] theorem enterReaching_asc : (s.enterReaching).asc = s.asc := rfl
@[simp] theorem enterReaching_lanes : (s.enterReaching).lanes = s.lanes := rfl
@[simp] theorem enterReaching_lines : (s.enterReaching).lines = s.lines := rfl
@[simp] theorem enterReaching_fcu : (s.enterReaching).fcu = s.fcu := rfl
@[simp] theorem enterReaching_tmu : (s.enterReaching).tmu = s.tmu := rfl
@[simp] theorem enterReaching_bus : (s.enterReaching).bus = s.bus := rfl
@[simp] theorem enterReaching_cfl : (s.enterReaching).cfl = s.cfl := rfl
@[simp] theorem enterReaching_free : (s.enterReaching).free = s.free := rfl

/-! The run history cleared (R20). -/

@[simp] theorem clearHistory_pending : (s.clearHistory).pending = s.pending := rfl
@[simp] theorem clearHistory_inReset : (s.clearHistory).inReset = s.inReset := rfl
@[simp] theorem clearHistory_slot : (s.clearHistory).slot = s.slot := rfl
@[simp] theorem clearHistory_code : (s.clearHistory).code = s.code := rfl
@[simp] theorem clearHistory_sou : (s.clearHistory).sou = s.sou := rfl
@[simp] theorem clearHistory_asc : (s.clearHistory).asc = s.asc := rfl
@[simp] theorem clearHistory_tmu : (s.clearHistory).tmu = s.tmu := rfl
@[simp] theorem clearHistory_bus : (s.clearHistory).bus = s.bus := rfl
@[simp] theorem clearHistory_cfl : (s.clearHistory).cfl = s.cfl := rfl
@[simp] theorem clearHistory_free : (s.clearHistory).free = s.free := rfl

/-! PAUSE (R21). -/

@[simp] theorem pauseRun_pending : (s.pauseRun).pending = s.pending := rfl
@[simp] theorem pauseRun_inReset : (s.pauseRun).inReset = s.inReset := rfl
@[simp] theorem pauseRun_slot : (s.pauseRun).slot = s.slot := rfl
@[simp] theorem pauseRun_code : (s.pauseRun).code = s.code := rfl
@[simp] theorem pauseRun_bgu : (s.pauseRun).bgu = s.bgu := rfl
@[simp] theorem pauseRun_asc : (s.pauseRun).asc = s.asc := rfl
@[simp] theorem pauseRun_wck : (s.pauseRun).wck = s.wck := rfl
@[simp] theorem pauseRun_fcu : (s.pauseRun).fcu = s.fcu := rfl
@[simp] theorem pauseRun_tmu : (s.pauseRun).tmu = s.tmu := rfl
@[simp] theorem pauseRun_bus : (s.pauseRun).bus = s.bus := rfl
@[simp] theorem pauseRun_cfl : (s.pauseRun).cfl = s.cfl := rfl
@[simp] theorem pauseRun_free : (s.pauseRun).free = s.free := rfl

/-! CLEAR (R24). -/

@[simp] theorem clearRun_pending : (s.clearRun).pending = s.pending := rfl
@[simp] theorem clearRun_inReset : (s.clearRun).inReset = s.inReset := rfl
@[simp] theorem clearRun_slot : (s.clearRun).slot = s.slot := rfl
@[simp] theorem clearRun_code : (s.clearRun).code = s.code := rfl
@[simp] theorem clearRun_bgu : (s.clearRun).bgu = s.bgu := rfl
@[simp] theorem clearRun_asc : (s.clearRun).asc = s.asc := rfl
@[simp] theorem clearRun_wck : (s.clearRun).wck = s.wck := rfl
@[simp] theorem clearRun_fcu : (s.clearRun).fcu = s.fcu := rfl
@[simp] theorem clearRun_tmu : (s.clearRun).tmu = s.tmu := rfl
@[simp] theorem clearRun_bus : (s.clearRun).bus = s.bus := rfl
@[simp] theorem clearRun_cfl : (s.clearRun).cfl = s.cfl := rfl
@[simp] theorem clearRun_free : (s.clearRun).free = s.free := rfl

/-! The millisecond boundary (R152). -/

@[simp] theorem tickTimers_pending : (s.tickTimers).pending = s.pending := rfl
@[simp] theorem tickTimers_inReset : (s.tickTimers).inReset = s.inReset := rfl
@[simp] theorem tickTimers_slot : (s.tickTimers).slot = s.slot := rfl
@[simp] theorem tickTimers_code : (s.tickTimers).code = s.code := rfl
@[simp] theorem tickTimers_asc : (s.tickTimers).asc = s.asc := rfl
@[simp] theorem tickTimers_wck : (s.tickTimers).wck = s.wck := rfl
@[simp] theorem tickTimers_lanes : (s.tickTimers).lanes = s.lanes := rfl
@[simp] theorem tickTimers_free : (s.tickTimers).free = s.free := rfl

/-! The start of a load (R178). -/

@[simp] theorem startLoad_pending : (s.startLoad).pending = s.pending := rfl
@[simp] theorem startLoad_inReset : (s.startLoad).inReset = s.inReset := rfl
@[simp] theorem startLoad_slot : (s.startLoad).slot = s.slot := rfl
@[simp] theorem startLoad_code : (s.startLoad).code = s.code := rfl
@[simp] theorem startLoad_rcu : (s.startLoad).rcu = s.rcu := rfl
@[simp] theorem startLoad_sou : (s.startLoad).sou = s.sou := rfl
@[simp] theorem startLoad_bgu : (s.startLoad).bgu = s.bgu := rfl
@[simp] theorem startLoad_wck : (s.startLoad).wck = s.wck := rfl
@[simp] theorem startLoad_lanes : (s.startLoad).lanes = s.lanes := rfl
@[simp] theorem startLoad_lines : (s.startLoad).lines = s.lines := rfl
@[simp] theorem startLoad_fcu : (s.startLoad).fcu = s.fcu := rfl
@[simp] theorem startLoad_tmu : (s.startLoad).tmu = s.tmu := rfl
@[simp] theorem startLoad_bus : (s.startLoad).bus = s.bus := rfl
@[simp] theorem startLoad_free : (s.startLoad).free = s.free := rfl

/-! The failure of a load (R178). -/

@[simp] theorem failLoad_pending (r : Reason) : (s.failLoad r).pending = s.pending := rfl
@[simp] theorem failLoad_inReset (r : Reason) : (s.failLoad r).inReset = s.inReset := rfl
@[simp] theorem failLoad_slot (r : Reason) : (s.failLoad r).slot = s.slot := rfl
@[simp] theorem failLoad_code (r : Reason) : (s.failLoad r).code = s.code := rfl
@[simp] theorem failLoad_rcu (r : Reason) : (s.failLoad r).rcu = s.rcu := rfl
@[simp] theorem failLoad_sou (r : Reason) : (s.failLoad r).sou = s.sou := rfl
@[simp] theorem failLoad_bgu (r : Reason) : (s.failLoad r).bgu = s.bgu := rfl
@[simp] theorem failLoad_asc (r : Reason) : (s.failLoad r).asc = s.asc := rfl
@[simp] theorem failLoad_wck (r : Reason) : (s.failLoad r).wck = s.wck := rfl
@[simp] theorem failLoad_lanes (r : Reason) : (s.failLoad r).lanes = s.lanes := rfl
@[simp] theorem failLoad_lines (r : Reason) : (s.failLoad r).lines = s.lines := rfl
@[simp] theorem failLoad_fcu (r : Reason) : (s.failLoad r).fcu = s.fcu := rfl
@[simp] theorem failLoad_tmu (r : Reason) : (s.failLoad r).tmu = s.tmu := rfl
@[simp] theorem failLoad_bus (r : Reason) : (s.failLoad r).bus = s.bus := rfl
@[simp] theorem failLoad_free (r : Reason) : (s.failLoad r).free = s.free := rfl

/-! The status becoming ABSENT (R182). -/

@[simp] theorem unloadFixture_pending : (s.unloadFixture).pending = s.pending := rfl
@[simp] theorem unloadFixture_inReset : (s.unloadFixture).inReset = s.inReset := rfl
@[simp] theorem unloadFixture_slot : (s.unloadFixture).slot = s.slot := rfl
@[simp] theorem unloadFixture_code : (s.unloadFixture).code = s.code := rfl
@[simp] theorem unloadFixture_rcu : (s.unloadFixture).rcu = s.rcu := rfl
@[simp] theorem unloadFixture_sou : (s.unloadFixture).sou = s.sou := rfl
@[simp] theorem unloadFixture_bgu : (s.unloadFixture).bgu = s.bgu := rfl
@[simp] theorem unloadFixture_wck : (s.unloadFixture).wck = s.wck := rfl
@[simp] theorem unloadFixture_lanes : (s.unloadFixture).lanes = s.lanes := rfl
@[simp] theorem unloadFixture_fcu : (s.unloadFixture).fcu = s.fcu := rfl
@[simp] theorem unloadFixture_tmu : (s.unloadFixture).tmu = s.tmu := rfl
@[simp] theorem unloadFixture_bus : (s.unloadFixture).bus = s.bus := rfl
@[simp] theorem unloadFixture_free : (s.unloadFixture).free = s.free := rfl

/-! The configuration in force and the step in progress, which most updates leave alone. -/

@[simp] theorem setLane_cfg (i : Fin 4) (l : Lane) : (s.setLane i l).cfg = s.cfg := rfl
@[simp] theorem setLane_theStep (i : Fin 4) (l : Lane) : (s.setLane i l).theStep = s.theStep := rfl
@[simp] theorem setLane_policyStep (i : Fin 4) (l : Lane) :
    (s.setLane i l).policyStep = s.policyStep := rfl
@[simp] theorem setLine_cfg (i : Fin 4) (l : Line) : (s.setLine i l).cfg = s.cfg := rfl
@[simp] theorem setLine_theStep (i : Fin 4) (l : Line) : (s.setLine i l).theStep = s.theStep := rfl
@[simp] theorem setLine_policyStep (i : Fin 4) (l : Line) :
    (s.setLine i l).policyStep = s.policyStep := rfl
@[simp] theorem startWait_cfg (i : Fin 4) : (s.startWait i).cfg = s.cfg := rfl
@[simp] theorem startWait_theStep (i : Fin 4) : (s.startWait i).theStep = s.theStep := rfl
@[simp] theorem startWait_policyStep (i : Fin 4) : (s.startWait i).policyStep = s.policyStep := rfl
@[simp] theorem dropRequest_cfg : (s.dropRequest).cfg = s.cfg := rfl
@[simp] theorem dropRequest_theStep : (s.dropRequest).theStep = s.theStep := rfl
@[simp] theorem dropRequest_policyStep : (s.dropRequest).policyStep = s.policyStep := rfl
@[simp] theorem queueCommit_cfg : (s.queueCommit).cfg = s.cfg := rfl
@[simp] theorem queueCommit_theStep : (s.queueCommit).theStep = s.theStep := rfl
@[simp] theorem queueCommit_policyStep : (s.queueCommit).policyStep = s.policyStep := rfl
@[simp] theorem queueRunNotice_cfg (v : Verdict) (c : EndCause) :
    (s.queueRunNotice v c).cfg = s.cfg := rfl
@[simp] theorem queueRunNotice_theStep (v : Verdict) (c : EndCause) :
    (s.queueRunNotice v c).theStep = s.theStep := rfl
@[simp] theorem queueRunNotice_policyStep (v : Verdict) (c : EndCause) :
    (s.queueRunNotice v c).policyStep = s.policyStep := rfl
@[simp] theorem commitClaim_cfg (w : Nat) : (s.commitClaim w).cfg = s.cfg := rfl
@[simp] theorem commitClaim_theStep (w : Nat) : (s.commitClaim w).theStep = s.theStep := rfl
@[simp] theorem commitClaim_policyStep (w : Nat) :
    (s.commitClaim w).policyStep = s.policyStep := rfl
@[simp] theorem isolateClaim_cfg : (s.isolateClaim).cfg = s.cfg := rfl
@[simp] theorem isolateClaim_theStep : (s.isolateClaim).theStep = s.theStep := rfl
@[simp] theorem isolateClaim_policyStep : (s.isolateClaim).policyStep = s.policyStep := rfl
@[simp] theorem refuseWindow_cfg : (s.refuseWindow).cfg = s.cfg := rfl
@[simp] theorem refuseWindow_theStep : (s.refuseWindow).theStep = s.theStep := rfl
@[simp] theorem refuseWindow_policyStep : (s.refuseWindow).policyStep = s.policyStep := rfl
@[simp] theorem joinOrOpen_cfg (r : Record) : (s.joinOrOpen r).cfg = s.cfg := rfl
@[simp] theorem joinOrOpen_theStep (r : Record) : (s.joinOrOpen r).theStep = s.theStep := rfl
@[simp] theorem joinOrOpen_policyStep (r : Record) :
    (s.joinOrOpen r).policyStep = s.policyStep := rfl
@[simp] theorem refresh_cfg : s.refresh.cfg = s.cfg := rfl
@[simp] theorem refresh_theStep : s.refresh.theStep = s.theStep := rfl
@[simp] theorem refresh_policyStep : s.refresh.policyStep = s.policyStep := rfl
@[simp] theorem setBlanking_cfg : (s.setBlanking).cfg = s.cfg := rfl
@[simp] theorem setBlanking_theStep : (s.setBlanking).theStep = s.theStep := rfl
@[simp] theorem setBlanking_policyStep : (s.setBlanking).policyStep = s.policyStep := rfl
@[simp] theorem clearBlanking_cfg : (s.clearBlanking).cfg = s.cfg := rfl
@[simp] theorem clearBlanking_theStep : (s.clearBlanking).theStep = s.theStep := rfl
@[simp] theorem clearBlanking_policyStep : (s.clearBlanking).policyStep = s.policyStep := rfl
@[simp] theorem enterTiming_cfg : (s.enterTiming).cfg = s.cfg := rfl
@[simp] theorem enterTiming_theStep : (s.enterTiming).theStep = s.theStep := rfl
@[simp] theorem enterTiming_policyStep : (s.enterTiming).policyStep = s.policyStep := rfl
@[simp] theorem enterReaching_cfg : (s.enterReaching).cfg = s.cfg := rfl
@[simp] theorem enterReaching_theStep : (s.enterReaching).theStep = s.theStep := rfl
@[simp] theorem enterReaching_policyStep : (s.enterReaching).policyStep = s.policyStep := rfl
@[simp] theorem clearHistory_cfg : (s.clearHistory).cfg = s.cfg := rfl
@[simp] theorem clearHistory_theStep : (s.clearHistory).theStep = s.theStep := rfl
@[simp] theorem clearHistory_policyStep : (s.clearHistory).policyStep = s.policyStep := rfl
@[simp] theorem pauseRun_cfg : (s.pauseRun).cfg = s.cfg := rfl
@[simp] theorem pauseRun_theStep : (s.pauseRun).theStep = s.theStep := rfl
@[simp] theorem pauseRun_policyStep : (s.pauseRun).policyStep = s.policyStep := rfl
@[simp] theorem clearRun_cfg : (s.clearRun).cfg = s.cfg := rfl
@[simp] theorem clearRun_policyStep : (s.clearRun).policyStep = s.policyStep := rfl

/-! The Run Controller's updates, field by field. -/

@[simp] theorem refresh_rcu_run : s.refresh.rcu.run = s.rcu.run := rfl
@[simp] theorem refresh_rcu_step : s.refresh.rcu.step = s.rcu.step := rfl
@[simp] theorem refresh_rcu_phase : s.refresh.rcu.phase = s.rcu.phase := rfl
@[simp] theorem refresh_rcu_iteration : s.refresh.rcu.iteration = s.rcu.iteration := rfl
@[simp] theorem refresh_rcu_governing : s.refresh.rcu.governing = s.rcu.governing := rfl
@[simp] theorem refresh_rcu_duration : s.refresh.rcu.duration = s.rcu.duration := rfl
@[simp] theorem refresh_rcu_reach : s.refresh.rcu.reach = s.rcu.reach := rfl
@[simp] theorem refresh_rcu_off : s.refresh.rcu.off = s.rcu.off := rfl
@[simp] theorem refresh_rcu_on : s.refresh.rcu.on = s.rcu.on := rfl
@[simp] theorem refresh_rcu_blankingTimer :
    s.refresh.rcu.blankingTimer = s.rcu.blankingTimer := rfl
@[simp] theorem refresh_rcu_arrivalTaken : s.refresh.rcu.arrivalTaken = s.rcu.arrivalTaken := rfl
@[simp] theorem refresh_rcu_powerOnPending :
    s.refresh.rcu.powerOnPending = s.rcu.powerOnPending := rfl
@[simp] theorem refresh_rcu_verdict : s.refresh.rcu.verdict = s.rcu.verdict := rfl
@[simp] theorem refresh_rcu_cause : s.refresh.rcu.cause = s.rcu.cause := rfl
@[simp] theorem refresh_rcu_blanking : s.refresh.rcu.blanking = s.rcu.blanking := rfl
@[simp] theorem refresh_rcu_boardOn : s.refresh.rcu.boardOn = s.boardOnNow := rfl
@[simp] theorem refresh_rcu_clamped : s.refresh.rcu.clamped = s.rcu.clamped := rfl
@[simp] theorem refresh_rcu_heldPowerOn : s.refresh.rcu.heldPowerOn = s.rcu.heldPowerOn := rfl
@[simp] theorem refresh_rcu_heldReach : s.refresh.rcu.heldReach = s.rcu.heldReach := rfl
@[simp] theorem refresh_rcu_heldOn : s.refresh.rcu.heldOn = s.rcu.heldOn := rfl
@[simp] theorem refresh_rcu_isolatedRun : s.refresh.rcu.isolatedRun = s.rcu.isolatedRun := rfl
@[simp] theorem refresh_rcu_switchClosed : s.refresh.rcu.switchClosed = s.rcu.switchClosed := rfl
@[simp] theorem setBlanking_rcu_run : (s.setBlanking).rcu.run = s.rcu.run := rfl
@[simp] theorem setBlanking_rcu_step : (s.setBlanking).rcu.step = s.rcu.step := rfl
@[simp] theorem setBlanking_rcu_phase : (s.setBlanking).rcu.phase = s.rcu.phase := rfl
@[simp] theorem setBlanking_rcu_iteration : (s.setBlanking).rcu.iteration = s.rcu.iteration := rfl
@[simp] theorem setBlanking_rcu_governing : (s.setBlanking).rcu.governing = s.rcu.governing := rfl
@[simp] theorem setBlanking_rcu_duration : (s.setBlanking).rcu.duration = s.rcu.duration := rfl
@[simp] theorem setBlanking_rcu_reach : (s.setBlanking).rcu.reach = s.rcu.reach := rfl
@[simp] theorem setBlanking_rcu_off : (s.setBlanking).rcu.off = s.rcu.off := rfl
@[simp] theorem setBlanking_rcu_on : (s.setBlanking).rcu.on = s.rcu.on := rfl
@[simp] theorem setBlanking_rcu_blankingTimer :
    (s.setBlanking).rcu.blankingTimer = s.rcu.blankingTimer := rfl
@[simp] theorem setBlanking_rcu_arrivalTaken :
    (s.setBlanking).rcu.arrivalTaken = s.rcu.arrivalTaken := rfl
@[simp] theorem setBlanking_rcu_powerOnPending :
    (s.setBlanking).rcu.powerOnPending = s.rcu.powerOnPending := rfl
@[simp] theorem setBlanking_rcu_verdict : (s.setBlanking).rcu.verdict = s.rcu.verdict := rfl
@[simp] theorem setBlanking_rcu_cause : (s.setBlanking).rcu.cause = s.rcu.cause := rfl
@[simp] theorem setBlanking_rcu_blanking : (s.setBlanking).rcu.blanking = true := rfl
@[simp] theorem setBlanking_rcu_boardOn : (s.setBlanking).rcu.boardOn = s.rcu.boardOn := rfl
@[simp] theorem setBlanking_rcu_clamped : (s.setBlanking).rcu.clamped = s.rcu.clamped := rfl
@[simp] theorem setBlanking_rcu_heldPowerOn :
    (s.setBlanking).rcu.heldPowerOn = s.rcu.heldPowerOn := rfl
@[simp] theorem setBlanking_rcu_heldReach : (s.setBlanking).rcu.heldReach = s.rcu.heldReach := rfl
@[simp] theorem setBlanking_rcu_heldOn : (s.setBlanking).rcu.heldOn = s.rcu.heldOn := rfl
@[simp] theorem setBlanking_rcu_isolatedRun :
    (s.setBlanking).rcu.isolatedRun = s.rcu.isolatedRun := rfl
@[simp] theorem setBlanking_rcu_switchClosed :
    (s.setBlanking).rcu.switchClosed = s.rcu.switchClosed := rfl
@[simp] theorem enterTiming_rcu_run : (s.enterTiming).rcu.run = s.rcu.run := rfl
@[simp] theorem enterTiming_rcu_step : (s.enterTiming).rcu.step = s.rcu.step := rfl
@[simp] theorem enterTiming_rcu_phase : (s.enterTiming).rcu.phase = .timing := rfl
@[simp] theorem enterTiming_rcu_iteration : (s.enterTiming).rcu.iteration = s.rcu.iteration := rfl
@[simp] theorem enterTiming_rcu_governing : (s.enterTiming).rcu.governing = s.rcu.governing := rfl
@[simp] theorem enterTiming_rcu_duration :
    (s.enterTiming).rcu.duration = some (s.theStep.durationS * 1000) := rfl
@[simp] theorem enterTiming_rcu_reach : (s.enterTiming).rcu.reach = .none := rfl
@[simp] theorem enterTiming_rcu_off : (s.enterTiming).rcu.off = s.rcu.off := rfl
@[simp] theorem enterTiming_rcu_on : (s.enterTiming).rcu.on = s.rcu.on := rfl
@[simp] theorem enterTiming_rcu_blankingTimer :
    (s.enterTiming).rcu.blankingTimer = s.rcu.blankingTimer := rfl
@[simp] theorem enterTiming_rcu_arrivalTaken :
    (s.enterTiming).rcu.arrivalTaken = s.rcu.arrivalTaken := rfl
@[simp] theorem enterTiming_rcu_powerOnPending :
    (s.enterTiming).rcu.powerOnPending = s.rcu.powerOnPending := rfl
@[simp] theorem enterTiming_rcu_verdict : (s.enterTiming).rcu.verdict = s.rcu.verdict := rfl
@[simp] theorem enterTiming_rcu_cause : (s.enterTiming).rcu.cause = s.rcu.cause := rfl
@[simp] theorem enterTiming_rcu_blanking : (s.enterTiming).rcu.blanking = s.rcu.blanking := rfl
@[simp] theorem enterTiming_rcu_boardOn : (s.enterTiming).rcu.boardOn = s.rcu.boardOn := rfl
@[simp] theorem enterTiming_rcu_clamped : (s.enterTiming).rcu.clamped = s.rcu.clamped := rfl
@[simp] theorem enterTiming_rcu_heldPowerOn :
    (s.enterTiming).rcu.heldPowerOn = s.rcu.heldPowerOn := rfl
@[simp] theorem enterTiming_rcu_heldReach : (s.enterTiming).rcu.heldReach = s.rcu.heldReach := rfl
@[simp] theorem enterTiming_rcu_heldOn : (s.enterTiming).rcu.heldOn = s.rcu.heldOn := rfl
@[simp] theorem enterTiming_rcu_isolatedRun :
    (s.enterTiming).rcu.isolatedRun = s.rcu.isolatedRun := rfl
@[simp] theorem enterTiming_rcu_switchClosed :
    (s.enterTiming).rcu.switchClosed = s.rcu.switchClosed := rfl
@[simp] theorem enterReaching_rcu_run : (s.enterReaching).rcu.run = s.rcu.run := rfl
@[simp] theorem enterReaching_rcu_step : (s.enterReaching).rcu.step = s.rcu.step := rfl
@[simp] theorem enterReaching_rcu_phase : (s.enterReaching).rcu.phase = .reaching := rfl
@[simp] theorem enterReaching_rcu_iteration :
    (s.enterReaching).rcu.iteration = s.rcu.iteration := rfl
@[simp] theorem enterReaching_rcu_governing :
    (s.enterReaching).rcu.governing = s.rcu.governing := rfl
@[simp] theorem enterReaching_rcu_duration : (s.enterReaching).rcu.duration = s.rcu.duration := rfl
@[simp] theorem enterReaching_rcu_reach :
    (s.enterReaching).rcu.reach = some (s.theStep.reachTimeoutS * 1000) := rfl
@[simp] theorem enterReaching_rcu_off : (s.enterReaching).rcu.off = s.rcu.off := rfl
@[simp] theorem enterReaching_rcu_on : (s.enterReaching).rcu.on = s.rcu.on := rfl
@[simp] theorem enterReaching_rcu_blankingTimer :
    (s.enterReaching).rcu.blankingTimer = s.rcu.blankingTimer := rfl
@[simp] theorem enterReaching_rcu_arrivalTaken :
    (s.enterReaching).rcu.arrivalTaken = s.rcu.arrivalTaken := rfl
@[simp] theorem enterReaching_rcu_powerOnPending :
    (s.enterReaching).rcu.powerOnPending = s.rcu.powerOnPending := rfl
@[simp] theorem enterReaching_rcu_verdict : (s.enterReaching).rcu.verdict = s.rcu.verdict := rfl
@[simp] theorem enterReaching_rcu_cause : (s.enterReaching).rcu.cause = s.rcu.cause := rfl
@[simp] theorem enterReaching_rcu_blanking : (s.enterReaching).rcu.blanking = s.rcu.blanking := rfl
@[simp] theorem enterReaching_rcu_boardOn : (s.enterReaching).rcu.boardOn = s.rcu.boardOn := rfl
@[simp] theorem enterReaching_rcu_clamped : (s.enterReaching).rcu.clamped = s.rcu.clamped := rfl
@[simp] theorem enterReaching_rcu_heldPowerOn :
    (s.enterReaching).rcu.heldPowerOn = s.rcu.heldPowerOn := rfl
@[simp] theorem enterReaching_rcu_heldReach :
    (s.enterReaching).rcu.heldReach = s.rcu.heldReach := rfl
@[simp] theorem enterReaching_rcu_heldOn : (s.enterReaching).rcu.heldOn = s.rcu.heldOn := rfl
@[simp] theorem enterReaching_rcu_isolatedRun :
    (s.enterReaching).rcu.isolatedRun = s.rcu.isolatedRun := rfl
@[simp] theorem enterReaching_rcu_switchClosed :
    (s.enterReaching).rcu.switchClosed = s.rcu.switchClosed := rfl
@[simp] theorem Rcu.stopTimers_run (r : Rcu) : r.stopTimers.run = r.run := rfl
@[simp] theorem Rcu.stopTimers_step (r : Rcu) : r.stopTimers.step = r.step := rfl
@[simp] theorem Rcu.stopTimers_phase (r : Rcu) : r.stopTimers.phase = r.phase := rfl
@[simp] theorem Rcu.stopTimers_iteration (r : Rcu) : r.stopTimers.iteration = r.iteration := rfl
@[simp] theorem Rcu.stopTimers_governing (r : Rcu) : r.stopTimers.governing = r.governing := rfl
@[simp] theorem Rcu.stopTimers_duration (r : Rcu) : r.stopTimers.duration = .none := rfl
@[simp] theorem Rcu.stopTimers_reach (r : Rcu) : r.stopTimers.reach = .none := rfl
@[simp] theorem Rcu.stopTimers_off (r : Rcu) : r.stopTimers.off = .none := rfl
@[simp] theorem Rcu.stopTimers_on (r : Rcu) : r.stopTimers.on = .none := rfl
@[simp] theorem Rcu.stopTimers_blankingTimer (r : Rcu) : r.stopTimers.blankingTimer = .none := rfl
@[simp] theorem Rcu.stopTimers_arrivalTaken (r : Rcu) :
    r.stopTimers.arrivalTaken = r.arrivalTaken := rfl
@[simp] theorem Rcu.stopTimers_powerOnPending (r : Rcu) :
    r.stopTimers.powerOnPending = r.powerOnPending := rfl
@[simp] theorem Rcu.stopTimers_verdict (r : Rcu) : r.stopTimers.verdict = r.verdict := rfl
@[simp] theorem Rcu.stopTimers_cause (r : Rcu) : r.stopTimers.cause = r.cause := rfl
@[simp] theorem Rcu.stopTimers_blanking (r : Rcu) : r.stopTimers.blanking = r.blanking := rfl
@[simp] theorem Rcu.stopTimers_boardOn (r : Rcu) : r.stopTimers.boardOn = r.boardOn := rfl
@[simp] theorem Rcu.stopTimers_clamped (r : Rcu) : r.stopTimers.clamped = r.clamped := rfl
@[simp] theorem Rcu.stopTimers_heldPowerOn (r : Rcu) :
    r.stopTimers.heldPowerOn = r.heldPowerOn := rfl
@[simp] theorem Rcu.stopTimers_heldReach (r : Rcu) : r.stopTimers.heldReach = r.heldReach := rfl
@[simp] theorem Rcu.stopTimers_heldOn (r : Rcu) : r.stopTimers.heldOn = r.heldOn := rfl
@[simp] theorem Rcu.stopTimers_isolatedRun (r : Rcu) :
    r.stopTimers.isolatedRun = r.isolatedRun := rfl
@[simp] theorem Rcu.stopTimers_switchClosed (r : Rcu) :
    r.stopTimers.switchClosed = r.switchClosed := rfl
@[simp] theorem Rcu.dropHeld_run (r : Rcu) : r.dropHeld.run = r.run := rfl
@[simp] theorem Rcu.dropHeld_step (r : Rcu) : r.dropHeld.step = r.step := rfl
@[simp] theorem Rcu.dropHeld_phase (r : Rcu) : r.dropHeld.phase = r.phase := rfl
@[simp] theorem Rcu.dropHeld_iteration (r : Rcu) : r.dropHeld.iteration = r.iteration := rfl
@[simp] theorem Rcu.dropHeld_governing (r : Rcu) : r.dropHeld.governing = r.governing := rfl
@[simp] theorem Rcu.dropHeld_duration (r : Rcu) : r.dropHeld.duration = r.duration := rfl
@[simp] theorem Rcu.dropHeld_reach (r : Rcu) : r.dropHeld.reach = r.reach := rfl
@[simp] theorem Rcu.dropHeld_off (r : Rcu) : r.dropHeld.off = r.off := rfl
@[simp] theorem Rcu.dropHeld_on (r : Rcu) : r.dropHeld.on = r.on := rfl
@[simp] theorem Rcu.dropHeld_blankingTimer (r : Rcu) :
    r.dropHeld.blankingTimer = r.blankingTimer := rfl
@[simp] theorem Rcu.dropHeld_arrivalTaken (r : Rcu) :
    r.dropHeld.arrivalTaken = r.arrivalTaken := rfl
@[simp] theorem Rcu.dropHeld_powerOnPending (r : Rcu) :
    r.dropHeld.powerOnPending = r.powerOnPending := rfl
@[simp] theorem Rcu.dropHeld_verdict (r : Rcu) : r.dropHeld.verdict = r.verdict := rfl
@[simp] theorem Rcu.dropHeld_cause (r : Rcu) : r.dropHeld.cause = r.cause := rfl
@[simp] theorem Rcu.dropHeld_blanking (r : Rcu) : r.dropHeld.blanking = r.blanking := rfl
@[simp] theorem Rcu.dropHeld_boardOn (r : Rcu) : r.dropHeld.boardOn = r.boardOn := rfl
@[simp] theorem Rcu.dropHeld_clamped (r : Rcu) : r.dropHeld.clamped = r.clamped := rfl
@[simp] theorem Rcu.dropHeld_heldPowerOn (r : Rcu) : r.dropHeld.heldPowerOn = false := rfl
@[simp] theorem Rcu.dropHeld_heldReach (r : Rcu) : r.dropHeld.heldReach = false := rfl
@[simp] theorem Rcu.dropHeld_heldOn (r : Rcu) : r.dropHeld.heldOn = false := rfl
@[simp] theorem Rcu.dropHeld_isolatedRun (r : Rcu) : r.dropHeld.isolatedRun = r.isolatedRun := rfl
@[simp] theorem Rcu.dropHeld_switchClosed (r : Rcu) :
    r.dropHeld.switchClosed = r.switchClosed := rfl

/-! The lanes and lines, one at a time. -/

@[simp] theorem Lane.enterSearch_lock (l : Lane) : (l.enterSearch).lock = .search := rfl
@[simp] theorem Lane.enterSearch_sign (l : Lane) : (l.enterSearch).sign = .undetermined := rfl
@[simp] theorem Lane.enterSearch_searchRun (l : Lane) : (l.enterSearch).searchRun = 0 := rfl
@[simp] theorem Lane.enterSearch_unknownRun (l : Lane) : (l.enterSearch).unknownRun = 0 := rfl
@[simp] theorem Lane.enterSearch_distance (l : Lane) : (l.enterSearch).distance = .none := rfl
@[simp] theorem Lane.enterSearch_framePosition (l : Lane) : (l.enterSearch).framePosition = 0 := rfl
@[simp] theorem Lane.enterSearch_markErrorRun (l : Lane) : (l.enterSearch).markErrorRun = 0 := rfl
@[simp] theorem Lane.enterSearch_signErrors (l : Lane) :
    (l.enterSearch).signErrors = l.signErrors := rfl
@[simp] theorem Lane.enterSearch_codeErrors (l : Lane) :
    (l.enterSearch).codeErrors = l.codeErrors := rfl
@[simp] theorem Lane.enterSearch_markErrors (l : Lane) :
    (l.enterSearch).markErrors = l.markErrors := rfl
@[simp] theorem Lane.enterSearch_lockLosses (l : Lane) :
    (l.enterSearch).lockLosses = l.lockLosses := rfl
@[simp] theorem Lane.clearHistory_lock (l : Lane) : (l.clearHistory).lock = l.lock := rfl
@[simp] theorem Lane.clearHistory_sign (l : Lane) : (l.clearHistory).sign = l.sign := rfl
@[simp] theorem Lane.clearHistory_searchRun (l : Lane) :
    (l.clearHistory).searchRun = l.searchRun := rfl
@[simp] theorem Lane.clearHistory_unknownRun (l : Lane) :
    (l.clearHistory).unknownRun = l.unknownRun := rfl
@[simp] theorem Lane.clearHistory_distance (l : Lane) :
    (l.clearHistory).distance = l.distance := rfl
@[simp] theorem Lane.clearHistory_framePosition (l : Lane) :
    (l.clearHistory).framePosition = l.framePosition := rfl
@[simp] theorem Lane.clearHistory_markErrorRun (l : Lane) :
    (l.clearHistory).markErrorRun = l.markErrorRun := rfl
@[simp] theorem Lane.clearHistory_signErrors (l : Lane) :
    (l.clearHistory).signErrors = ⟨0, false⟩ := rfl
@[simp] theorem Lane.clearHistory_codeErrors (l : Lane) :
    (l.clearHistory).codeErrors = ⟨0, false⟩ := rfl
@[simp] theorem Lane.clearHistory_markErrors (l : Lane) :
    (l.clearHistory).markErrors = ⟨0, false⟩ := rfl
@[simp] theorem Lane.clearHistory_lockLosses (l : Lane) : (l.clearHistory).lockLosses = 0 := rfl
@[simp] theorem Line.clearHistory_high (l : Line) : (l.clearHistory).high = l.high := rfl
@[simp] theorem Line.clearHistory_pulses (l : Line) : (l.clearHistory).pulses = 0 := rfl
@[simp] theorem Line.clearHistory_riseRack (l : Line) : (l.clearHistory).riseRack = .none := rfl
@[simp] theorem Line.clearHistory_riseUptime (l : Line) : (l.clearHistory).riseUptime = .none := rfl
@[simp] theorem Line.clearHistory_sup (l : Line) : (l.clearHistory).sup = l.sup.first := rfl
@[simp] theorem Line.clearHistory_timer (l : Line) : (l.clearHistory).timer = .none := rfl
@[simp] theorem Line.clearHistory_windowCount (l : Line) :
    (l.clearHistory).windowCount = l.windowCount := rfl
@[simp] theorem Line.clearHistory_episodes (l : Line) : (l.clearHistory).episodes = 0 := rfl
@[simp] theorem Line.unload_high (l : Line) : (l.unload).high = l.high := rfl
@[simp] theorem Line.unload_pulses (l : Line) : (l.unload).pulses = l.pulses := rfl
@[simp] theorem Line.unload_riseRack (l : Line) : (l.unload).riseRack = l.riseRack := rfl
@[simp] theorem Line.unload_riseUptime (l : Line) : (l.unload).riseUptime = l.riseUptime := rfl
@[simp] theorem Line.unload_sup (l : Line) : (l.unload).sup = .unused := rfl
@[simp] theorem Line.unload_timer (l : Line) : (l.unload).timer = .none := rfl
@[simp] theorem Line.unload_windowCount (l : Line) : (l.unload).windowCount = l.windowCount := rfl
@[simp] theorem Line.unload_episodes (l : Line) : (l.unload).episodes = l.episodes := rfl
@[simp] theorem Line.episode_high (l : Line) : (l.episode).high = l.high := rfl
@[simp] theorem Line.episode_pulses (l : Line) : (l.episode).pulses = l.pulses := rfl
@[simp] theorem Line.episode_riseRack (l : Line) : (l.episode).riseRack = l.riseRack := rfl
@[simp] theorem Line.episode_riseUptime (l : Line) : (l.episode).riseUptime = l.riseUptime := rfl
@[simp] theorem Line.episode_sup (l : Line) : (l.episode).sup = l.sup := rfl
@[simp] theorem Line.episode_timer (l : Line) : (l.episode).timer = l.timer := rfl
@[simp] theorem Line.episode_windowCount (l : Line) : (l.episode).windowCount = l.windowCount := rfl
@[simp] theorem Line.episode_episodes (l : Line) :
    (l.episode).episodes = satInc 65535 l.episodes := rfl

/-! The Supply Output Unit, field by field. -/

@[simp] theorem Sou.zero12_target0 (u : Sou) : (u.zero12).target0 = u.target0 := rfl
@[simp] theorem Sou.zero12_level0 (u : Sou) : (u.zero12).level0 = u.level0 := rfl
@[simp] theorem Sou.zero12_target1 (u : Sou) : (u.zero12).target1 = 0 := rfl
@[simp] theorem Sou.zero12_level1 (u : Sou) : (u.zero12).level1 = 0 := rfl
@[simp] theorem Sou.zero12_target2 (u : Sou) : (u.zero12).target2 = 0 := rfl
@[simp] theorem Sou.zero12_level2 (u : Sou) : (u.zero12).level2 = 0 := rfl
@[simp] theorem Sou.zero12_slew (u : Sou) : (u.zero12).slew = u.slew := rfl
@[simp] theorem Sou.zero12_pressed (u : Sou) : (u.zero12).pressed = u.pressed := rfl
@[simp] theorem Sou.zero12_pressTimer (u : Sou) : (u.zero12).pressTimer = u.pressTimer := rfl
@[simp] theorem Sou.zero12_limitInput (u : Sou) : (u.zero12).limitInput = u.limitInput := rfl
@[simp] theorem Sou.zero12_limit (u : Sou) : (u.zero12).limit = u.limit := rfl
@[simp] theorem Sou.zero12_sensePresent (u : Sou) : (u.zero12).sensePresent = u.sensePresent := rfl
@[simp] theorem Sou.syncLimit_target0 (u : Sou) : (u.syncLimit).target0 = u.target0 := rfl
@[simp] theorem Sou.syncLimit_level0 (u : Sou) : (u.syncLimit).level0 = u.level0 := rfl
@[simp] theorem Sou.syncLimit_target1 (u : Sou) : (u.syncLimit).target1 = u.target1 := rfl
@[simp] theorem Sou.syncLimit_level1 (u : Sou) : (u.syncLimit).level1 = u.level1 := rfl
@[simp] theorem Sou.syncLimit_target2 (u : Sou) : (u.syncLimit).target2 = u.target2 := rfl
@[simp] theorem Sou.syncLimit_level2 (u : Sou) : (u.syncLimit).level2 = u.level2 := rfl
@[simp] theorem Sou.syncLimit_slew (u : Sou) : (u.syncLimit).slew = u.slew := rfl
@[simp] theorem Sou.syncLimit_pressed (u : Sou) : (u.syncLimit).pressed = u.pressed := rfl
@[simp] theorem Sou.syncLimit_pressTimer (u : Sou) : (u.syncLimit).pressTimer = u.pressTimer := rfl
@[simp] theorem Sou.syncLimit_limitInput (u : Sou) : (u.syncLimit).limitInput = u.limitInput := rfl
@[simp] theorem Sou.syncLimit_sensePresent (u : Sou) :
    (u.syncLimit).sensePresent = u.sensePresent := rfl
@[simp] theorem Sou.forceZero_target0 (u : Sou) : (u.forceZero).target0 = 0 := rfl
@[simp] theorem Sou.forceZero_level0 (u : Sou) : (u.forceZero).level0 = 0 := rfl
@[simp] theorem Sou.forceZero_target1 (u : Sou) : (u.forceZero).target1 = u.target1 := rfl
@[simp] theorem Sou.forceZero_level1 (u : Sou) : (u.forceZero).level1 = u.level1 := rfl
@[simp] theorem Sou.forceZero_target2 (u : Sou) : (u.forceZero).target2 = u.target2 := rfl
@[simp] theorem Sou.forceZero_level2 (u : Sou) : (u.forceZero).level2 = u.level2 := rfl
@[simp] theorem Sou.forceZero_slew (u : Sou) : (u.forceZero).slew = u.slew := rfl
@[simp] theorem Sou.forceZero_pressed (u : Sou) : (u.forceZero).pressed = false := rfl
@[simp] theorem Sou.forceZero_pressTimer (u : Sou) : (u.forceZero).pressTimer = .none := rfl
@[simp] theorem Sou.forceZero_limitInput (u : Sou) : (u.forceZero).limitInput = u.limitInput := rfl
@[simp] theorem Sou.forceZero_sensePresent (u : Sou) :
    (u.forceZero).sensePresent = u.sensePresent := rfl

/-! The committed claim, field by field. -/

@[simp] theorem commitClaim_bgu_committed (w : Nat) : (s.commitClaim w).bgu.committed = w := rfl
@[simp] theorem commitClaim_bgu_intent (w : Nat) :
    (s.commitClaim w).bgu.intent = s.bgu.intent := rfl
@[simp] theorem commitClaim_bgu_window (w : Nat) :
    (s.commitClaim w).bgu.window = s.bgu.window := rfl
@[simp] theorem commitClaim_bgu_pendingLower (w : Nat) :
    (s.commitClaim w).bgu.pendingLower = s.bgu.pendingLower := rfl
@[simp] theorem commitClaim_bgu_waitingSince (w : Nat) :
    (s.commitClaim w).bgu.waitingSince = s.bgu.waitingSince := rfl
@[simp] theorem commitClaim_bgu_accumulator (w : Nat) :
    (s.commitClaim w).bgu.accumulator = s.bgu.accumulator := rfl
@[simp] theorem commitClaim_bgu_refusals (w : Nat) :
    (s.commitClaim w).bgu.refusals = s.bgu.refusals := rfl
@[simp] theorem commitClaim_bgu_peers (w : Nat) : (s.commitClaim w).bgu.peers = s.bgu.peers := rfl
@[simp] theorem commitClaim_bgu_overdrawSamples (w : Nat) :
    (s.commitClaim w).bgu.overdrawSamples = 0 := rfl
@[simp] theorem commitClaim_bgu_overdrawEpisodes (w : Nat) :
    (s.commitClaim w).bgu.overdrawEpisodes = s.bgu.overdrawEpisodes := rfl
@[simp] theorem commitClaim_bgu_slotConflict (w : Nat) :
    (s.commitClaim w).bgu.slotConflict = s.bgu.slotConflict := rfl
@[simp] theorem commitClaim_bgu_listening (w : Nat) :
    (s.commitClaim w).bgu.listening = s.bgu.listening := rfl

end Sys2Proof.Machine
end

