-- ==== Sys2Proof/Tests/Slice0.lean ====
section
/-! SUPPORT. Tests: ill-formed commands that WellFormed refuses, single steps against the worked
examples and the rules of the manual, and for each statement with hypotheses a named state that meets
them. The expected values are the manual's; each test names its section or rule. -/

open Sys2Proof Sys2Proof.Machine

namespace Sys2Proof.Tests

/-! The theorems are checked one after another: each kernel evaluation on a thread of its own exhausts
the memory limit of the check. -/
set_option Elab.async false

/-! ### Small states and frames -/

/-- The state that a command leaves. -/
def after (c : Instr) (s : State) : State :=
  match exec c s with
  | .next t => t
  | .fault _ => s
  | .refused _ => s

/-- A HOLD step of 250 W at 12000 mV, 100 mV per ms, with policy CONTINUE. -/
def holdStep : StepRec :=
  { StepRec.blank with
    mainMv := 12000, standbyMv := 3300, fanPct := 60, slew := 100, durationS := 10, claimW := 250
    blankingMs := 500, profile := 0 }

/-- A CYCLE step with the parameters of Section 1.13. -/
def cycleStep : StepRec :=
  { holdStep with kind := .cycle, pressMs := 200, blankingMs := 3000, offMs := 2000, onMs := 5000
                  repeats := 3 }

/-- A HOLD step with the reach condition of Section 5.7.3. -/
def reachStep : StepRec :=
  { holdStep with durationS := 3600, reachPresent := true, reachPoint := 4, reachTarget := 850
                  reachBand := 20, reachTimeoutS := 1800 }

/-- A configuration with three enabled points (0, 1, 2), one line of each role but UNUSED, lanes 0
and 2, and no coalescing. -/
def config : LoadedConfig :=
  { LoadedConfig.blank with
    steps := [holdStep, { holdStep with mainMv := 9000 }]
    mainNominal := 12000, mainMaxMv := 12500, standbyMaxMv := 5000, overdrawCount := 3
    points := ⟨⟨.v16, .medium, 33096, -5, false, 12000, 300, 1⟩, ⟨.i20, .none, 32768, 0, false, 0, 0, 1⟩,
      ⟨.v6, .none, 32768, 0, false, 3300, 250, 3⟩, ⟨.off, .none, 32768, 0, false, 0, 0, 1⟩,
      ⟨.off, .none, 32768, 0, false, 0, 0, 1⟩, ⟨.off, .none, 32768, 0, false, 0, 0, 1⟩,
      ⟨.off, .none, 32768, 0, false, 0, 0, 1⟩, ⟨.off, .none, 32768, 0, false, 0, 0, 1⟩⟩
    profiles := .fill ⟨0xF00F, .fill none⟩
    codeClass := ⟨4, false, false⟩, markClass := ⟨4, false, false⟩
    laneEnable := 5
    lines := ⟨⟨.heartbeat, 2000, 0, 0, 10⟩, ⟨.rate, 10, 20, 60, 10⟩, ⟨.powerGood, 10, 0, 0, 500⟩,
      ⟨.resetWatch, 10, 0, 0, 10⟩⟩ }

/-- A station of slot 5 and budget code 2 in IDLE with a VALID configuration, settled. -/
def idle : State :=
  { State.reset with
    inReset := false, slot := 5, code := 2
    bgu := { State.reset.bgu with listening := 0 }
    tmu := { State.reset.tmu with uptime := 5000, rack := ⟨7, 999999980⟩, settled := true
                                  settleTimer := none }
    lines := ⟨⟨false, 0, none, none, .heartbeat .disarmed, none, 0, 0⟩,
      ⟨false, 0, none, none, .rate false false, none, 0, 0⟩,
      ⟨false, 0, none, none, .powerGood .off, none, 0, 0⟩,
      ⟨true, 9, none, none, .resetWatch false, none, 0, 0⟩⟩
    asc := { State.reset.asc with scanner := .between 5000 }
    cfl := { State.reset.cfl with status := .valid, fixture := .present, config := some config } }

/-- The same with other settings in the configuration. -/
def withConfig (c : LoadedConfig) (s : State) : State :=
  { s with cfl := { s.cfl with config := some c } }

/-- The same with another first step. -/
def withStep (t : StepRec) (s : State) : State :=
  withConfig { s.cfg with steps := [t, { holdStep with mainMv := 9000 }] } s

/-- RUNNING in a phase of step 0 at 12000 mV under a claim of 250 W, outside blanking. -/
def running (p : Phase) : State :=
  { idle with
    rcu := { idle.rcu with run := .running, phase := p, governing := some 0, boardOn := true
                           arrivalTaken := true }
    sou := { idle.sou with target0 := 12000, level0 := 12000, target1 := 3300, level1 := 3300
                           target2 := 60, level2 := 60, slew := 100 }
    bgu := { idle.bgu with committed := 250 } }

/-- CLAIMING for step 0, with the own INTENT of 250 W queued. -/
def claiming : State :=
  { idle with
    rcu := { idle.rcu with run := .claiming }
    bgu := { idle.bgu with intent := some ⟨250, .queued⟩ }
    bus := { idle.bus with budget := some ⟨.intent 250 true, 0⟩ } }

/-- ENDED after a failed run. -/
def ended : State :=
  { idle with
    rcu := { idle.rcu with run := .ended, verdict := .fail, cause := .completed, step := 1 } }

/-- An attempt of a class. -/
def attempting (c : FrameClass) (s : State) : State :=
  { s with bus := { s.bus with attempt := some ⟨c, ⟨7, 200000⟩, []⟩ } }

/-- A request of bench node 34 to slot 5. -/
def request (kind : Byte) (payload : List Byte) : RxFrame := sentFrame 2 34 5 kind payload 0

/-- A frame of a peer to every node. -/
def fromSlot (slot : BitVec 6) (kind : Byte) (payload : List Byte) : RxFrame :=
  sentFrame 0 slot 63 kind payload 0

/-- A response that stands in the outbox. -/
def waiting : Queued Response := ⟨⟨34, 1, 0x30, 0, []⟩, 0⟩

/-- The response queued last. -/
def lastResponse (s : State) : Option Response := (s.bus.responses.getLast?).map Queued.frame

/-- The record written last. -/
def lastRecord (s : State) : Option Record := s.fcu.log.getLast?

/-- A record of a log. -/
def aRecord : Record :=
  ⟨0, .hang, ⟨7, 0⟩, 4000, 0, .timing, 0, [12], 2000, some ⟨12004, 8501, -443⟩⟩

/-- A point's value with a running filter. -/
def steady (acc y : Int) : PointValue := ⟨0, false, false, y, true, acc, y, false⟩

/-- In a scan at a point. -/
def scanning (i : Fin 8) (s : State) : State :=
  { s with asc := { s.asc with scanner := .scanning 5010 i } }

/-- The bytes before the check of a block of one HOLD step: the header, zeros, range V6 for point 0,
and zeros. -/
def blockBody : List Byte :=
  [0x01, 0x01, 0x01, 0x19, 0x12, 0x34] ++ List.replicate 25 0 ++ [0x02] ++ List.replicate 247 0

/-- That block with a check. -/
def block (check : Nat) : List Byte := blockBody ++ beBytes 2 check

/-- The same with a line, or a lane, as given. -/
def withLine (i : Fin 4) (l : Line) (s : State) : State := { s with lines := s.lines.set i l }

def withLane (i : Fin 4) (l : Lane) (s : State) : State := { s with lanes := s.lanes.set i l }

/-! ### Ill-formed commands -/

/-- No frame takes longer than the 261 bytes of the greatest length field, 2.088 ms at 1 Mbit/s
(R160). -/
theorem test_wf_age :
    (Instr.start { request 0x20 [1] with age := 104401 }).wf = false ∧
      (Instr.start { request 0x20 [1] with age := 104400 }).wf = true := by
  decide +kernel

/-- More payload bytes than the length field states cannot arrive (R160). -/
theorem test_wf_payload :
    (Instr.status { request 0x30 [1, 0] with length := 1 }).wf = false ∧
      (Instr.status { request 0x30 [1, 0] with length := 3 }).wf = true := by
  decide +kernel

/-- A kind that has a row of its own does not arrive as FRAME_RECEIVED (Table 10-3). -/
theorem test_wf_kind :
    (Instr.frameReceived 0x20 (request 0x20 [1])).wf = false ∧
      (Instr.frameReceived 0x10 (request 0x10 [1])).wf = true := by
  decide +kernel

/-- No load reads more than 2048 bytes, and one that is cut short fewer (R178). -/
theorem test_wf_load :
    (Instr.loadTimerExpiry 2048).wf = false ∧ (Instr.loadTimerExpiry 2047).wf = true ∧
      (Instr.memoryNoResponse 2048).wf = false ∧ (Instr.memoryNoResponse 0).wf = true ∧
      (Instr.loadCompletion 2049).wf = false ∧ (Instr.loadCompletion 2048).wf = true := by
  decide +kernel

/-! ### Resets, requests and reads -/

/-- R5, R175: a reset in a run leaves IDLE with no notice, and the switch counts as closed at 0. -/
theorem test_reset :
    (after .powerOnReset (running .timing)).rcu.run = .idle ∧
      (after .rackReset { running .timing with
        rcu := { (running .timing).rcu with switchClosed := some 4000 } }).rcu.switchClosed = some 0 ∧
      (after .rackReset (running .timing)).bus.notices = [] := by
  decide +kernel

/-- R48, R183: code 2 gives B = 800 W (Section 3.11.1), and a BEACON is queued at uptime 0. -/
theorem test_reset_end :
    (after (.resetEnd 5 2) State.reset).rackBudget = 800 ∧
      (after (.resetEnd 5 2) State.reset).bus.beacon = some ⟨(), 0⟩ := by
  decide +kernel

/-- R20, R7: START in IDLE with a claim above the committed one enters CLAIMING and is answered OK
with its tag. -/
theorem test_start :
    (after (.start (request 0x20 [7])) idle).rcu.run = .claiming ∧
      lastResponse (after (.start (request 0x20 [7])) idle) = some ⟨34, 7, 0x20, 0, []⟩ ∧
      lastResponse (after (.start (request 0x20 [7])) (running .timing)) =
        some ⟨34, 7, 0x20, 1, []⟩ := by
  decide +kernel

/-- Table 1-1 and R4: the three MARGIN set-points and the CLAMPED flag. -/
theorem test_margin_set_points :
    setPoint config { holdStep with kind := .margin, marginBp := -1000 } = 10800 ∧
      setPoint { config with mainNominal := 11999 }
        { holdStep with kind := .margin, marginBp := -1950 } = 9659 ∧
      setPoint config { holdStep with kind := .margin, marginBp := 500 } = 12500 ∧
      setPointClamped config { holdStep with kind := .margin, marginBp := 500 } = true ∧
      setPointClamped config { holdStep with kind := .margin, marginBp := -1000 } = false := by
  decide +kernel

/-- Section 2.10.1: a PAUSE at 11000 mV of a ramp to 9000 mV holds 11000 mV, and RESUME gives the
target back. -/
theorem test_pause_resume :
    let ramp := withStep { holdStep with mainMv := 9000, slew := 50 } { running .settling with
      rcu := { (running .settling).rcu with arrivalTaken := false }
      sou := { (running .settling).sou with target0 := 9000, level0 := 11000, slew := 50 } }
    let paused := after (.pause (request 0x21 [1])) ramp
    paused.rcu.run = .paused ∧ paused.sou.target0 = 11000 ∧ paused.rcu.arrivalTaken = false ∧
      (after (.resume (request 0x22 [2])) paused).sou.target0 = 9000 ∧
      (after (.resume (request 0x22 [2])) paused).sou.level0 = 11000 := by
  decide +kernel

/-- R23, R28: ABORT takes OUT0 to 0 mV and releases the claim; in IDLE it is answered OK. -/
theorem test_abort :
    let t := after (.abort (request 0x23 [1])) (running .timing)
    t.rcu.verdict = .aborted ∧ t.rcu.cause = .requested ∧ t.sou.level0 = 0 ∧ t.bgu.committed = 0 ∧
      lastResponse (after (.abort (request 0x23 [1])) idle) = some ⟨34, 1, 0x23, 0, []⟩ ∧
      (after (.abort (request 0x23 [1])) idle).rcu = idle.rcu := by
  decide +kernel

/-- R24: CLEAR in ENDED gives IDLE at position 0. -/
theorem test_clear :
    (after (.clear (request 0x24 [1])) ended).rcu.run = .idle ∧
      (after (.clear (request 0x24 [1])) ended).rcu.step = 0 ∧
      (after (.clear (request 0x24 [1])) ended).rcu.verdict = .none := by
  decide +kernel

/-- R170: SNAPSHOT copies the pulse count of line 3 and the rack time. -/
theorem test_snapshot :
    (after (.snapshot (request 0x25 [1])) idle).bus.snapshot.lines.d.pulses = 9 ∧
      (after (.snapshot (request 0x25 [1])) idle).bus.snapshot.rack = ⟨7, 999999980⟩ := by
  decide +kernel

/-- Table 10-9: page 0 begins with run state, verdict, cause, step, phase, iteration and the
committed claim. -/
theorem test_status :
    ((lastResponse (after (.status (request 0x30 [1, 0])) (running .timing))).map
      fun r => (r.data.take 9, r.data.length)) = some ([3, 0, 0, 0, 3, 0, 0, 0, 250], 41) := by
  decide +kernel

/-- Table 10-7: the point mask of id 12 and a context temperature of −443, in a READ_LOG answer. -/
theorem test_read_log :
    let s := { idle with fcu := { idle.fcu with log := [aRecord] } }
    ((lastResponse (after (.readLog (request 0x31 [1, 0])) s)).map
      fun r => (r.data.drop 20)) =
      some [0, 0, 0x07, 0xD0, 0x10, 0x00, 1, 0x2E, 0xE4, 0x21, 0x35, 0xFE, 0x45] ∧
    ((lastResponse (after (.readLog (request 0x31 [1, 1])) s)).map Response.code) = some 5 := by
  decide +kernel

/-- Table 10-11: the edges of an absent last rise read FFFFFFFFh, and group 4 is BAD_REQUEST. -/
theorem test_read_counters :
    ((lastResponse (after (.readCounters (request 0x32 [1, 3])) idle)).map
      fun r => (r.data.drop 12).take 4) = some [0xFF, 0xFF, 0xFF, 0xFF] ∧
    ((lastResponse (after (.readCounters (request 0x32 [1, 4])) idle)).map Response.code) =
      some 6 := by
  decide +kernel

/-- Table 10-11: READ_POINT of a point at −443 with CAL_DEFAULT; a point above 7 is BAD_INDEX. -/
theorem test_read_point :
    let s := { idle with asc := { idle.asc with
      points := idle.asc.points.set 7 ⟨100, false, false, -443, true, -443, -443, true⟩ } }
    ((lastResponse (after (.readPoint (request 0x33 [1, 7])) s)).map Response.data) =
      some [7, 0, 100, 4, 0xFE, 0x45] ∧
    ((lastResponse (after (.readPoint (request 0x33 [1, 8])) s)).map Response.code) =
      some 5 := by
  decide +kernel

/-- The example of R168: source 41 is permitted, 40 and 3 are refused. -/
theorem test_control_sources :
    let table : List SourceEntry := [⟨32, 1, true⟩, ⟨40, 6, false⟩]
    permits table 41 = true ∧ permits table 40 = false ∧ permits table 3 = false := by
  decide +kernel

/-! ### Frames -/

/-- The check of R160 of the nine ASCII digits 1 to 9 is 29B1h for its polynomial and initial value
(a known value of this CRC, which the manual does not print). -/
theorem test_check :
    crc16 [0x31, 0x32, 0x33, 0x34, 0x35, 0x36, 0x37, 0x38, 0x39] = 0x29B1 := by
  decide +kernel

/-- Section 9.5.1: the beacon of slot 7, delivered 152 µs after its first bit, makes slot 4's clock
jump by 5231 s 80 ns and settles it. -/
theorem test_beacon_jump :
    let s := { idle with slot := 4, tmu := { idle.tmu with rack := ⟨0, 400152020⟩, settled := false } }
    let f := sentFrame 3 7 63 0x01 (beBytes 4 5231 ++ beBytes 4 400000100 ++
      [3, 0, 0, 0, 1, 44, 0, 0, 0]) 7600
    (after (.beaconReceived f) s).tmu.rack = ⟨5231, 400152100⟩ ∧
      (after (.beaconReceived f) s).tmu.jumps = 1 ∧
      (after (.beaconReceived f) s).tmu.settled = true ∧
      (after (.beaconReceived f) s).heldClaim 7 = 300 := by
  decide +kernel

/-- Section 9.5.2: leads of 1240 ns, 2600 ns, −2000 ns and 1,004,000 ns, and the carry of the second
jump. -/
theorem test_beacon_leads :
    leadNanos ⟨5231, 650003140⟩ ⟨5231, 650001900⟩ = 1240 ∧
      leadNanos ⟨5231, 999817600⟩ ⟨5231, 999815000⟩ = 2600 ∧
      leadNanos ⟨5232, 149999000⟩ ⟨5232, 150001000⟩ = -2000 ∧
      leadNanos ⟨5233, 4000⟩ ⟨5232, 999000000⟩ = 1004000 ∧
      addNanos ⟨5231, 999999000⟩ 2600 = ⟨5232, 1600⟩ := by
  decide +kernel

/-- Section 3.11.1: slot 5 takes slot 11's INTENT of 250 W into its view, and the COMMIT closes it. -/
theorem test_budget_frames :
    let s := after (.intentReceived (fromSlot 11 0x02 (beBytes 4 7 ++ beBytes 4 200000 ++ [0, 250]))) idle
    s.heldIntent 11 = some ⟨250, ⟨7, 200000⟩, 5000⟩ ∧ s.heldClaim 11 = 0 ∧
      (after (.commitReceived (fromSlot 11 0x03 [0, 250])) s).heldIntent 11 = none ∧
      (after (.commitReceived (fromSlot 11 0x03 [0, 250])) s).heldClaim 11 = 250 := by
  decide +kernel

/-- R167 and R69: a frame of an unknown kind that is addressed is BAD_REQUEST, and one from the own
slot sets the slot-conflict flag. -/
theorem test_frame_received :
    lastResponse (after (.frameReceived 0x7F (request 0x7F [9])) idle) = some ⟨34, 9, 0x7F, 6, []⟩ ∧
      (after (.frameReceived 0x10 (fromSlot 5 0x10 [])) idle).bgu.slotConflict = true := by
  decide +kernel

/-- R161, R154 and Table 10-5: an INTENT goes out before anything else, with its stamp as time. -/
theorem test_attempt_start :
    ((after .attemptStart claiming).bus.attempt.map fun a => (a.cls, a.bytes.take 14)) =
      some (.budget, [5, 63, 0x02, 10, 0, 0, 0, 7, 0x3B, 0x9A, 0xC9, 0xEC, 0, 250]) := by
  decide +kernel

/-- R161, R162: a lost attempt leaves the run, a bus error counts, and the third abort of a response
drops it. -/
theorem test_failed_attempts :
    (after .arbitrationLoss (attempting .budget claiming)).bus.budget = some ⟨.intent 250 true, 0⟩ ∧
      (after .busError (attempting .budget claiming)).bus.budget = some ⟨.intent 250 true, 1⟩ ∧
      (after .busError (attempting .response { idle with bus := { idle.bus with
        responses := [{ waiting with errorRun := 2 }] } })).bus.requestDrops = 1 := by
  decide +kernel

/-- R50: the completed INTENT enters WINDOW with the attempt's stamp and 300 ms. -/
theorem test_transmit_complete :
    let t := after .transmitComplete (attempting .budget claiming)
    t.bgu.intent = some ⟨250, .window ⟨7, 200000⟩⟩ ∧ t.bgu.window = some 300 ∧
      t.bus.budget = none := by
  decide +kernel

/-- R164. -/
theorem test_beacon_timer :
    (after .beaconTimerExpiry idle).bus.beacon = some ⟨(), 0⟩ ∧
      (after .beaconTimerExpiry idle).bus.beaconTimer = 250 := by
  decide +kernel

/-- Section 10.8: isolation of a RUNNING station queues COMMIT, a BUS_LOST notice of value 2000 and a
RUN notice. -/
theorem test_isolation :
    let s := { running .timing with
      bus := { idle.bus with successTimer := some 0, lastSuccess := 3000 } }
    let t := after .transmitSuccessTimerExpiry s
    t.rcu.run = .isolated ∧ t.bus.budget = some ⟨.commit, 0⟩ ∧ t.bus.notices.length = 2 ∧
      (lastRecord t).map (fun r => (r.kind, r.value)) = some (.busLost, 2000) := by
  decide +kernel

/-! ### Time, timers and outputs -/

/-- Section 2.10.2: at 250 mV per ms OUT1's 14th tick lands on 3300 mV from 3250 mV, and OUT0's 20th on
5000 mV from 4750 mV. -/
theorem test_ramps :
    approach 3000 3300 250 = 3250 ∧ approach 3250 3300 250 = 3300 ∧
      approach 3250 5000 250 = 3500 ∧ approach 4750 5000 250 = 5000 := by
  decide +kernel

/-- Section 2.10.1: the tick that lands OUT0 on 9000 mV in SETTLING is the arrival, and the pending
lower claim of 200 W is committed there. -/
theorem test_landing :
    let s := withStep { holdStep with mainMv := 9000, slew := 50 } { running .settling with
      rcu := { (running .settling).rcu with arrivalTaken := false }
      sou := { (running .settling).sou with target0 := 9000, level0 := 9050, slew := 50 }
      bgu := { idle.bgu with committed := 300, pendingLower := some 200 } }
    (after .outputTick s).sou.level0 = 9000 ∧ (after .outputTick s).rcu.arrivalTaken = true ∧
      (after .outputTick s).bgu.committed = 200 ∧
      (after .outputTick s).tmu.uptime = 5001 ∧
      (after .outputTick s).bus.budget = some ⟨.commit, 0⟩ := by
  decide +kernel

/-- R153: 999,999,980 ns and one more period are the next second. -/
theorem test_rack_time :
    (after .rackTimeAdvance idle).tmu.rack = ⟨8, 0⟩ ∧
      (after .rackTimeAdvance { idle with tmu := { idle.tmu with
        rack := ⟨0xFFFFFFFF, 999999980⟩ } }).tmu.rack = ⟨0, 0⟩ := by
  decide +kernel

/-- Section 2.10.2: the end of the press ends SETTLING where no POWER_GOOD line is configured. -/
theorem test_press_timer :
    let s := withConfig { config with
        steps := [{ holdStep with pressMs := 400 }], lines := .fill ⟨.unused, 10, 0, 0, 10⟩ }
      { running .settling with
        rcu := { (running .settling).rcu with powerOnPending := true }
        lines := .fill (Line.reset false)
        sou := { (running .settling).sou with pressed := true, pressTimer := some 0 } }
    (after .pressTimerExpiry s).sou.pressed = false ∧
      (after .pressTimerExpiry s).rcu.phase = .timing := by
  decide +kernel

/-- R128: the wait's expiry makes the line UNSEEN with a NO_POWER_GOOD record of the timeout. -/
theorem test_power_good_wait :
    let s := { running .settling with
      rcu := { (running .settling).rcu with powerOnPending := true }
      lines := (running .settling).lines.set 2
        ⟨false, 0, none, none, .powerGood .waiting, some 0, 0, 0⟩ }
    ((after .powerGoodWaitExpiry s).lines.get 2).sup = .powerGood .unseen ∧
      (lastRecord (after .powerGoodWaitExpiry s)).map (fun r => (r.kind, r.points, r.value)) =
        some (.noPowerGood, [14], 500) ∧
      (after .powerGoodWaitExpiry s).rcu.phase = .timing := by
  decide +kernel

/-- R13, R7: the end of step 0 enters step 1, whose set-point is 9000 mV. -/
theorem test_duration_timer :
    let s := { running .timing with rcu := { (running .timing).rcu with duration := some 0 } }
    (after .durationTimerExpiry s).rcu.step = 1 ∧
      (after .durationTimerExpiry s).sou.target0 = 9000 ∧
      (after .durationTimerExpiry { s with rcu := { s.rcu with step := 1 } }).rcu.verdict = .pass := by
  decide +kernel

/-- Section 5.7.3: NOT_REACHED on point 4 with value 815; CONTINUE goes to TIMING for 3600 s, and
STOP ends the run FAIL. -/
theorem test_reach_timer :
    let s := withStep reachStep { running .reaching with
      rcu := { (running .reaching).rcu with reach := some 0 }
      asc := { idle.asc with points := idle.asc.points.set 4 (steady 815 815) } }
    let t := after .reachTimerExpiry s
    t.rcu.phase = .timing ∧ t.rcu.duration = some 3600000 ∧
      (lastRecord t).map (fun r => (r.kind, r.points, r.value)) = some (.notReached, [4], 815) ∧
      (after .reachTimerExpiry (withStep { reachStep with policy := .stop } s)).rcu.cause =
        .notReached := by
  decide +kernel

/-- Section 1.13: at the off timer's expiry OUT0 starts its ramp to 12000 mV in POWERING. -/
theorem test_off_timer :
    let s := withStep cycleStep { running .off with
      rcu := { (running .off).rcu with off := some 0, boardOn := false }
      sou := { (running .off).sou with target0 := 0, level0 := 0 } }
    (after .offTimerExpiry s).rcu.phase = .powering ∧ (after .offTimerExpiry s).rcu.boardOn = true ∧
      (after .offTimerExpiry s).sou.target0 = 12000 ∧
      (after .offTimerExpiry s).rcu.blanking = true := by
  decide +kernel

/-- Section 1.13: the on timer's expiry of iteration 1 enters OFF of iteration 2 with OUT0 at 0. -/
theorem test_on_timer :
    let s := withStep cycleStep { running .on with
      rcu := { (running .on).rcu with on := some 0, iteration := 1 } }
    (after .onTimerExpiry s).rcu.phase = .off ∧ (after .onTimerExpiry s).rcu.iteration = 2 ∧
      (after .onTimerExpiry s).rcu.off = some 2000 ∧ (after .onTimerExpiry s).sou.level0 = 0 := by
  decide +kernel

/-- R18, R125: the end of blanking arms the HEARTBEAT line with its 2000 ms. -/
theorem test_blanking_timer :
    let s := { running .timing with
      rcu := { (running .timing).rcu with blanking := true, blankingTimer := some 0 } }
    (after .blankingTimerExpiry s).rcu.blanking = false ∧
      (after .blankingTimerExpiry s).lines.a.sup = .heartbeat .armed ∧
      (after .blankingTimerExpiry s).lines.a.timer = some 2000 := by
  decide +kernel

/-- Section 2.10.3: an input that deasserts after 6 ms leaves IDLE, and the 10 ms of the next end the
run with OUTPUT_LIMIT. -/
theorem test_output_limit :
    let s := { running .timing with
      sou := { (running .timing).sou with limitInput := true, limit := .counting 6 } }
    let u := { s with sou := { s.sou with limit := .counting 10 } }
    (after (.outputLimitInputChange false) s).sou.limit = .idle ∧
      (after .outputLimitTimerExpiry s).rcu.run = .running ∧
      (after .outputLimitTimerExpiry u).rcu.cause = .outputLimit ∧
      (after .outputLimitTimerExpiry u).rcu.verdict = .fail := by
  decide +kernel

/-- R45: the loss of the supply ends the run ABORTED. -/
theorem test_supply_sense :
    (after (.supplySenseChange false) (running .timing)).rcu.cause = .supplyLost ∧
      (after (.supplySenseChange false) (running .timing)).sou.level1 = 0 ∧
      (after (.supplySenseChange false) idle).rcu = idle.rcu := by
  decide +kernel

/-- R25: 2999 ms is a short press and 3000 ms a long one. -/
theorem test_start_switch :
    let closed (s : State) := { after .startSwitchClose s with
      tmu := { s.tmu with uptime := 7999 } }
    (after .startSwitchRelease (closed idle)).rcu.run = .claiming ∧
      (after .startSwitchRelease (closed ended)).rcu.run = .ended ∧
      (after .startSwitchRelease { closed ended with
        tmu := { ended.tmu with uptime := 8000 } }).rcu.run = .idle := by
  decide +kernel

/-! ### Measurement -/

/-- R73: the scan starts at point 0 and the next start stands one scan interval of 10 ms later. -/
theorem test_scan_start :
    (after .scanStart idle).asc.scanner = .scanning 5010 0 := by
  decide +kernel

/-- Section 4.11.1: about 1861.6 mV on point 0 gives code 3050, sample 12028 and y0 12001. -/
theorem test_conversion :
    let s := scanning 0 { idle with
      asc := { idle.asc with points := idle.asc.points.set 0 (steady 192000 12000) } }
    let v := (after (.conversionCompletion 1861600) s).asc.points.a
    v.code = 3050 ∧ v.m = 12028 ∧ v.acc = 192028 ∧ v.y = 12001 ∧
      (after (.conversionCompletion 1861600) s).asc.scanner = .scanning 5010 1 := by
  decide +kernel

/-- Section 4.11.1: the scan completion takes P = 1020 dW from 12001 mV and 8501 mA. -/
theorem test_scan_completion :
    let s := scanning 2 { idle with
      asc := { idle.asc with
        points := (idle.asc.points.set 0 (steady 192028 12001)).set 1 (steady 8501 8501) } }
    (after (.conversionCompletion 1000000) s).asc.power = 1020 ∧
      (after (.conversionCompletion 1000000) s).asc.scanner = .between 5010 := by
  decide +kernel

/-- Sections 4.11.1 and 4.11.2: 1062.7 mV on I20 gives 8501 mA, 1000 mV on TEMP with offset 12 gives
51.2 °C, and code 100 with gain 33096 gives −44.3 °C by a true floor. -/
theorem test_scaling :
    (PointValue.reset.convert ⟨.i20, .none, 32768, 0, false, 0, 0, 1⟩ 1062700).m = 8501 ∧
      (PointValue.reset.convert ⟨.temp, .none, 32768, 12, false, 0, 0, 1⟩ 1000000).m = 512 ∧
      (PointValue.reset.convert ⟨.temp, .none, 33096, 0, false, 0, 0, 1⟩ 61035).code = 100 ∧
      (PointValue.reset.convert ⟨.temp, .none, 33096, 0, false, 0, 0, 1⟩ 61035).m = -443 := by
  decide +kernel

/-- Section 4.11.3: rows 1 to 5, 27 and 28 of the filter SHORT after a step from 1000 to 2000 mV, each
from the accumulator and value of the row before. -/
theorem test_filter :
    let next (acc y : Int) : Int × Int :=
      (((steady acc y).filter .short 2000).acc, ((steady acc y).filter .short 2000).y)
    next 4000 1000 = (5000, 1250) ∧ next 5000 1250 = (5750, 1437) ∧ next 5750 1437 = (6313, 1578) ∧
      next 6313 1578 = (6735, 1683) ∧ next 6735 1683 = (7052, 1763) ∧
      next 7999 1999 = (8000, 2000) ∧ next 8000 2000 = (8000, 2000) := by
  decide +kernel

/-- Section 5.7.2: the window of Table 5-3, and samples 6, 7, 8, 10, 11 and 14, each from the runs of
the row before. -/
theorem test_windows :
    let judge (w : Window) (y : Int) : Window := (Window.judge 3 (classify 3300 250 y) w).1
    classify 3300 250 3218 = .inside ∧ classify 3300 250 3217 = .low ∧
      classify 3300 250 3382 = .inside ∧ classify 3300 250 3383 = .high ∧
      judge ⟨false, 1, 0, 0⟩ 3390 = ⟨false, 2, 0, 0⟩ ∧ judge ⟨false, 2, 0, 0⟩ 3150 = ⟨true, 0, 0, 1⟩ ∧
      judge ⟨true, 0, 0, 1⟩ 3100 = ⟨true, 0, 0, 1⟩ ∧ judge ⟨true, 0, 1, 1⟩ 3310 = ⟨true, 0, 2, 1⟩ ∧
      judge ⟨true, 0, 2, 1⟩ 3390 = ⟨true, 0, 0, 1⟩ ∧ judge ⟨true, 0, 2, 1⟩ 3280 = ⟨false, 0, 0, 1⟩ := by
  decide +kernel

/-- Section 3.11.2: under 250 W the limit is 2812 dW: 2812 clears the count, and a third scan above it
ends the run with OVERDRAW. Here 12500 mV at 24000 mA gives P = 3000 dW. -/
theorem test_overdraw :
    let s (amps : Int) := scanning 2 { running .timing with
      asc := { idle.asc with
        points := (idle.asc.points.set 0 (steady 200000 12500)).set 1 (steady amps amps) }
      bgu := { (running .timing).bgu with overdrawSamples := 2 } }
    (after (.conversionCompletion 1375000) (s 22496)).asc.power = 2812 ∧
      (after (.conversionCompletion 1375000) (s 22496)).bgu.overdrawSamples = 0 ∧
      (after (.conversionCompletion 1375000) (s 24000)).rcu.cause = .overdraw ∧
      (lastRecord (after (.conversionCompletion 1375000) (s 24000))).map
        (fun r => (r.kind, r.points, r.value)) = some (.overdraw, [0, 1], 3000) ∧
      (after (.conversionCompletion 1375000) (s 24000)).bgu.overdrawEpisodes = 1 := by
  decide +kernel

/-! ### Lanes and lines -/

/-- R107: a level that stands still has no group of the code, and the fourth such pattern takes
CODE_LOCK to SEARCH with its CODE error counted. -/
theorem test_lane_no_signal :
    let t := after (.codeGroupArrival 2 0) (withLane 2
      { Lane.reset with lock := .codeLock, unknownRun := 3 } (running .timing))
    groupOf 0x3FF = .unknown ∧ (t.lanes.get 2).lock = .search ∧
      (t.lanes.get 2).codeErrors.count = 1 := by
  decide +kernel

/-- Section 6.6.1: the sixteenth group in a row enters CODE_LOCK, and the MARKER 256 groups after a
MARKER enters FRAME_LOCK. -/
theorem test_lane_lock :
    let s := withLane 2 { Lane.reset with lock := .search, searchRun := 15 } (running .timing)
    let u := withLane 2 { Lane.reset with lock := .codeLock, distance := some 255, sign := .pos }
      (running .timing)
    ((groupArrives 2 (.data .neutral) s).lanes.get 2).lock = .codeLock ∧
      ((groupArrives 2 (.marker .minus) u).lanes.get 2).lock = .frameLock ∧
      ((groupArrives 2 (.marker .minus) u).lanes.get 2).framePosition = 0 := by
  decide +kernel

/-- Section 6.6.2: group a + 257 of a slipped stream is the fourth MARK error: LANE_ERRORS with value 4
and then LANE_LOST with value 1 on id 8, and the marker distance of 1 is kept into CODE_LOCK. -/
theorem test_lane_slip :
    let s := withLane 0 { Lane.reset with
      lock := .frameLock, sign := .pos, framePosition := 255, markErrorRun := 3
      distance := some 0, markErrors := ⟨3, false⟩ } (running .timing)
    let c := withConfig { config with profiles := .fill ⟨0x0100, .fill none⟩ } s
    let t := groupArrives 0 (.data .neutral) c
    (t.lanes.get 0).lock = .codeLock ∧ (t.lanes.get 0).markErrors = ⟨4, true⟩ ∧
      (t.lanes.get 0).distance = some 1 ∧ (t.lanes.get 0).lockLosses = 1 ∧
      t.fcu.log.map (fun r => (r.kind, r.points, r.value)) =
        [(.laneErrors, [8], 4), (.laneLost, [8], 1)] := by
  decide +kernel

/-- Section 6.6.3: the counter at errors 255 to 257 in HOLD and in ROLL mode. -/
theorem test_counter_modes :
    let next (roll : Bool) (n : Nat) : Nat := (ErrorCounter.bump roll ⟨n, false⟩).1.count
    next false 254 = 255 ∧ next false 255 = 255 ∧ next true 254 = 255 ∧ next true 255 = 0 ∧
      next true 0 = 1 := by
  decide +kernel

/-- R123: a rise is counted and stamped with both times. -/
theorem test_line_rise :
    let t := after (.watchLineEdge 1 true) idle
    t.lines.b.pulses = 1 ∧ t.lines.b.riseRack = some ⟨7, 999999980⟩ ∧
      t.lines.b.riseUptime = some 5000 ∧ t.lines.b.high = true := by
  decide +kernel

/-- R130: the reset line that falls under supervision raises SPONTANEOUS_RESET with its pulse
count. -/
theorem test_line_fall :
    let t := after (.watchLineEdge 3 false) (running .timing)
    t.lines.d.sup = .resetWatch true ∧
      (lastRecord t).map (fun r => (r.kind, r.points, r.value)) = some (.spontaneousReset, [15], 9) := by
  decide +kernel

/-- R125: an armed heartbeat line whose interval runs out is HUNG. -/
theorem test_heartbeat :
    let s := withLine 0 ⟨false, 3, none, some 3000, .heartbeat .armed, some 0, 0, 0⟩ (running .timing)
    (after (.heartbeatIntervalExpiry 0) s).lines.a.sup = .heartbeat .hung ∧
      (lastRecord (after (.heartbeatIntervalExpiry 0) s)).map Record.kind = some .hang := by
  decide +kernel

/-- R126: a window of 19 pulses under a least rate of 20 raises FAN_RATE with value 19; one of 20
does not. -/
theorem test_rate_window :
    let s (n : Nat) := withLine 1 ⟨false, 3, none, none, .rate true false, some 0, n, 0⟩
      (running .timing)
    (lastRecord (after (.rateWindowExpiry 1) (s 19))).map (fun r => (r.kind, r.value)) =
        some (.fanRate, 19) ∧
      lastRecord (after (.rateWindowExpiry 1) (s 20)) = none ∧
      (after (.rateWindowExpiry 1) (s 20)).lines.b.timer = some 1000 := by
  decide +kernel

/-! ### The claim -/

/-- The view of slot 5 in Section 3.11.1: slot 2 at 300 W and slot 11 at a claim. -/
def rackView (w : Nat) : List Peer := [⟨2, 300, none, 5000, true⟩, ⟨11, w, none, 5000, true⟩]

/-- Section 3.11.1: 250 + 300 + 250 = 800 W commits under 800 W. -/
theorem test_claim_window :
    let s := { claiming with bgu := { claiming.bgu with
      intent := some ⟨250, .window ⟨7, 450000⟩⟩, window := some 0, peers := rackView 250 } }
    (after .claimWindowExpiry s).bgu.committed = 250 ∧
      (after .claimWindowExpiry s).rcu.run = .running ∧
      (after .claimWindowExpiry s).sou.target0 = 12000 := by
  decide +kernel

/-- Section 3.11.1: 300 + 300 + 250 = 850 W is refused. -/
theorem test_claim_refused :
    let s := withStep { holdStep with claimW := 300 } { claiming with bgu := { claiming.bgu with
      intent := some ⟨300, .window ⟨7, 450000⟩⟩, window := some 0, peers := rackView 250 } }
    (after .claimWindowExpiry s).rcu.run = .waiting ∧ (after .claimWindowExpiry s).bgu.refusals = 1 ∧
      (after .claimWindowExpiry s).bus.budget = some ⟨.commit, 0⟩ ∧
      (after .claimWindowExpiry s).bgu.committed = 0 := by
  decide +kernel

/-- WAITING for step 0 since an uptime, with a view. -/
def waitingSince (u : Uptime) (peers : List Peer) : State :=
  { idle with
    rcu := { idle.rcu with run := .waiting }
    bgu := { idle.bgu with waitingSince := some u, peers := peers } }

/-- R62: the retry comes 2000 ms after the refusal and not 1999 ms. -/
theorem test_retry :
    (after .retryIntervalExpiry (waitingSince 3000 [])).rcu.run = .claiming ∧
      (after .retryIntervalExpiry (waitingSince 3000 [])).bgu.intent = some ⟨250, .queued⟩ ∧
      (after .retryIntervalExpiry (waitingSince 3001 [])).rcu.run = .waiting := by
  decide +kernel

/-- R63: 600000 ms of WAITING end the run ABORTED. -/
theorem test_waiting_limit :
    let s := waitingSince 3000 []
    (after .waitingLimitReached { s with bgu := { s.bgu with accumulator := 600000 } }).rcu.cause =
        .budgetTimeout ∧
      (after .waitingLimitReached { s with bgu := { s.bgu with accumulator := 599999 } }).rcu.run =
        .waiting := by
  decide +kernel

/-- R57: the end of the listening interval queues the held INTENT of a settled station. -/
theorem test_listening :
    let s := { claiming with
      bgu := { claiming.bgu with intent := some ⟨250, .held⟩ }, bus := idle.bus }
    (after .listeningIntervalEnd s).bus.budget = some ⟨.intent 250 true, 0⟩ ∧
      (after .listeningIntervalEnd { s with tmu := { s.tmu with settled := false } }).bus.budget =
        none := by
  decide +kernel

/-- R157: the settle timer settles the clock, and changes nothing on a settled station, where a held
intent waits for the end of its listening interval. -/
theorem test_settle :
    let s := { claiming with
      bgu := { claiming.bgu with intent := some ⟨250, .held⟩ }, bus := idle.bus
      tmu := { claiming.tmu with settleTimer := some 0 } }
    (after .settleTimerExpiry { s with tmu := { s.tmu with settled := false } }).tmu.settled = true ∧
      (after .settleTimerExpiry { s with tmu := { s.tmu with settled := false } }).bus.budget =
        some ⟨.intent 250 true, 0⟩ ∧
      (after .settleTimerExpiry s).bus.budget = none ∧
      (after .settleTimerExpiry s).bgu.intent = some ⟨250, .held⟩ := by
  decide +kernel

/-- R55, R56: an entry is STALE at 1000 ms, gone at 10000 ms, and its intent closes at 1000 ms. -/
theorem test_peer_ages :
    let s (u : Uptime) := { idle with bgu := { idle.bgu with
      peers := [⟨2, 300, some ⟨350, ⟨7, 0⟩, u⟩, u, true⟩] } }
    let now (n : Uptime) (s : State) := { s with tmu := { s.tmu with uptime := n } }
    ((after (.peerEntryStale 2) (s 4000)).bgu.peers.map Peer.fresh) = [false] ∧
      ((after (.peerEntryStale 2) (s 4001)).bgu.peers.map Peer.fresh) = [true] ∧
      (after (.peerIntentLifetimeExpiry 2) (s 4000)).heldIntent 2 = none ∧
      (after (.peerEntryRemoval 2) (now 14000 (s 4000))).bgu.peers = [] ∧
      (after (.peerEntryRemoval 2) (now 13999 (s 4000))).bgu.peers.length = 1 := by
  decide +kernel

/-! ### The fixture and the log -/

/-- R177, R182: a removal makes the status ABSENT, and the settled line starts a load. -/
theorem test_fixture :
    let gone := after (.fixturePresentChange none) idle
    gone.cfl.status = .absent ∧ gone.asc.scanner = .stopped ∧
      (after .fixtureDebounceExpiry { gone with
        cfl := { gone.cfl with fixture := .debouncing 100 } }).cfl.status = .loading ∧
      (after (.fixturePresentChange none) (running .timing)).rcu.cause = .fixtureRemoved := by
  decide +kernel

/-- A station that loads a fixture's configuration. -/
def loading : State :=
  { idle with
    asc := State.reset.asc
    cfl := { State.reset.cfl with status := .loading, fixture := .present, loadTimer := some 0 } }

/-- The same from a memory that answers with given bytes. -/
def loadingFrom (b : List Byte) : State :=
  { loading with cfl := { loading.cfl with memory := b } }

/-- The check runs over zeros in two parts. -/
theorem foldl_zeros (m n : Nat) (c : BitVec 16) : (List.replicate (m + n) (0 : Byte)).foldl crcByte c =
    (List.replicate n 0).foldl crcByte ((List.replicate m 0).foldl crcByte c) := by
  rw [← List.replicate_append_replicate, List.foldl_append]

/-- The check of the block (R179), worked out outside the model from the rule's polynomial. -/
theorem block_check : crc16 blockBody = 0x6A17 := by
  have h : ([0x01, 0x01, 0x01, 0x19, 0x12, 0x34] ++ List.replicate 25 0 ++ [0x02] : List Byte).foldl
      crcByte 0xFFFF#16 = 0x48B1 := by decide +kernel
  have z1 : (List.replicate 31 (0 : Byte)).foldl crcByte 0x48B1 = 0xCBA7 := by decide +kernel
  have z2 : (List.replicate 31 (0 : Byte)).foldl crcByte 0xCBA7 = 0xC2EC := by decide +kernel
  have z3 : (List.replicate 31 (0 : Byte)).foldl crcByte 0xC2EC = 0x4952 := by decide +kernel
  have z4 : (List.replicate 31 (0 : Byte)).foldl crcByte 0x4952 = 0xC5E8 := by decide +kernel
  have z5 : (List.replicate 31 (0 : Byte)).foldl crcByte 0xC5E8 = 0xF792 := by decide +kernel
  have z6 : (List.replicate 31 (0 : Byte)).foldl crcByte 0xF792 = 0xC03C := by decide +kernel
  have z7 : (List.replicate 31 (0 : Byte)).foldl crcByte 0xC03C = 0x7C57 := by decide +kernel
  have z8 : (List.replicate 30 (0 : Byte)).foldl crcByte 0x7C57 = 0x6A17 := by decide +kernel
  rw [blockBody, crc16, List.foldl_append, h, foldl_zeros 31 216, z1, foldl_zeros 31 185, z2,
    foldl_zeros 31 154, z3, foldl_zeros 31 123, z4, foldl_zeros 31 92, z5, foldl_zeros 31 61, z6,
    foldl_zeros 31 30, z7, z8]

/-- The block passes every test of R178 with its check, and fails CHECKSUM with another. -/
theorem test_block_check (n : Nat) (hn : n = 0x6A17 ∨ n = 0) :
    blockFault (block n) = if n = 0 then some .checksum else none := by
  have hb : ∀ n, n = 0x6A17 ∨ n = 0 → (block n).take (blockLength (block n) - 2) = blockBody ∧
      wordAt (block n) (blockLength (block n) - 2) = n ∧ ¬(block n).length < 4 ∧
      headerFault (block n) = none ∧ ¬(block n).length < blockLength (block n) ∧
      structureGood (block n) = true := by
    rintro n (rfl | rfl) <;> decide +kernel
  obtain ⟨h1, h2, h3, h4, h5, h6⟩ := hb n hn
  rcases hn with rfl | rfl <;>
    simp [blockFault, blockCheckGood, h1, h2, h3, h4, h5, h6, block_check]

/-- R178 and the defaults of Tables 10-12 and 10-13: a block of one step loads. -/
theorem test_load :
    let t := after (.loadCompletion 281) (loadingFrom (block 0x6A17))
    t.cfl.status = .valid ∧ t.cfl.modelCode = 0x1234 ∧ t.cfg.steps.length = 1 ∧
      t.cfg.overdrawCount = 40 ∧ t.cfg.scanInterval = 2 ∧ t.cfg.maxFaults = 64 ∧
      t.asc.scanner = .scanning 5010 0 := by
  have hs : (loadingFrom (block 0x6A17)).cfl.status = .loading := rfl
  have hm : (loadingFrom (block 0x6A17)).cfl.bytesRead 281 = block 0x6A17 := by decide +kernel
  have hb := test_block_check 0x6A17 (.inl rfl)
  rw [if_neg (by decide)] at hb
  have h : loadCompletes 281 (loadingFrom (block 0x6A17)) =
      ((loadingFrom (block 0x6A17)).takeIds (block 0x6A17)).completeLoad
        (configOf (block 0x6A17)) := by
    simp only [loadCompletes, hs, hm, hb, if_true]
  have hr : (loadingFrom (block 0x6A17)).inReset = false := rfl
  have ha : after (.loadCompletion 281) (loadingFrom (block 0x6A17)) =
      ((loadingFrom (block 0x6A17)).takeIds (block 0x6A17)).completeLoad
        (configOf (block 0x6A17)) := by
    simp [after, exec, execLoadCompletion, State.live, hr, h]
  rw [ha]
  decide +kernel

/-- The bytes before the check of the same block with every point OFF. -/
def bareBody : List Byte :=
  [0x01, 0x01, 0x01, 0x19, 0x12, 0x34] ++ List.replicate 26 0 ++ List.replicate 247 0

/-- Its check (R179), worked out outside the model from the rule's polynomial. -/
theorem bare_check : crc16 bareBody = 0x822A := by
  have h : ([0x01, 0x01, 0x01, 0x19, 0x12, 0x34] ++ List.replicate 26 0 : List Byte).foldl
      crcByte 0xFFFF#16 = 0x68F3 := by decide +kernel
  have z1 : (List.replicate 31 (0 : Byte)).foldl crcByte 0x68F3 = 0x792B := by decide +kernel
  have z2 : (List.replicate 31 (0 : Byte)).foldl crcByte 0x792B = 0xE514 := by decide +kernel
  have z3 : (List.replicate 31 (0 : Byte)).foldl crcByte 0xE514 = 0x5691 := by decide +kernel
  have z4 : (List.replicate 31 (0 : Byte)).foldl crcByte 0x5691 = 0xBEA7 := by decide +kernel
  have z5 : (List.replicate 31 (0 : Byte)).foldl crcByte 0xBEA7 = 0x6ECA := by decide +kernel
  have z6 : (List.replicate 31 (0 : Byte)).foldl crcByte 0x6ECA = 0x8E68 := by decide +kernel
  have z7 : (List.replicate 31 (0 : Byte)).foldl crcByte 0x8E68 = 0x1541 := by decide +kernel
  have z8 : (List.replicate 30 (0 : Byte)).foldl crcByte 0x1541 = 0x822A := by decide +kernel
  rw [bareBody, crc16, List.foldl_append, h, foldl_zeros 31 216, z1, foldl_zeros 31 185, z2,
    foldl_zeros 31 154, z3, foldl_zeros 31 123, z4, foldl_zeros 31 92, z5, foldl_zeros 31 61, z6,
    foldl_zeros 31 30, z7, z8]

/-- The block with every point OFF passes every test of R178. -/
theorem bare_passes : blockFault (bareBody ++ beBytes 2 0x822A) = none := by
  have hb : (bareBody ++ beBytes 2 0x822A).take
        (blockLength (bareBody ++ beBytes 2 0x822A) - 2) = bareBody ∧
      wordAt (bareBody ++ beBytes 2 0x822A)
        (blockLength (bareBody ++ beBytes 2 0x822A) - 2) = 0x822A ∧
      ¬(bareBody ++ beBytes 2 0x822A).length < 4 ∧
      headerFault (bareBody ++ beBytes 2 0x822A) = none ∧
      ¬(bareBody ++ beBytes 2 0x822A).length < blockLength (bareBody ++ beBytes 2 0x822A) ∧
      structureGood (bareBody ++ beBytes 2 0x822A) = true := by
    decide +kernel
  obtain ⟨h1, h2, h3, h4, h5, h6⟩ := hb
  simp only [blockFault, blockCheckGood, h1, h2, h3, h4, h5, h6, bare_check]
  decide +kernel

/-- R178: a load cut short is NO_RESPONSE, or LENGTH or VERSION where the first four bytes fail. -/
theorem test_load_stops :
    (after (.loadTimerExpiry 100) (loadingFrom (block 0))).cfl.reason = .noResponse ∧
      (after (.memoryNoResponse 0) (loadingFrom (block 0))).cfl.reason = .noResponse ∧
      (after (.memoryNoResponse 4) (loadingFrom [2, 1, 1, 0x19])).cfl.reason = .version ∧
      (after (.memoryNoResponse 4) (loadingFrom [1, 1, 0, 63])).cfl.reason = .length := by
  decide +kernel

/-- R178: the model code is taken while the load goes on, once bytes 4 to 9 have been read. -/
theorem test_load_ids :
    let s := loadingFrom (block 0)
    (s.readOn 9).cfl.modelCode = 0 ∧ ((s.readOn 9).readOn 1).cfl.modelCode = 0x1234 ∧
      ((s.readOn 9).readOn 1).cfl.status = .loading ∧
      (after (.memoryNoResponse 5) s).cfl.modelCode = 0 ∧
      (after (.memoryNoResponse 5) (s.readOn 10)).cfl.modelCode = 0x1234 := by
  decide +kernel

/-- R142, R148: the group that was opened first is written with its index and a FAULT notice. -/
theorem test_close_timer :
    let s := { running .timing with
      fcu := { idle.fcu with groups := [⟨aRecord, 0⟩, ⟨{ aRecord with kind := .fanRate }, 40⟩] } }
    (after .closeTimerExpiry s).fcu.log = [aRecord] ∧ (after .closeTimerExpiry s).fcu.groups.length = 1 ∧
      (after .closeTimerExpiry s).bus.notices = [⟨.fault aRecord, 0⟩] := by
  decide +kernel

/-! ### Witnesses: for each statement with hypotheses, states and operands that meet them

Each theorem is named after its statement in Certificates/Slice0/Obligations.lean. Where a statement
has clauses of its own, one conjunct per clause follows, at the clause's boundary where it has one. -/

/-- What a raise needs to become a record at once. -/
theorem records (s : State) (h : s.rcu.run.active = true ∧ s.policyStep.policy = .goOn ∧
    s.cfg.coalesceMs = 0 ∧ s.fcu.log.length < 64 ∧ s.fcu.recordCount + 1 ≠ s.cfg.maxFaults) :
    s.RecordsAtOnce :=
  ⟨h.1, h.2.1, h.2.2.1, h.2.2.2.1, h.2.2.2.2⟩

/-- A configuration whose table permits no source. -/
def refusing (s : State) : State := withConfig { s.cfg with sources := [⟨0, 0, false⟩] } s

/-- A RESPONSE class that is full. -/
def full (s : State) : State :=
  { s with bus := { s.bus with responses := List.replicate 4 waiting } }

/-- The same in another run state. -/
def inRun (r : RunState) (s : State) : State := { s with rcu := { s.rcu with run := r } }

/-- The same with the slot-conflict flag set. -/
def conflict (s : State) : State := { s with bgu := { s.bgu with slotConflict := true } }

/-- A control request that is addressed to every node. -/
def broadcast (kind : Byte) : RxFrame := sentFrame 2 34 63 kind [1] 0

theorem witness_StepRunsTheFrontCommand :
    { idle with pending := [.attemptStart, .busError] }.pending = Instr.attemptStart :: [.busError] ∧
      idle.pending = [] := by
  decide +kernel

theorem witness_HeldStationDoesNotAct : State.reset.inReset = true := by decide +kernel

theorem witness_ResetEndStartsTheStation :
    (State.reset.inReset = true ∧ State.reset.bus.attempt = none ∧
      State.reset.cfl.status = .absent ∧ State.reset.rcu.run = .idle ∧
      State.reset.cfl.fixture ≠ .present) ∧
    { State.reset with cfl := Cfl.reset true [] }.cfl.fixture = .present ∧
      { State.reset with cfl := Cfl.reset true [] }.cfl.status = .absent := by
  decide +kernel

theorem witness_StartClearsTheHistoryAndClaims :
    idle.takesControl 0x20 (request 0x20 [7]) = true ∧ idle.rcu.run = .idle ∧
      idle.bgu.slotConflict = false ∧ idle.cfl.status = .valid ∧ idle.tmu.settled = true ∧
      idle.sou.sensePresent = true ∧ idle.bgu.listening = 0 ∧ idle.bgu.intent = none ∧
      idle.bus.attempt = none ∧ idle.bgu.committed < (idle.stepAt 0).claimW := by
  decide +kernel

/-- An IDLE station keeps OUT0 at 0 mV (R38). -/
theorem witness_StartClearsTheHistoryAndClaims_outputs : idle.outputsSafe :=
  fun _ => by decide +kernel

/-- The same with the supply sense ABSENT. -/
def unpowered (s : State) : State := { s with sou := { s.sou with sensePresent := false } }

/-- An IDLE station at which step 0 claims what is committed, with the state in which START enters
it. -/
def entered (s : State) : State :=
  { s.entering 0 with
    wck := { s.wck with points := .fill ⟨false, 0, 0, 0⟩ }
    lines := s.lines.set 3 { s.lines.get 3 with pulses := 0 } }

theorem witness_StartClearsTheHistoryAndClaims_atOnce :
    let free (t : StepRec) := withStep { t with claimW := 0 } idle
    (∀ s ∈ [free holdStep, free { holdStep with kind := .margin, marginBp := -500 },
        free { holdStep with slew := 0, pressMs := 200 }, free { holdStep with mainMv := 0 },
        free cycleStep, withStep holdStep { idle with bgu := { idle.bgu with committed := 250 } }],
      s.takesControl 0x20 (request 0x20 [7]) = true ∧ s.rcu.run = .idle ∧
      s.bgu.slotConflict = false ∧ s.cfl.status = .valid ∧ s.tmu.settled = true ∧
      s.sou.sensePresent = true ∧ (s.stepAt 0).claimW = s.bgu.committed ∧
      entered s = { s.entering 0 with lines := (entered s).lines, wck := (entered s).wck } ∧
      (∀ i, (entered s).wck.points.get i = ⟨false, 0, 0, 0⟩) ∧
      ∀ i, (entered s).lines.get i = { s.lines.get i with
        pulses := 0, riseRack := none, riseUptime := none, episodes := 0, timer := none
        sup := match (s.lines.get i).sup with
          | .unused => .unused
          | .heartbeat _ => .heartbeat .disarmed
          | .rate _ _ => .rate false false
          | .powerGood _ => .powerGood .off
          | .resetWatch _ => .resetWatch false }) ∧
    (let s := { unpowered idle with
        bus := { idle.bus with notices := List.replicate 6 ⟨.fault aRecord, 0⟩ } };
      s.takesControl 0x20 (request 0x20 [7]) = true ∧ s.rcu.run = .idle ∧
      s.bgu.slotConflict = false ∧ s.cfl.status = .valid ∧ s.tmu.settled = true ∧
      s.sou.sensePresent = false ∧ s.bgu.committed < (s.stepAt 0).claimW ∧
      s.bgu.committed = 0 ∧ s.bus.attempt = none ∧ s.bgu.intent = none ∧ s.bgu.listening = 0 ∧
      s.bus.notices.length + 2 ≤ 8) ∧
    (unpowered (free holdStep)).bgu.committed = ((unpowered (free holdStep)).stepAt 0).claimW := by
  refine ⟨?_, ?_, ?_⟩ <;> decide +kernel

theorem witness_StartIsRefusedInOrder :
    let f := request 0x20 [7]
    ((running .timing).takesControl 0x20 f = true ∧ (running .timing).rcu.run ≠ .idle) ∧
    ((conflict idle).takesControl 0x20 f = true ∧ (conflict idle).rcu.run = .idle ∧
      (conflict idle).bgu.slotConflict = true) ∧
    (loading.takesControl 0x20 f = true ∧ loading.rcu.run = .idle ∧
      loading.bgu.slotConflict = false ∧ loading.cfl.status ≠ .valid) ∧
    { idle with tmu := { idle.tmu with settled := false } }.takesControl 0x20 f = true := by
  decide +kernel

/-- RUNNING with the supervision in force: an ENABLED lane in SEARCH, every line as the flags allow,
and a log, a view and a fixture. -/
def busy : State :=
  { withLane 0 { Lane.reset with lock := .search } (running .timing) with
    lines := ⟨⟨false, 3, none, none, .heartbeat .armed, some 900, 0, 0⟩,
      ⟨false, 3, none, none, .rate true false, some 900, 7, 0⟩,
      ⟨true, 3, none, none, .powerGood (.up 4000), none, 0, 0⟩,
      ⟨true, 3, none, none, .resetWatch false, none, 0, 0⟩⟩
    fcu := { idle.fcu with log := [aRecord], recordCount := 1 }
    bgu := { (running .timing).bgu with peers := rackView 250 } }

/-- Its lines stand as the flags allow (R124). -/
theorem busy_lines : busy.linesFollowBoard := by
  intro i
  match i with
  | 0 => exact show Heartbeat.armed = .disarmed ↔ true = false by decide
  | 1 => exact show true = true from rfl
  | 2 => exact show true = false → PowerGood.up 4000 = .off by decide
  | 3 => exact show true = false → false = false by decide

theorem witness_PauseHoldsTheOutputs :
    let s := { busy with sou := { busy.sou with level0 := 12500 } }
    let flat := { busy with sou := { busy.sou with level0 := 0 } }
    let f := request 0x21 [1]
    (s.takesControl 0x21 f = true ∧ s.rcu.run = .running ∧
      s.sou.level0 ≤ s.cfg.mainMaxMv ∧ s.sou.level0 ≤ 13200 ∧ s.sou.level1 ≤ s.cfg.standbyMaxMv ∧
      s.sou.level1 ≤ 5500 ∧ s.sou.level2 ≤ 100) ∧
    (0 < s.sou.level0 ∧ s.rcu.phase ≠ .off ∧ (s.lanes.get 0).lock ≠ .off ∧
      s.cfg.laneEnable.getLsbD 1 = false ∧ (s.lanes.get 2).lock = .off ∧
      s.cfg.laneEnable.getLsbD 2 = true ∧ s.rcu.boardOn = true) ∧
    (flat.takesControl 0x21 f = true ∧ flat.rcu.run = .running ∧ flat.sou.level0 = 0) ∧
    ((inRun .paused s).takesControl 0x21 f = true ∧ (inRun .paused s).rcu.run = .paused) ∧
    (claiming.takesControl 0x21 f = true ∧ claiming.rcu.run ∉ [.running, .paused]) := by
  decide +kernel

/-- PAUSED in a phase at an OUT0 level, under a first step. -/
def pausedAt (x : StepRec) (p : Phase) (mv : Nat) : State :=
  withStep x (inRun .paused { running p with
    sou := { (running p).sou with target0 := mv, level0 := mv } })

/-- The same with no arrival taken, and a power-on pending or not. -/
def unarrived (pending : Bool) (s : State) : State :=
  { s with rcu := { s.rcu with arrivalTaken := false, powerOnPending := pending } }

/-- The same with a power-on completion held, and an expiry of the on timer or not. -/
def heldUp (on : Bool) (s : State) : State :=
  { s with rcu := { s.rcu with heldPowerOn := true, heldOn := on } }

theorem witness_ResumeReturnsTargetsAndHeldReports :
    let f := request 0x22 [1]
    let still := { holdStep with slew := 0 }
    (∀ s ∈ [pausedAt holdStep .timing 12000, pausedAt reachStep .reaching 12000,
        pausedAt cycleStep .on 12000, pausedAt cycleStep .off 0, pausedAt holdStep .timing 11000,
        pausedAt still .timing 11000],
      s.takesControl 0x22 f = true ∧ s.rcu.run = .paused ∧ s.rcu.heldPowerOn = false ∧
      s.rcu.heldReach = false ∧ s.rcu.phase ≠ .none ∧ s.rcu.arrivalTaken = true) ∧
    (∀ s ∈ [unarrived false (pausedAt holdStep .settling 11999),
        unarrived true (pausedAt cycleStep .powering 0)],
      s.takesControl 0x22 f = true ∧ 0 < s.theStep.slew ∧ s.sou.level0 ≠ s.asks) ∧
    (∀ b, ∀ s ∈ [unarrived b (pausedAt holdStep .settling 12000),
        unarrived b (pausedAt { holdStep with pressMs := 200, blankingMs := 0 } .settling 12000),
        unarrived b (pausedAt reachStep .settling 12000), unarrived b (pausedAt still .settling 9000),
        unarrived b (pausedAt cycleStep .powering 12000)],
      s.takesControl 0x22 f = true ∧ s.rcu.run = .paused ∧ s.rcu.heldPowerOn = false ∧
      s.rcu.heldReach = false ∧ (s.rcu.phase = .settling ∨ s.rcu.phase = .powering) ∧
      s.rcu.arrivalTaken = false ∧ s.asks ≤ 13200 ∧
      (s.theStep.slew = 0 ∨ s.sou.level0 = s.asks) ∧ s.bus.attempt = none ∧
      s.bgu.pendingLower = none) ∧
    (∀ s ∈ [heldUp false (pausedAt holdStep .settling 12000),
        heldUp false (pausedAt reachStep .settling 12000),
        heldUp false (pausedAt cycleStep .powering 12000),
        heldUp true (pausedAt cycleStep .powering 12000)],
      s.takesControl 0x22 f = true ∧ s.rcu.run = .paused ∧ s.rcu.arrivalTaken = true ∧
      s.rcu.heldPowerOn = true ∧ s.rcu.heldReach = false ∧ s.rcu.iteration + 1 < cycleStep.repeats) ∧
    (let third := { heldUp true (pausedAt cycleStep .powering 12000) with
        rcu := { (heldUp true (pausedAt cycleStep .powering 12000)).rcu with iteration := 2 } };
      third.theStep.repeats ≤ third.rcu.iteration + 1 ∧
      third.rcu.step + 1 < third.cfg.steps.length ∧
      (withConfig { third.cfg with steps := [cycleStep] } third).cfg.steps.length ≤
        third.rcu.step + 1 ∧
      (withConfig { third.cfg with steps := [cycleStep] } third).theStep.repeats = 3) ∧
    (let s := pausedAt reachStep .reaching 12000;
      let r := { s with rcu := { s.rcu with heldReach := true } };
      r.takesControl 0x22 f = true ∧ r.rcu.run = .paused ∧ r.rcu.phase = .reaching ∧
      r.rcu.arrivalTaken = true ∧ r.rcu.heldPowerOn = false ∧ r.rcu.heldReach = true) ∧
    ((running .timing).takesControl 0x22 f = true ∧ (running .timing).rcu.run = .running) ∧
    (ended.takesControl 0x22 f = true ∧ ended.rcu.run ∉ [.running, .paused]) := by
  and_intros <;> decide +kernel

/-- In blanking the lines of a paused run follow a board-on flag that is set, and in OFF one that is
clear. -/
theorem witness_ResumeReturnsTargetsAndHeldReports_lines :
    let s := pausedAt holdStep .timing 12000
    let on := { s with rcu := { s.rcu with blanking := true } }
    let c := pausedAt cycleStep .off 0
    let off := { c with rcu := { c.rcu with boardOn := false, blanking := true } }
    (on.linesFollowBoard ∧ on.powered = true ∧ on.rcu.boardOn = true) ∧
      (off.linesFollowBoard ∧ off.powered = false ∧ off.rcu.boardOn = false) := by
  refine ⟨⟨fun i => ?_, by decide +kernel, rfl⟩, fun i => ?_, by decide +kernel, rfl⟩
  · exact match i with
      | 0 => show Heartbeat.disarmed = .disarmed ↔ false = false by decide
      | 1 => show false = false from rfl
      | 2 => show true = false → PowerGood.off = .off by decide
      | 3 => show false = false → false = false by decide
  · exact match i with
      | 0 => show Heartbeat.disarmed = .disarmed ↔ false = false by decide
      | 1 => show false = false from rfl
      | 2 => show false = false → PowerGood.off = .off by decide
      | 3 => show false = false → false = false by decide

theorem witness_AbortEndsTheRun :
    let s := running .timing
    let safe (a : SafeSource) := withConfig { config with out1Safe := a, out2Safe := a } s
    (s.takesControl 0x23 (request 0x23 [1]) = true ∧ s.rcu.run.active = true ∧
      s.cfg.out1Safe = .zero ∧ s.cfg.out2Safe = .zero) ∧
    ((safe .value).takesControl 0x23 (request 0x23 [1]) = true ∧
      (safe .value).cfg.out1Safe = .value ∧ (safe .value).cfg.out2Safe = .value) ∧
    ((safe .hold).takesControl 0x23 (request 0x23 [1]) = true ∧
      (safe .hold).cfg.out1Safe = .hold ∧ (safe .hold).cfg.out2Safe = .hold ∧
      (safe .hold).sou.level1 ≤ min (safe .hold).cfg.standbyMaxMv 5500 ∧
      (safe .hold).sou.level2 ≤ 100) ∧
    (ended.takesControl 0x23 (request 0x23 [1]) = true ∧ ended.rcu.run.active = false) := by
  decide +kernel

theorem witness_ClearReturnsToIdle :
    let f := request 0x24 [1]
    (ended.takesControl 0x24 f = true ∧ ended.rcu.run = .ended) ∧
      (idle.takesControl 0x24 f = true ∧ idle.rcu.run = .idle) ∧
      ((running .timing).takesControl 0x24 f = true ∧ (running .timing).rcu.run ≠ .ended ∧
        (running .timing).rcu.run ≠ .idle) := by
  decide +kernel

theorem witness_SnapshotCopiesTheCounters :
    idle.takesControl 0x25 (request 0x25 [1]) = true ∧
      idle.takesBroadcast 0x25 (broadcast 0x25) = true ∧
      (after (.snapshot (request 0x25 [1])) idle).bus.snapshot ≠ idle.bus.snapshot := by
  refine ⟨?_, ?_, fun h => absurd (congrArg Snapshot.rack h) ?_⟩ <;> decide +kernel

theorem witness_BroadcastControlIsNotAnswered :
    let commands (f : RxFrame) : List Instr :=
      [.start f, .pause f, .resume f, .abort f, .clear f, .snapshot f]
    (∀ k ∈ [(0x20 : Byte), 0x21, 0x22, 0x23, 0x24, 0x25],
      ∀ s ∈ [idle, running .timing, inRun .paused (running .timing), ended],
        s.takesBroadcast k (broadcast k) = true ∧ s.takesControl k (request k [1]) = true) ∧
    (∀ k ∈ [(0x20 : Byte), 0x21, 0x22, 0x23, 0x24, 0x25],
      ((commands (broadcast k)).filterMap frameOf).contains (k, broadcast k) = true) ∧
    (idle.rcu.run = .idle ∧ idle.bgu.slotConflict = false ∧ idle.cfl.status = .valid ∧
      idle.tmu.settled = true ∧ idle.sou.sensePresent = true ∧
      idle.bgu.committed < (idle.stepAt 0).claimW) ∧
    ((unpowered idle).takesBroadcast 0x20 (broadcast 0x20) = true ∧
      (unpowered idle).takesControl 0x20 (request 0x20 [1]) = true ∧
      (unpowered idle).sou.sensePresent = false) ∧
    ((running .timing).rcu.run = .running ∧ (running .timing).rcu.run.active = true) ∧
    (inRun .paused (running .timing)).rcu.run = .paused ∧ ended.rcu.run = .ended := by
  decide +kernel

theorem witness_RequestsAreTurnedAwayInOrder :
    let c := request 0x20 []
    let r := request 0x30 [1]
    let p := request 0x24 [1]
    let other := sentFrame 2 34 6 0x20 [1] 0
    let read := sentFrame 2 34 63 0x30 [1, 0] 0
    let long := sentFrame 2 34 63 0x20 [1, 2] 0
    (frameOf (.start c) = some (0x20, c) ∧ (full idle).hears 0x20 c = true ∧
      (full idle).addressed c = true ∧ (full idle).responseFull = true) ∧
    (idle.hears 0x20 c = true ∧ idle.addressed c = true ∧ idle.responseFull = false ∧
      c.payload.length ≠ 1) ∧
    (frameOf (.status r) = some (0x30, r) ∧ idle.hears 0x30 r = true ∧ idle.addressed r = true ∧
      r.payload.length ≠ 2) ∧
    (frameOf (.clear p) = some (0x24, p) ∧ (refusing idle).hears 0x24 p = true ∧
      (refusing idle).addressed p = true ∧ (refusing idle).responseFull = false ∧
      p.payload.length = 1 ∧ permits (refusing idle).sources p.source = false) ∧
    (idle.hears 0x20 other = true ∧ idle.addressed other = false ∧ other.dest ≠ 63) ∧
    (idle.hears 0x30 read = true ∧ idle.addressed read = false ∧ read.dest = 63) ∧
    (idle.hears 0x20 long = true ∧ idle.addressed long = false ∧ long.dest = 63 ∧
      long.payload.length ≠ 1) ∧
    ((refusing idle).hears 0x24 (broadcast 0x24) = true ∧
      (refusing idle).addressed (broadcast 0x24) = false ∧
      permits (refusing idle).sources (broadcast 0x24).source = false) := by
  decide +kernel

theorem witness_HighestMatchingSourceEntryDecides :
    let s := refusing { idle with rcu := { idle.rcu with switchClosed := some 2001 } }
    (([⟨32, 1, true⟩, ⟨40, 6, false⟩] : List SourceEntry) ≠ []) ∧
    ((⟨40, 6, false⟩ : SourceEntry).length ≤ 6) ∧
    ((refusing idle).takesRead 0x30 (request 0x30 [1, 0]) = true ∧
      frameOf (.status (request 0x30 [1, 0])) = some (0x30, request 0x30 [1, 0])) ∧
    (s.inReset = false ∧ (∀ src, permits s.sources src = false) ∧ s.rcu.switchClosed = some 2001 ∧
      elapsed s.tmu.uptime 2001 < 3000 ∧ s.rcu.run = .idle ∧ s.bgu.slotConflict = false ∧
      s.cfl.status = .valid ∧ s.tmu.settled = true ∧ s.sou.sensePresent = true ∧
      s.bgu.committed < (s.stepAt 0).claimW) := by
  decide +kernel

theorem witness_StatusReportsTheTables :
    (∀ page ∈ [(0 : Byte), 1, 2, 255], idle.takesRead 0x30 (request 0x30 [1, page]) = true) ∧
      byteAt (request 0x30 [1, 0]).payload 1 = 0 ∧ byteAt (request 0x30 [1, 1]).payload 1 = 1 ∧
      byteAt (request 0x30 [1, 2]).payload 1 = 2 := by
  decide +kernel

theorem witness_LogCountersAndPointsAreRead :
    let s := { idle with fcu := { idle.fcu with log := [aRecord] } }
    (s.takesRead 0x31 (request 0x31 [1, 0]) = true ∧
      s.fcu.log[byteAt (request 0x31 [1, 0]).payload 1]? = some aRecord ∧
      aRecord.context.isSome = true) ∧
    (s.takesRead 0x31 (request 0x31 [1, 1]) = true ∧
      s.fcu.log.length ≤ byteAt (request 0x31 [1, 1]).payload 1) ∧
    (∀ g ∈ [(0 : Byte), 1, 2, 3, 4], s.takesRead 0x32 (request 0x32 [1, g]) = true) ∧
    (s.takesRead 0x33 (request 0x33 [1, 7]) = true ∧
      byteAt (request 0x33 [1, 7]).payload 1 = (7 : Fin 8)) ∧
    (s.takesRead 0x33 (request 0x33 [1, 8]) = true ∧
      8 ≤ byteAt (request 0x33 [1, 8]).payload 1) := by
  decide +kernel

theorem witness_OnlyWholeFramesOfUsedKindsAct :
    let whole := request 0x20 [1]
    let odd := sentFrame 2 34 6 0x7F [1] 0
    (frameOf (.start whole) = some (0x20, whole)) ∧
    48 < { whole with length := 49 }.length.toNat ∧
    { whole with payload := [] }.payload.length ≠ whole.length.toNat ∧
    crc16 (frameBody 0x20 { whole with check := 0 }) ≠ { whole with check := 0 }.check ∧
    (idle.hears 0x40 (fromSlot 7 0x40 []) = true) ∧
    ((0x7F : Byte) ∉ ownRowKinds ∧ (0x7F : Byte) ∉ [0x10, 0x11, 0x40]) ∧
    (idle.hears 0x7F odd = true ∧ idle.addressed odd = false) ∧
    ((full idle).hears 0x7F (request 0x7F [1]) = true ∧
      (full idle).addressed (request 0x7F [1]) = true ∧ (full idle).responseFull = true) ∧
    (idle.hears 0x7F (request 0x7F [1]) = true ∧ idle.responseFull = false) := by
  decide +kernel

theorem witness_OwnSlotFramesSetTheConflict :
    let f := fromSlot 5 0x03 [0, 100]
    (frameOf (.commitReceived f) = some (0x03, f) ∧ idle.inReset = false ∧
      frameIntact 0x03 f = true ∧ f.source = idle.slot.setWidth 6) ∧
    ((conflict idle).takesControl 0x20 (request 0x20 [1]) = true ∧
      (conflict idle).bgu.slotConflict = true ∧ (conflict idle).rcu.run = .idle) ∧
    ((conflict { idle with rcu := { idle.rcu with switchClosed := some 2001 } }).rcu.switchClosed =
      some 2001 ∧ elapsed idle.tmu.uptime 2001 < 3000) ∧
    ((conflict idle).takesRead 0x30 (request 0x30 [1, 1]) = true ∧
      byteAt (request 0x30 [1, 1]).payload 1 = 1) := by
  decide +kernel

/-- A BEACON of slot 31 that reports CLAIMING and carries a rack time, delivered 184 µs after its
first bit. -/
def beaconAt (s ns : Nat) : RxFrame :=
  sentFrame 3 31 63 0x01 (beBytes 4 s ++ beBytes 4 ns ++ [1, 0, 0, 0, 1, 44, 0, 0, 0]) 9200

theorem witness_PauseHoldsTheOutputs_lines :
    { busy with sou := { busy.sou with level0 := 12500 } }.linesFollowBoard := busy_lines

theorem witness_BeaconUpdatesItsPeerAndTheClock :
    let lead (ns : Nat) : Int := leadNanos ⟨7, ns⟩ (idle.receiveStamp (beaconAt 7 ns))
    let waits := waitingSince 3000 [⟨31, 300, none, 5000, true⟩]
    (idle.hears 0x01 (beaconAt 7 999817980) = true ∧ (beaconAt 7 999817980).source.toNat < 32 ∧
      (beaconAt 7 999817980).payload.length = 17 ∧ idle.bgu.waitingSince = none ∧
      idle.bgu.intent = none ∧ lead 999817980 = 2000) ∧
    (idle.hears 0x01 (beaconAt 7 999817981) = true ∧ lead 999817981 = 2001) ∧
    (waits.hears 0x01 (beaconAt 7 0) = true ∧
      waits.heldClaim 31 ≤ min (wordAt (beaconAt 7 0).payload 12) 400) ∧
    lead 999815979 = -1 := by
  decide +kernel

theorem witness_BudgetFramesUpdateTheirPeer :
    let i := fromSlot 31 0x02 (beBytes 8 0 ++ [1, 144])
    let c := fromSlot 0 0x03 [1, 145]
    let waits := waitingSince 3000 [⟨0, 400, none, 5000, true⟩]
    (i.source.toNat < 32 ∧ waits.hears 0x02 i = true ∧ i.payload.length = 10) ∧
    (c.source.toNat < 32 ∧ idle.hears 0x03 c = true ∧ c.payload.length = 2 ∧
      idle.bgu.waitingSince = none) ∧
    (waits.hears 0x03 c = true ∧ waits.heldClaim 0 ≤ min (wordAt c.payload 0) 400) := by
  decide +kernel

theorem witness_RetryCausesAskTheSameClaim :
    let old : Peer := ⟨2, 300, none, 5000 - 10000, false⟩
    let s := waitingSince 3000 [old]
    let f := fromSlot 2 0x03 [1, 43]
    let b := sentFrame 3 2 63 0x01 (beBytes 4 8 ++ beBytes 4 0 ++ [1, 0, 0, 0, 1, 43, 0, 0, 0]) 0
    (s.inReset = false ∧ s.bgu.waitingSince = some 3000 ∧ s.bgu.intent = none ∧
      s.bus.attempt = none ∧ s.tmu.settled = true ∧ s.bgu.listening = 0 ∧
      s.bgu.accumulator < 600000) ∧
    2000 ≤ elapsed s.tmu.uptime 3000 ∧
    (old ∈ s.bgu.peers ∧ old.slot = (2 : BitVec 5).toNat ∧
      10000 ≤ elapsed s.tmu.uptime old.lastHeard) ∧
    (s.hears 0x03 f = true ∧ f.payload.length = 2 ∧ f.source.toNat < 32 ∧
      min (wordAt f.payload 0) 400 < s.heldClaim f.source.toNat) ∧
    (s.hears 0x01 b = true ∧ b.payload.length = 17 ∧ b.source.toNat < 32 ∧
      min (wordAt b.payload 12) 400 < s.heldClaim b.source.toNat) := by
  decide +kernel

theorem witness_PeerEntriesAge :
    let p (u : Uptime) : Peer := ⟨2, 300, some ⟨350, ⟨7, 0⟩, u⟩, u, true⟩
    let s (u : Uptime) := { idle with bgu := { idle.bgu with peers := [p u] } }
    ((s 4001).inReset = false ∧ (s 4001).bgu.waitingSince = none ∧
      findPeer (2 : BitVec 5).toNat (s 4001).bgu.peers = some (p 4001) ∧
      (p 4001).intent = some ⟨350, ⟨7, 0⟩, 4001⟩ ∧ elapsed idle.tmu.uptime 4001 = 999) ∧
    (findPeer (2 : BitVec 5).toNat (s 4000).bgu.peers = some (p 4000) ∧
      elapsed idle.tmu.uptime 4000 = 1000) ∧
    (findPeer (2 : BitVec 5).toNat (s (5000 - 10000)).bgu.peers = some (p (5000 - 10000)) ∧
      elapsed idle.tmu.uptime (5000 - 10000) = 10000) ∧
    (findPeer (2 : BitVec 5).toNat (s (5000 - 9999)).bgu.peers = some (p (5000 - 9999)) ∧
      ∀ q ∈ (s (5000 - 9999)).bgu.peers, elapsed idle.tmu.uptime q.lastHeard < 10000) ∧
    ((waitingSince 3000 [p 4000]).inReset = false ∧
      (waitingSince 3000 [p 4000]).bgu.waitingSince = some 3000 ∧
      findPeer (2 : BitVec 5).toNat (waitingSince 3000 [p 4000]).bgu.peers = some (p 4000)) := by
  decide +kernel

/-- A notice that stands in the outbox. -/
def aNotice : Queued Notice := ⟨.fault aRecord, 0⟩

/-- A station with one frame in every class. -/
def loaded : State :=
  { idle with bus := { idle.bus with
    budget := some ⟨.commit, 0⟩, notices := [aNotice], responses := [waiting]
    beacon := some ⟨(), 0⟩ } }

theorem witness_AttemptSendsTheLowestClass :
    let noBudget := { loaded with bus := { loaded.bus with budget := none } }
    let noNotice := { noBudget with bus := { noBudget.bus with notices := [] } }
    let noResponse := { noNotice with bus := { noNotice.bus with responses := [] } }
    (List.replicate 255 (0 : Byte)).length < 256 ∧
    (claiming.inReset = false ∧ claiming.bus.attempt = none ∧
      claiming.bus.budget = some ⟨.intent 250 true, 0⟩) ∧
    (loaded.inReset = false ∧ loaded.bus.attempt = none ∧ loaded.bus.budget = some ⟨.commit, 0⟩) ∧
    (noBudget.bus.attempt = none ∧ noBudget.bus.budget = none ∧
      noBudget.bus.notices = aNotice :: []) ∧
    (noNotice.bus.budget = none ∧ noNotice.bus.notices = [] ∧
      noNotice.bus.responses = waiting :: []) ∧
    (noResponse.bus.budget = none ∧ noResponse.bus.notices = [] ∧ noResponse.bus.responses = [] ∧
      noResponse.bus.beacon ≠ none) ∧
    (idle.bus.attempt = none ∧ idle.bus.budget = none ∧ idle.bus.notices = [] ∧
      idle.bus.responses = [] ∧ idle.bus.beacon = none) := by
  decide +kernel

theorem witness_CheckCatchesAnyOneByte : (0 : Byte) ≠ 1 := by decide +kernel

theorem witness_FailedAttemptsKeepTheirFrame :
    let s (c : FrameClass) := attempting c loaded
    let newer := { s .budget with bus := { (s .budget).bus with
      budget := some ⟨.commit, 2⟩, budgetNext := some .commit } }
    let newerBeacon := { s .beacon with bus := { (s .beacon).bus with beaconNext := true } }
    let isolated := { s .notice with bus := { (s .notice).bus with isolated := true } }
    ((s .budget).inReset = false ∧ (s .budget).bus.attempt = some ⟨.budget, ⟨7, 200000⟩, []⟩ ∧
      (s .budget).bus.budgetNext = none ∧ (s .budget).bus.beaconNext = false ∧
      (s .budget).bus.isolated = false ∧ (s .budget).bus.budget = some ⟨.commit, 0⟩) ∧
    (newer.inReset = false ∧ newer.bus.attempt = some ⟨.budget, ⟨7, 200000⟩, []⟩ ∧
      newer.bus.budgetNext = some .commit ∧ newer.bus.beaconNext = false) ∧
    (newerBeacon.inReset = false ∧ newerBeacon.bus.attempt = some ⟨.beacon, ⟨7, 200000⟩, []⟩ ∧
      newerBeacon.bus.budgetNext = none ∧ newerBeacon.bus.beaconNext = true) ∧
    (isolated.bus.isolated = true ∧ isolated.bus.budgetNext = none) ∧
    ((s .notice).bus.attempt = some ⟨.notice, ⟨7, 200000⟩, []⟩ ∧
      (s .notice).bus.notices = aNotice :: []) ∧
    ((s .response).bus.attempt = some ⟨.response, ⟨7, 200000⟩, []⟩ ∧
      (s .response).bus.responses = waiting :: []) ∧
    ((s .beacon).bus.attempt = some ⟨.beacon, ⟨7, 200000⟩, []⟩ ∧
      (s .beacon).bus.beacon = some ⟨(), 0⟩) := by
  decide +kernel

theorem witness_TransmitCompleteFreesTheClass :
    let s (c : FrameClass) := attempting c loaded
    let own := attempting .budget claiming
    let withdrawn (next : Option BudgetFrame) (i : Option OwnIntent) := { own with
      bus := { own.bus with budget := some ⟨.intent 250 false, 0⟩, budgetNext := next }
      bgu := { own.bgu with intent := i } }
    let isolated (r : Bool) := { inRun .isolated (s .notice) with
      rcu := { loaded.rcu with run := .isolated, isolatedRun := r }
      bus := { (s .notice).bus with isolated := true }
      cfl := { loaded.cfl with status := if r then .valid else .absent } }
    (∀ c, (s c).inReset = false ∧ (s c).bus.attempt = some ⟨c, ⟨7, 200000⟩, []⟩ ∧
      (s c).bus.isolated = false ∧ (s c).bus.budgetNext = none ∧ (s c).bus.beaconNext = false) ∧
    (own.bus.budget = some ⟨.intent 250 true, 0⟩ ∧ own.bgu.intent = some ⟨250, .queued⟩ ∧
      own.bus.budgetNext = none ∧ own.bus.beaconNext = false) ∧
    (∀ next ∈ [none, some BudgetFrame.commit, some (.intent 300 true)],
      ∀ i ∈ [none, some (⟨300, .queued⟩ : OwnIntent), some ⟨300, .held⟩],
      (withdrawn next i).inReset = false ∧ (withdrawn next i).bus.isolated = false ∧
      (withdrawn next i).bus.attempt = some ⟨.budget, ⟨7, 200000⟩, []⟩ ∧
      (withdrawn next i).bus.budget = some ⟨.intent 250 false, 0⟩ ∧
      (withdrawn next i).bus.beaconNext = false) ∧
    (∀ r, (isolated r).inReset = false ∧ (isolated r).bus.isolated = true ∧
      (isolated r).rcu.run = .isolated ∧ (isolated r).rcu.isolatedRun = r) ∧
    ((isolated false).cfl.fixture = .present ∧ (isolated false).cfl.status = .absent) ∧
    ¬((isolated true).cfl.fixture = .present ∧ (isolated true).cfl.status = .absent) := by
  refine ⟨fun c => ?_, ?_, ?_, ?_, ?_, ?_⟩
  · cases c <;> decide +kernel
  all_goals decide +kernel

theorem witness_SilentBusIsolatesTheStation :
    let silent (s : State) := { s with bus := { s.bus with successTimer := some 0 } }
    ((silent (running .timing)).inReset = false ∧
      (silent (running .timing)).bus.successTimer = some 0 ∧
      (silent (running .timing)).bus.isolated = false ∧
      (silent (running .timing)).rcu.run.active = true ∧
      (running .timing).bus.notices.length + (running .timing).fcu.groups.length + 2 ≤ 8 ∧
      (running .timing).fcu.log.length + (running .timing).fcu.groups.length < 64) ∧
    ((silent idle).bus.successTimer = some 0 ∧ (silent idle).rcu.run.active = false) := by
  decide +kernel

/-- Counting down to an arrival: one tick of 100 mV before 12000 mV in SETTLING. -/
def landing : State :=
  { running .settling with
    rcu := { (running .settling).rcu with arrivalTaken := false, blanking := true }
    sou := { (running .settling).sou with level0 := 11900 } }

/-- The same with a power-on pending. -/
def pendingOn (s : State) : State := { s with rcu := { s.rcu with powerOnPending := true } }

theorem witness_TickMovesTimersAndOutputs :
    let limited (n : LimitTimer) := { running .timing with
      sou := { (running .timing).sou with limitInput := true, limit := n } }
    let reading (b : List Byte) := { loadingFrom b with cfl := { (loadingFrom b).cfl with read := 9 } }
    (idle.inReset = false ∧ idle.sou.level0 = idle.sou.target0 ∧ idle.cfl.status ≠ .loading) ∧
    (let s := { landing with sou := { landing.sou with
        level0 := 11899, limitInput := true, limit := .counting 9 } };
      approach s.sou.level0 s.sou.target0 s.sou.slew ≠ s.sou.target0 ∧ s.rcu.run = .running ∧
      s.sou.limit = .counting 9) ∧
    ((limited .idle).sou.level0 = (limited .idle).sou.target0 ∧ (limited .idle).sou.level0 ≠ 0 ∧
      (limited .expired).sou.limit = .expired) ∧
    (let s := inRun .paused (withLine 2 ⟨false, 0, none, none, .powerGood .waiting, some 9, 0, 0⟩
        (running .settling));
      s.sou.level0 = s.sou.target0 ∧ s.rcu.run = .paused ∧
      (s.lines.get 2).sup = .powerGood .waiting) ∧
    (let s := { idle with cfl := { idle.cfl with fixture := .debouncing 99 } };
      s.cfl.fixture = .debouncing 99 ∧ s.rcu.run ≠ .running) ∧
    ((reading blockBody).sou.level0 = (reading blockBody).sou.target0 ∧
      (reading blockBody).cfl.status = .loading ∧ (reading [2, 1, 1, 0x19]).cfl.status = .loading) ∧
    (let b := blockBody.take 10;
      10 ≤ b.length ∧ 64 ≤ wordAt b 2 ∧ wordAt b 2 ≤ 2048 ∧ byteAt b 0 = 1) := by
  decide +kernel

/-- Ticks on which OUT0 lands that are no arrival: under the outputs of the step before, in PAUSED, in a
phase whose arrival is taken, and off the level of the phase. -/
theorem witness_TickMovesTimersAndOutputs_landing :
    ∀ s ∈ [inRun .claiming landing, inRun .waiting landing, inRun .paused landing,
        { landing with rcu := { landing.rcu with arrivalTaken := true } },
        withStep { holdStep with mainMv := 9000 } landing],
      s.inReset = false ∧ s.sou.level0 ≠ s.sou.target0 ∧
      approach s.sou.level0 s.sou.target0 s.sou.slew = s.sou.target0 ∧
      (s.rcu.run ≠ .running ∨ s.rcu.arrivalTaken = true ∨ s.sou.target0 ≠ s.asks) := by
  decide +kernel

theorem witness_LandingIsTheArrival :
    let lands (s : State) : Bool := decide (s.inReset = false ∧ s.sou.level0 ≠ s.sou.target0 ∧
      approach s.sou.level0 s.sou.target0 s.sou.slew = s.sou.target0 ∧
      (s.rcu.phase = .settling ∨ s.rcu.phase = .powering) ∧
      s.rcu.arrivalTaken = false ∧ s.asks = s.sou.target0 ∧ s.bus.attempt = none)
    let lower := withStep { reachStep with blankingMs := 0 } { landing with
      bgu := { landing.bgu with pendingLower := some 200 } }
    let pressing := withStep { holdStep with pressMs := 400 } (pendingOn landing)
    let powering := withStep cycleStep { landing with rcu := { landing.rcu with phase := .powering } }
    (lands landing ∧ landing.rcu.run = .running ∧ 0 < landing.theStep.blankingMs ∧
      landing.bgu.pendingLower = none ∧ landing.rcu.powerOnPending = false ∧
      landing.theStep.reachPresent = false) ∧
    (lands (inRun .paused landing) ∧ (inRun .paused landing).rcu.run = .paused) ∧
    (lands lower ∧ lower.theStep.blankingMs = 0 ∧ lower.bgu.pendingLower = some 200 ∧
      lower.rcu.powerOnPending = false ∧ lower.theStep.reachPresent = true) ∧
    (lands pressing ∧ pressing.rcu.powerOnPending = true ∧ 0 < pressing.theStep.pressMs ∧
      0 < pressing.sou.target0) ∧
    (lands (pendingOn landing) ∧ (pendingOn landing).theStep.pressMs = 0 ∧
      (pendingOn landing).powerGoodLine = some 2 ∧
      ((pendingOn landing).lines.get 2).high = false) ∧
    (lands powering ∧ powering.rcu.run = .running ∧ powering.rcu.phase = .powering ∧
      powering.rcu.powerOnPending = false) ∧
    (lands (pendingOn powering) ∧ (pendingOn powering).rcu.phase = .powering ∧
      0 < (pendingOn powering).theStep.pressMs) := by
  decide +kernel

theorem witness_RackTimeAdvancesBy20ns :
    idle.inReset = false ∧ (⟨7, 999999999⟩ : RackTime).ns < 1000000000 ∧
      (0 ≤ leadNanos ⟨0, 0⟩ ⟨0xFFFFFFFF, 999999999⟩) ∧ idle.tmu.rack.ns < 1000000000 ∧
      (∀ source ∈ [(34 : BitVec 6), 5, 31],
        let f := { beaconAt 7 999817981 with
          source := source
          check := crc16 (frameBody 0x01 { beaconAt 7 999817981 with source := source }) };
        frameIntact 0x01 f = true ∧ f.payload.length = 17 ∧
        leadNanos ⟨BitVec.ofNat 32 (longAt f.payload 0), longAt f.payload 4⟩
          (idle.receiveStamp f) = 2001) ∧
      (after .rackTimeAdvance idle).tmu.rack ≠ idle.tmu.rack := by
  decide +kernel

/-- A settled station with a held intent. -/
def holding : State :=
  { claiming with
    bgu := { claiming.bgu with intent := some ⟨250, .held⟩ }, bus := idle.bus
    tmu := { claiming.tmu with settleTimer := some 0 } }

theorem witness_TimersQueueIntentsAndBeacons :
    let unsettled := { holding with tmu := { holding.tmu with settled := false } }
    (unsettled.inReset = false ∧ unsettled.bus.attempt = none ∧
      unsettled.tmu.settleTimer = some 0 ∧ unsettled.bgu.intent = some ⟨250, .held⟩ ∧
      unsettled.bgu.listening = 0 ∧ unsettled.tmu.settled = false) ∧
    (holding.tmu.settleTimer = some 0 ∧ holding.tmu.settled = true) ∧
    (0 < { unsettled with bgu := { unsettled.bgu with listening := 1 } }.bgu.listening) ∧
    (holding.inReset = false ∧ holding.bus.attempt = none ∧ holding.bgu.listening = 0 ∧
      holding.bgu.intent = some ⟨250, .held⟩) ∧
    (idle.bus.beaconTimer = 0 ∧ idle.bus.attempt = none) ∧
    ((attempting .beacon loaded).bus.beaconTimer = 0 ∧
      (attempting .beacon loaded).bus.attempt = some ⟨.beacon, ⟨7, 200000⟩, []⟩) ∧
    0 < { idle.bus with beaconTimer := 1 }.beaconTimer := by
  decide +kernel

/-- At the end of a press in SETTLING. -/
def pressed (s : State) : State :=
  withStep { holdStep with pressMs := 400 } { s with
    sou := { s.sou with pressed := true, pressTimer := some 0 } }

theorem witness_PressEndGoesOnWithThePowerOn :
    let on := pressed (pendingOn (running .settling))
    let plain := { on with lines := .fill (Line.reset false) }
    let risen := withLine 2 ⟨true, 1, some ⟨7, 0⟩, some 4900, .powerGood .off, none, 0, 0⟩ on
    let unstamped := withLine 2 ⟨true, 0, none, none, .powerGood .off, none, 0, 0⟩ on
    let cycle (held : Bool) := withStep cycleStep { plain with
      rcu := { plain.rcu with phase := .powering, heldOn := held } }
    let lower := { cycle true with bgu := { (cycle true).bgu with pendingLower := some 200 } }
    let third := { cycle true with rcu := { (cycle true).rcu with iteration := 2 } }
    let last := withConfig { third.cfg with steps := [cycleStep] } third
    ((pressed (running .timing)).inReset = false ∧
      (pressed (running .timing)).sou.pressTimer = some 0 ∧
      (pressed (running .timing)).poweringOn = false) ∧
    (on.sou.pressTimer = some 0 ∧ on.poweringOn = true ∧ 0 < on.theStep.pressMs ∧
      on.powerGoodLine = some 2 ∧ (on.lines.get 2).high = false) ∧
    (plain.poweringOn = true ∧ plain.powerGoodLine = none ∧ plain.rcu.run = .running ∧
      plain.rcu.phase = .settling ∧ plain.theStep.reachPresent = false) ∧
    (∀ s ∈ [risen, unstamped], s.poweringOn = true ∧ s.powerGoodLine = some 2 ∧
      (s.lines.get 2).high = true ∧ s.rcu.phase = .settling) ∧
    ((withStep { reachStep with pressMs := 400 } plain).poweringOn = true ∧
      (withStep { reachStep with pressMs := 400 } plain).theStep.reachPresent = true) ∧
    (∀ h, (cycle h).poweringOn = true ∧ 0 < (cycle h).theStep.pressMs ∧
      (cycle h).powerGoodLine = none ∧ (cycle h).rcu.run = .running ∧
      (cycle h).rcu.phase = .powering ∧ (cycle h).rcu.heldOn = h ∧
      (cycle h).rcu.iteration + 1 < (cycle h).theStep.repeats ∧
      (cycle h).bgu.pendingLower = none) ∧
    (lower.bgu.pendingLower = some 200 ∧ lower.bus.attempt = none) ∧
    (∀ s ∈ [third, last], s.poweringOn = true ∧ s.powerGoodLine = none ∧ s.rcu.run = .running ∧
      s.rcu.phase = .powering ∧ s.rcu.heldOn = true ∧ s.theStep.repeats ≤ s.rcu.iteration + 1) ∧
    (third.rcu.step + 1 < third.cfg.steps.length ∧
      (third.stepAt (third.rcu.step + 1)).claimW ≤ third.bgu.committed) ∧
    (last.cfg.steps.length ≤ last.rcu.step + 1 ∧ last.fcu.groups = []) ∧
    ((inRun .paused plain).poweringOn = true ∧ (inRun .paused plain).powerGoodLine = none) := by
  and_intros <;> decide +kernel

/-- In a power-good wait whose timer has run out. -/
def waitingGood : State :=
  withLine 2 ⟨false, 0, none, none, .powerGood .waiting, some 0, 0, 0⟩ (pendingOn (running .settling))

/-- The same with an empty check set. -/
def unchecked (s : State) : State :=
  withConfig { s.cfg with profiles := .fill ⟨0, .fill none⟩ } s

/-- The same of a line that is waited for, in a run state and a phase. -/
def waitingIn (r : RunState) (p : Phase) (held : Bool) (s : State) : State :=
  { s with rcu := { s.rcu with run := r, phase := p, heldOn := held } }

theorem witness_PowerGoodWaitEndsBothWays :
    let reach := withStep reachStep waitingGood
    let powering (held : Bool) := waitingIn .running .powering held (withStep cycleStep waitingGood)
    let third := { powering true with rcu := { (powering true).rcu with iteration := 2 } }
    (∀ s ∈ [waitingGood, reach, powering false, powering true, third,
        waitingIn .paused .settling false waitingGood, waitingIn .paused .powering true waitingGood],
      s.inReset = false ∧ s.powerGoodLine = some 2 ∧ (s.lines.get 2).sup = .powerGood .waiting ∧
      (s.lines.get 2).high = false ∧ s.rcu.powerOnPending = true ∧ s.rcu.arrivalTaken = true ∧
      (s.lines.get 2).timer = some 0 ∧ s.checked 14 = true ∧ (unchecked s).checked 14 = false) ∧
    (waitingGood.rcu.run = .running ∧ waitingGood.rcu.phase = .settling ∧
      waitingGood.theStep.reachPresent = false ∧ reach.theStep.reachPresent = true) ∧
    (∀ h, (powering h).rcu.run = .running ∧ (powering h).rcu.phase = .powering ∧
      (powering h).rcu.heldOn = h ∧ (powering h).rcu.iteration + 1 < (powering h).theStep.repeats) ∧
    (third.theStep.repeats = third.rcu.iteration + 1 ∧
      third.rcu.step + 1 < third.cfg.steps.length) ∧
    (let last := withConfig { third.cfg with steps := [cycleStep] } third;
      last.powerGoodLine = some 2 ∧ last.theStep.repeats = last.rcu.iteration + 1 ∧
      last.cfg.steps.length ≤ last.rcu.step + 1 ∧ (unchecked last).checked 14 = false) ∧
    waitingGood.RecordsAtOnce ∧ (powering false).RecordsAtOnce := by
  refine ⟨?_, ?_, ?_, ?_, ?_, records _ ?_, records _ ?_⟩ <;> decide +kernel

theorem witness_PowerGoodWaitEndsBothWays_abandoned :
    let s (r : RunState) (p : Phase) (high : Bool) (mv : Nat) :=
      withStep { holdStep with policy := .nextStep } { waitingGood with
        rcu := { waitingGood.rcu with run := r, phase := p }
        sou := { waitingGood.sou with target0 := mv }
        bgu := { waitingGood.bgu with committed := 249 }
        bus := { waitingGood.bus with successTimer := some 0 }
        lines := (waitingGood.lines.set 0
            ⟨false, 3, none, none, .heartbeat .armed, some 0, 0, 0⟩).set 2
          ⟨high, 1, none, if high then some 4000 else none, .powerGood .waiting, some 9, 0, 0⟩ }
    ∀ r ∈ [RunState.running, .paused], ∀ p ∈ [Phase.settling, .powering], ∀ high,
      ∀ mv ∈ [0, 12000],
      (s r p high mv).inReset = false ∧ ((s r p high mv).lines.get 2).sup = .powerGood .waiting ∧
      ((s r p high mv).lines.get 0).sup = .heartbeat .armed ∧
      ((s r p high mv).lines.get 0).timer = some 0 ∧ (s r p high mv).checked 12 = true ∧
      (s r p high mv).rcu.run.active = true ∧ (s r p high mv).policyStep.policy = .nextStep ∧
      (s r p high mv).cfg.coalesceMs = 0 ∧
      (s r p high mv).fcu.recordCount + 1 ≠ (s r p high mv).cfg.maxFaults ∧
      (s r p high mv).rcu.step + 1 < (s r p high mv).cfg.steps.length ∧
      (s r p high mv).bgu.committed <
        ((s r p high mv).stepAt ((s r p high mv).rcu.step + 1)).claimW ∧
      (s r p high mv).takesControl 0x23 (request 0x23 [1]) = true ∧
      (s r p high mv).bus.successTimer = some 0 ∧ (s r p high mv).bus.isolated = false := by
  decide +kernel

/-- RUNNING at the expiry of the duration timer, before a step. -/
def timedOut (next : StepRec) : State :=
  withConfig { config with steps := [holdStep, next] } { running .timing with
    rcu := { (running .timing).rcu with duration := some 0 } }

/-- The step that follows. -/
def stepAfter (s : State) : StepRec := s.stepAt (s.rcu.step + 1)

/-- At the start of a HOLD or MARGIN step OUT0 does not stand on the step's set-point. -/
def ramps (s : State) : Bool :=
  decide (s.theStep.kind ≠ .cycle ∧ 0 < s.theStep.slew ∧ s.sou.level0 ≠ setPoint s.cfg s.theStep)

/-- At the start of a HOLD or MARGIN step OUT0 stands on the step's set-point as its targets are
applied. -/
def arrives (s : State) : Bool :=
  decide (s.theStep.kind ≠ .cycle ∧ s.rcu.arrivalTaken = false ∧ setPoint s.cfg s.theStep ≤ 13200 ∧
    (s.theStep.slew = 0 ∨ s.sou.level0 = setPoint s.cfg s.theStep))

theorem ramps_spec (s : State) (h : ramps s = true) :
    s.theStep.kind ≠ .cycle ∧ ¬s.landsAtStart := by
  obtain ⟨h₁, h₂, h₃⟩ := of_decide_eq_true h
  exact ⟨h₁, fun l => l.2.elim (by omega) h₃⟩

theorem arrives_spec (s : State) (h : arrives s = true) :
    s.theStep.kind ≠ .cycle ∧ s.rcu.arrivalTaken = false ∧ s.landsAtStart := by
  unfold State.landsAtStart
  exact of_decide_eq_true h

/-- With OUT0 at a level. -/
def atLevel (mv : Nat) (s : State) : State :=
  { s with sou := { s.sou with target0 := mv, level0 := mv } }

theorem witness_DurationEndsTheStep :
    let s := timedOut { holdStep with mainMv := 9000 }
    let last := { s with rcu := { s.rcu with step := 1 } }
    let higher := timedOut { holdStep with claimW := 251 }
    let margin := timedOut { holdStep with kind := .margin, marginBp := -1000, claimW := 249 }
    let cycle (w : Nat) := timedOut { cycleStep with claimW := w }
    (last.inReset = false ∧ last.rcu.run = .running ∧ last.rcu.duration = some 0 ∧
      last.cfg.steps.length ≤ last.rcu.step + 1 ∧ last.fcu.recordCount + last.openRecords.length = 0 ∧
      last.bus.notices.length < 8) ∧
    (higher.inReset = false ∧ higher.rcu.run = .running ∧ higher.rcu.duration = some 0 ∧
      higher.rcu.step + 1 < higher.cfg.steps.length ∧
      higher.bgu.committed < (stepAfter higher).claimW ∧ higher.bgu.intent = none ∧
      higher.tmu.settled = true ∧ higher.bgu.listening = 0 ∧ higher.bus.attempt = none) ∧
    (rawSetPoint config (stepAfter margin) = 10800 ∧
      rawSetPoint config { holdStep with mainMv := 12500 } = config.mainMaxMv ∧
      (config.mainMaxMv : Int) < rawSetPoint config { cycleStep with mainMv := 12501 }) ∧
    (∀ x ∈ [s, margin, atLevel 0 s, atLevel 0 margin], x.inReset = false ∧
      x.rcu.duration = some 0 ∧ x.rcu.step + 1 < x.cfg.steps.length ∧
      (stepAfter x).claimW ≤ x.bgu.committed ∧ ramps (x.entering (x.rcu.step + 1)) = true) ∧
    ((stepAfter s).claimW = s.bgu.committed ∧ (stepAfter margin).claimW < margin.bgu.committed) ∧
    ((atLevel 0 s).sou.level0 = 0 ∧
      0 < setPoint (atLevel 0 s).cfg ((atLevel 0 s).entering 1).theStep) ∧
    ((cycle 250).rcu.step + 1 < (cycle 250).cfg.steps.length ∧
      (stepAfter (cycle 250)).claimW = (cycle 250).bgu.committed ∧
      (stepAfter (cycle 250)).kind = .cycle ∧ (cycle 250).bus.attempt = none ∧
      (stepAfter (cycle 249)).claimW < (cycle 249).bgu.committed) := by
  and_intros <;> decide +kernel

/-- Starts that land OUT0: on the set-point that it stands on, on one of 0 mV, or with no slew; from
0 mV with a press, with a POWER_GOOD line that is low or high, or with none. -/
theorem witness_DurationEndsTheStep_landing :
    let there := timedOut { holdStep with blankingMs := 0 }
    let zero := timedOut { holdStep with mainMv := 0, claimW := 249 }
    let lower := { holdStep with slew := 0, claimW := 249 }
    let high := withLine 2 ⟨true, 0, none, none, .powerGood .off, none, 0, 0⟩
    (∀ x ∈ [there, timedOut lower, atLevel 0 zero, atLevel 0 (timedOut lower),
        atLevel 0 (timedOut { lower with pressMs := 200 }), atLevel 0 (high (timedOut lower)),
        atLevel 0 { timedOut lower with lines := .fill (Line.reset false) }],
      x.inReset = false ∧ x.rcu.run = .running ∧ x.rcu.duration = some 0 ∧ x.bus.attempt = none ∧
      x.rcu.step + 1 < x.cfg.steps.length ∧ (stepAfter x).claimW ≤ x.bgu.committed ∧
      arrives (x.entering (x.rcu.step + 1)) = true) ∧
    (0 < (stepAfter zero).blankingMs ∧ (stepAfter there).blankingMs = 0) ∧
    ((timedOut lower).powerGoodLine = some 2 ∧ ((timedOut lower).lines.get 2).high = false ∧
      ((timedOut lower).lines.get 2).sup = .powerGood .off ∧ there.sou.level0 ≠ 0) ∧
    ((high (timedOut lower)).powerGoodLine = some 2 ∧
      ((high (timedOut lower)).lines.get 2).high = true) ∧
    { timedOut lower with lines := .fill (Line.reset false) }.powerGoodLine = none ∧
    0 < { lower with pressMs := 200 }.pressMs := by
  and_intros <;> decide +kernel

/-- REACHING for point 4 at the expiry of its timer. -/
def reachingOut (p : Policy) : State :=
  withStep { reachStep with policy := p } { running .reaching with
    rcu := { (running .reaching).rcu with reach := some 0 } }

theorem witness_ReachTimeoutRaisesNotReached :
    let onward := reachingOut .nextStep
    let higher := { onward with bgu := { onward.bgu with committed := 249 } }
    let last := withConfig { onward.cfg with steps := [onward.stepAt 0] } onward
    (∀ p, (reachingOut p).inReset = false ∧ (reachingOut p).rcu.run = .running ∧
      (reachingOut p).rcu.phase = .reaching ∧ (reachingOut p).rcu.reach = some 0 ∧
      (reachingOut p).theStep.reachPoint = (4 : Fin 8).val ∧
      (reachingOut p).policyStep.policy = p) ∧
    (reachingOut .stop).cfg.coalesceMs = 0 ∧ (reachingOut .goOn).RecordsAtOnce ∧
    (onward.cfg.coalesceMs = 0 ∧ onward.fcu.log.length < 64 ∧
      onward.fcu.recordCount + 1 ≠ onward.cfg.maxFaults ∧
      onward.rcu.step + 1 < onward.cfg.steps.length ∧
      (onward.stepAt (onward.rcu.step + 1)).claimW ≤ onward.bgu.committed) ∧
    higher.bgu.committed < (higher.stepAt (higher.rcu.step + 1)).claimW ∧
    (last.policyStep.policy = .nextStep ∧ last.theStep.reachPoint = 4 ∧
      last.cfg.steps.length ≤ last.rcu.step + 1 ∧ last.fcu.groups = []) := by
  refine ⟨fun p => by cases p <;> decide +kernel, ?_, records _ ?_, ?_, ?_, ?_⟩ <;> decide +kernel

/-- A run at a HANG of a checked line under the policy NEXT_STEP. -/
def hanging (r : RunState) : State :=
  withStep { holdStep with policy := .nextStep } (inRun r
    (withLine 0 ⟨false, 3, none, none, .heartbeat .armed, some 0, 0, 0⟩ (running .timing)))

theorem witness_ReachTimeoutRaisesNotReached_everyState :
    let withdrawn (i : OwnIntent) := { hanging .claiming with
      bgu := { (hanging .claiming).bgu with intent := some i } }
    let higher (r : RunState) := { hanging r with bgu := { (hanging r).bgu with committed := 249 } }
    let last (r : RunState) := withConfig { (hanging r).cfg with steps := [(hanging r).stepAt 0] }
      (hanging r)
    (∀ r ∈ [RunState.claiming, .waiting, .running, .paused],
      (hanging r).inReset = false ∧ (hanging r).rcu.run.active = true ∧
      (hanging r).checked 12 = true ∧ (hanging r).policyStep.policy = .nextStep ∧
      (hanging r).cfg.coalesceMs = 0 ∧ (hanging r).fcu.log.length < 64 ∧
      (hanging r).fcu.recordCount + 1 ≠ (hanging r).cfg.maxFaults ∧
      ((hanging r).lines.get 0).sup = .heartbeat .armed ∧
      ((hanging r).lines.get 0).timer = some 0 ∧
      (hanging r).rcu.step + 1 < (hanging r).cfg.steps.length) ∧
    (∀ r ∈ [RunState.claiming, .waiting, .running, .paused],
      (stepAfter (hanging r)).claimW = (hanging r).bgu.committed ∧
      (higher r).bgu.committed < (stepAfter (higher r)).claimW ∧ (higher r).tmu.settled = true ∧
      (higher r).bgu.listening = 0 ∧ (higher r).bus.attempt = none) ∧
    (∀ r ∈ [RunState.claiming, .waiting, .running, .paused],
      (last r).checked 12 = true ∧ (last r).policyStep.policy = .nextStep ∧
      (last r).cfg.steps.length ≤ (last r).rcu.step + 1 ∧ (last r).fcu.groups = []) ∧
    (withdrawn ⟨250, .window ⟨7, 0⟩⟩).bgu.intent = some ⟨250, .window ⟨7, 0⟩⟩ ∧
    (withdrawn ⟨250, .queued⟩).bgu.intent = some ⟨250, .queued⟩ := by
  and_intros <;> decide +kernel

/-- The last step of a run with two open groups, under a limit of records and a coalescing window. -/
def closing (limit window : Nat) (s : State) : State :=
  let c := { s.cfg with steps := s.cfg.steps.take 1, maxFaults := limit, coalesceMs := window }
  withConfig c { s with fcu := { s.fcu with groups := [⟨aRecord, 7⟩,
    ⟨{ aRecord with kind := .laneLost, points := [8] }, 9⟩] } }

/-- Runs that complete with two groups open, below, at and beyond the limit of records. -/
theorem witness_DurationEndsTheStep_closing :
    let third := { pausedAt cycleStep .on 12000 with rcu := { (running .on).rcu with
      on := some 0, duration := some 0, iteration := 2 } }
    (∀ s ∈ [third, reachingOut .nextStep, reachingOut .stop, hanging .paused],
      ∀ window ∈ [0, 100], ∀ limit ∈ [1, 2, 3],
      (closing limit window s).cfg.steps.length ≤ (closing limit window s).rcu.step + 1 ∧
      (closing limit window s).openRecords.length = 2 ∧
      (closing limit window s).bus.notices.length + 3 + 1 ≤ 8 ∧
      (closing limit window s).fcu.log.length + 3 ≤ 64) ∧
    ((closing 2 0 third).rcu.run = .running ∧ (closing 2 0 third).rcu.phase = .on ∧
      (closing 2 0 third).rcu.duration = some 0 ∧ (closing 2 0 third).rcu.on = some 0 ∧
      (closing 2 0 third).theStep.repeats ≤ (closing 2 0 third).rcu.iteration + 1) ∧
    ((closing 1 0 third).reachesMaxFaults 2 ∧ (closing 2 0 third).reachesMaxFaults 2 ∧
      ¬(closing 3 0 third).reachesMaxFaults 2 ∧ (closing 3 0 third).reachesMaxFaults 3) ∧
    (∀ window ∈ [0, 100], (closing 3 window (hanging .paused)).checked 12 = true ∧
      (closing 3 window (hanging .paused)).policyStep.policy = .nextStep ∧
      (closing 3 window (reachingOut .stop)).policyStep.policy = .stop ∧
      (closing 3 window (reachingOut .nextStep)).policyStep.policy = .nextStep) ∧
    (aRecord.kind = .hang ∧ ∀ q ∈ (closing 3 100 (reachingOut .stop)).openRecords,
      q.kind ≠ .notReached) := by
  and_intros <;> (try unfold State.reachesMaxFaults) <;> decide +kernel

/-- A CYCLE step in a phase. -/
def cycling (p : Phase) : State := withStep cycleStep (running p)

theorem witness_CycleTimersSwitchTheBoard :
    let off := { cycling .off with
      rcu := { (cycling .off).rcu with off := some 0 }
      sou := { (cycling .off).sou with target0 := 0, level0 := 0 } }
    let on (p : Phase) (n : Nat) := { cycling p with
      rcu := { (cycling p).rcu with on := some 0, iteration := n } }
    let lower := { on .on 1 with bgu := { (on .on 1).bgu with pendingLower := some 200 } }
    let higher := { on .on 2 with bgu := { (on .on 2).bgu with committed := 249 } }
    let last := withConfig { (on .on 2).cfg with steps := [cycleStep] } (on .on 2)
    let jump (t : StepRec) := withStep t off
    (∀ t ∈ [{ cycleStep with slew := 0 }, { cycleStep with mainMv := 0 },
        { cycleStep with slew := 0, pressMs := 0, blankingMs := 0 }],
      (jump t).rcu.phase = .off ∧ (jump t).rcu.off = some 0 ∧ (jump t).sou.level0 = 0 ∧
      ((jump t).theStep.slew = 0 ∨ setPoint (jump t).cfg (jump t).theStep = 0) ∧
      setPoint (jump t).cfg (jump t).theStep ≤ 13200 ∧ (jump t).bgu.pendingLower = none) ∧
    (0 < cycleStep.pressMs ∧ { jump cycleStep with
      lines := .fill (Line.reset false) }.powerGoodLine = none) ∧
    (off.inReset = false ∧ off.rcu.run = .running ∧ off.rcu.phase = .off ∧ off.rcu.off = some 0 ∧
      off.sou.level0 = 0 ∧ 0 < off.theStep.slew ∧ 0 < setPoint off.cfg off.theStep ∧
      setPoint off.cfg off.theStep ≤ 13200) ∧
    ((on .on 1).rcu.phase = .on ∧ (on .on 1).rcu.on = some 0 ∧
      (on .on 1).rcu.iteration + 1 < (on .on 1).theStep.repeats ∧
      (on .on 1).bgu.pendingLower = none) ∧
    (lower.rcu.on = some 0 ∧ lower.bgu.pendingLower = some 200 ∧ lower.bus.attempt = none) ∧
    ((on .on 2).rcu.phase = .on ∧ (on .on 2).rcu.on = some 0 ∧
      (on .on 2).theStep.repeats ≤ (on .on 2).rcu.iteration + 1 ∧
      (on .on 2).rcu.step + 1 < (on .on 2).cfg.steps.length ∧
      (stepAfter (on .on 2)).claimW ≤ (on .on 2).bgu.committed ∧
      higher.bgu.committed < (stepAfter higher).claimW) ∧
    (last.rcu.phase = .on ∧ last.theStep.repeats ≤ last.rcu.iteration + 1 ∧
      last.cfg.steps.length ≤ last.rcu.step + 1 ∧ last.fcu.groups = []) ∧
    ((on .powering 1).rcu.phase = .powering ∧ (on .powering 1).rcu.on = some 0) := by
  and_intros <;> decide +kernel

theorem witness_BlankingEndArmsTheSupervision :
    let s := { running .timing with
      rcu := { (running .timing).rcu with blanking := true, blankingTimer := some 0 } }
    s.inReset = false ∧ s.rcu.run = .running ∧ s.rcu.blankingTimer = some 0 ∧ 0 < s.sou.target0 ∧
      s.rcu.phase ≠ .off ∧ (s.lines.get 0).sup = .heartbeat .disarmed ∧
      (s.lines.get 1).sup = .rate false false := by
  decide +kernel

theorem witness_SupplyInputsTakeTheirReadings :
    ((running .timing).sou.limit = .idle ∧ 0 < (running .timing).sou.level0) ∧
      idle.sou.level0 = 0 ∧
      (ended.inReset = false ∧ ended.rcu.run = .ended ∧ ended.sou.sensePresent = true) ∧
      idle.rcu.run = .idle ∧ (inRun .isolated idle).rcu.run = .isolated := by
  decide +kernel

theorem witness_ForcedRaisesEndTheRun :
    let limit := { running .timing with sou := { (running .timing).sou with limit := .counting 10 } }
    let late := { waitingSince 3000 [] with
      bgu := { (waitingSince 3000 []).bgu with accumulator := 600000 } }
    (limit.inReset = false ∧ limit.rcu.run.active = true ∧ limit.sou.limit = .counting 10 ∧
      limit.fcu.log.length + limit.fcu.groups.length < 64) ∧
    ((running .timing).rcu.run.active = true ∧ (running .timing).sou.sensePresent = true) ∧
    (late.inReset = false ∧ late.rcu.run.active = true ∧ late.bgu.waitingSince ≠ none ∧
      600000 ≤ late.bgu.accumulator) := by
  decide +kernel

theorem witness_StartSwitchActsAtItsRelease :
    let closed (u : Uptime) (s : State) := { s with rcu := { s.rcu with switchClosed := some u } }
    (idle.inReset = false ∧ idle.rcu.switchClosed = none) ∧
    ((closed 2001 idle).takesBroadcast 0x20 (broadcast 0x20) = true ∧
      (closed 2001 idle).rcu.switchClosed = some 2001 ∧ elapsed idle.tmu.uptime 2001 = 2999 ∧
      (closed 2001 idle).rcu.run = .idle ∧ (closed 2001 idle).bgu.slotConflict = false ∧
      (closed 2001 idle).cfl.status = .valid ∧ (closed 2001 idle).tmu.settled = true ∧
      (closed 2001 idle).sou.sensePresent = true ∧ (closed 2001 idle).bgu.listening = 0 ∧
      (closed 2001 idle).bgu.intent = none ∧ (closed 2001 idle).bus.attempt = none ∧
      (closed 2001 idle).bgu.committed < ((closed 2001 idle).stepAt 0).claimW) ∧
    ((closed 2000 ended).takesBroadcast 0x24 (broadcast 0x24) = true ∧
      elapsed ended.tmu.uptime 2000 = 3000 ∧ (closed 2000 ended).rcu.run = .ended) ∧
    ((closed 2001 (unpowered idle)).rcu.switchClosed = some 2001 ∧
      (closed 2001 (unpowered idle)).rcu.run = .idle ∧
      (closed 2001 (unpowered idle)).cfl.status = .valid ∧
      (closed 2001 (unpowered idle)).sou.sensePresent = false) ∧
    ((closed 2001 ended).rcu.run ≠ .idle ∧ (closed 2000 idle).rcu.run ≠ .ended) := by
  decide +kernel
theorem witness_ScanStartsAtTheLowestPoint :
    let off := withConfig { config with points := .fill ⟨.off, .none, 32768, 0, false, 0, 0, 1⟩ } idle
    (idle.inReset = false ∧ idle.asc.scanner = .between 5000 ∧
      elapsed idle.tmu.uptime 5000 < 140737488355328 ∧ (idle.cfg.points.get 0).range ≠ .off ∧
      ∀ j, j < 0 → (idle.cfg.points.get j).range = .off) ∧
    { idle.asc with scanner := .between 5001 }.scanner = .between 5001 ∧
    140737488355328 ≤ elapsed idle.tmu.uptime 5001 ∧
    (off.inReset = false ∧ off.asc.scanner = .between 5000 ∧
      (∀ i, (off.cfg.points.get i).range = .off) ∧ off.sou.level0 = 0) ∧
    loading.asc.scanner = .stopped ∧ (scanning 1 idle).asc.scanner = .scanning 5010 1 := by
  decide +kernel

/-- A conversion of point 0 that is not judged, with an open reach request for a point and a target,
band 20. The filtered value comes to 12001 mV (Section 4.11.1). -/
def reachSample (point : Nat) (target : Int) : State :=
  scanning 0 (unchecked { running .reaching with
    asc := { idle.asc with points := idle.asc.points.set 0 (steady 192000 12000) }
    wck := { idle.wck with reach := some ⟨point, target, 20⟩ } })

theorem witness_ConversionScalesCalibratesAndFilters :
    ((scanning 0 idle).inReset = false ∧ (scanning 0 idle).asc.scanner = .scanning 5010 0 ∧
      (scanning 0 idle).judges 0 = false ∧ (scanning 0 idle).wck.reach = none ∧
      (0 : Fin 8) < 1 ∧ (idle.cfg.points.get 1).range ≠ .off ∧
      ∀ n : Fin 8, 0 < n → n < 1 → (idle.cfg.points.get n).range = .off) ∧
    (∀ r ∈ [reachSample 0 12021, reachSample 0 11981, reachSample 0 12022, reachSample 0 11980,
        reachSample 1 12001], r.inReset = false ∧ r.asc.scanner = .scanning 5010 0 ∧
      r.judges 0 = false ∧ r.rcu.run = .running ∧ r.rcu.phase = .reaching ∧
      ((r.asc.points.get 0).convert (r.cfg.points.get 0) 1861600).y = 12001) ∧
    ((reachSample 0 12021).wck.reach = some ⟨0, 12021, 20⟩ ∧ (12021 - 20 : Int) ≤ 12001 ∧
      (12001 : Int) ≤ 11981 + 20 ∧ (12001 : Int) < 12022 - 20 ∧ (11980 + 20 : Int) < 12001) ∧
    (inRun .paused (reachSample 0 12021)).rcu.run = .paused ∧
    (PointValue.reset.running = false ∧ (1000 : Int) ≤ 1000 ∧ (1000 : Int) ≤ 2000 ∧
      ∀ m ∈ [(1000 : Int), 2000], 1000 ≤ m ∧ m ≤ 2000) := by
  and_intros <;> decide +kernel

/-- A judged conversion of point 0 with a sample below its window, 11640 mV at 12000 mV. -/
def straying : State :=
  scanning 0 { running .timing with
    asc := { idle.asc with points := idle.asc.points.set 0 (steady 186000 11625) } }

/-- The same under a persistence of 3, at a filtered value and in a window state. -/
def judging (acc y : Int) (w : Window) : State :=
  let s := withConfig { config with
    points := config.points.set 0 { config.points.get 0 with persistence := 3 } } straying
  { s with
    asc := { s.asc with points := s.asc.points.set 0 (steady acc y) }
    wck := { s.wck with points := s.wck.points.set 0 w } }

/-- What a judged sample of point 0 comes to. -/
def judgedClass (uv : Int) (s : State) : SampleClass :=
  classify (s.nominal 0) (s.tolerance 0)
    ((s.asc.points.get 0).convert (s.cfg.points.get 0) uv).y

theorem witness_WindowsTurnAtTheirPersistence :
    ((0 < 3 ∧ 3 ≤ 255) ∧ SampleClass.low ≠ .inside) ∧ (5000 ≤ 5000) ∧
    (∀ s ∈ [straying, judging 186000 11625 ⟨false, 2, 0, 0⟩], s.inReset = false ∧
      s.asc.scanner = .scanning 5010 0 ∧ s.judges 0 = true ∧ s.wck.reach = none ∧
      (s.cfg.points.get 1).range ≠ .off ∧
      (∀ n : Fin 8, 0 < n → n < 1 → (s.cfg.points.get n).range = .off) ∧
      (s.wck.points.get 0).out = false ∧
      (s.cfg.points.get 0).persistence = (s.wck.points.get 0).excursionRun + 1 ∧
      judgedClass 1800000 s = .low) ∧
    (∀ w ∈ [(⟨false, 0, 0, 0⟩ : Window), ⟨false, 1, 0, 0⟩, ⟨true, 0, 2, 5⟩],
      (judging 186000 11625 w).judges 0 = true ∧
      (judging 186000 11625 w).asc.scanner = .scanning 5010 0 ∧
      judgedClass 1800000 (judging 186000 11625 w) = .low ∧
      (w.out = true ∨ w.excursionRun + 1 < 3)) ∧
    (∀ w ∈ [(⟨false, 2, 0, 0⟩ : Window), ⟨true, 0, 1, 5⟩, ⟨true, 0, 2, 5⟩],
      (judging 192000 12000 w).judges 0 = true ∧
      judgedClass 1861600 (judging 192000 12000 w) = .inside) ∧
    straying.RecordsAtOnce ∧ (judging 186000 11625 ⟨false, 2, 0, 0⟩).RecordsAtOnce := by
  refine ⟨?_, ?_, ?_, ?_, ?_, records _ ?_, records _ ?_⟩ <;> decide +kernel

/-- In blanking, at the last enabled point of a scan, with a voltage, a current and an overdraw
count. -/
def completing (volts amps : Int) (n : Nat) : State :=
  scanning 2 { running .timing with
    rcu := { (running .timing).rcu with blanking := true }
    asc := { idle.asc with
      points := (idle.asc.points.set 0 (steady (volts * 16) volts)).set 1 (steady amps amps) }
    bgu := { (running .timing).bgu with overdrawSamples := n } }

theorem witness_ScanCompletionJudgesThePower :
    let power (s : State) : Nat :=
      let pts := s.asc.points.set 2 ((s.asc.points.get 2).convert (s.cfg.points.get 2) 1375000)
      ((pts.get 0).y * (pts.get 1).y / 100000).toNat
    ((completing 12500 22496 2).inReset = false ∧
      (completing 12500 22496 2).asc.scanner = .scanning 5010 2 ∧
      (completing 12500 22496 2).judges 2 = false ∧ (completing 12500 22496 2).wck.reach = none ∧
      (∀ n : Fin 8, 2 < n → ((completing 12500 22496 2).cfg.points.get n).range = .off) ∧
      8 * power (completing 12500 22496 2) ≤ 90 * (completing 12500 22496 2).bgu.committed) ∧
    (0 < (completing 12500 22504 1).sou.level0 ∧
      90 * (completing 12500 22504 1).bgu.committed < 8 * power (completing 12500 22504 1) ∧
      (completing 12500 22504 1).bgu.overdrawSamples + 1 <
        (completing 12500 22504 1).cfg.overdrawCount) ∧
    (90 * (completing 12500 22504 2).bgu.committed < 8 * power (completing 12500 22504 2) ∧
      (completing 12500 22504 2).cfg.overdrawCount ≤
        (completing 12500 22504 2).bgu.overdrawSamples + 1 ∧
      (completing 12500 22504 2).rcu.run.active = true) := by
  decide +kernel

/-- A sign that is not determined is violated by no group (R106). -/
theorem undetermined_violates (w : Weight) : signViolation w .undetermined = false := by
  cases w <;> rfl

/-- The MARKER, whatever pattern it is, violates no undetermined sign. -/
theorem marker_without_sign :
    ∃ w, groupOf markerGroup = .marker w ∧ signViolation w .undetermined = false :=
  groupOf_marker.imp fun w h => ⟨h.2, undetermined_violates w⟩

/-- The data group of byte 0, whatever pattern it is, is DATA and violates no undetermined sign. -/
theorem data_without_sign :
    ∃ w, groupOf (dataGroup 0) = .data w ∧ signViolation w .undetermined = false :=
  (groupOf_other (n := 0) (by decide) (by decide)).imp fun w h => ⟨h.2, undetermined_violates w⟩

/-- The two are different patterns, and neither is the unused one of no ones. -/
theorem markerGroup_alone : dataGroup 0 ≠ markerGroup ∧ (0 : BitVec 10) ≠ markerGroup := by
  obtain ⟨w, hw, -⟩ := marker_without_sign
  obtain ⟨v, hv, -⟩ := data_without_sign
  refine ⟨fun h => ?_, fun h => ?_⟩
  · rw [h, hw] at hv; cases hv
  · rw [← h, groupOf_unweighed rfl] at hw; cases hw

/-- Lane 1 as given, on a profile that checks every id. -/
def checkedLane (l : Lane) : State :=
  withLane 1 l (withConfig { config with profiles := .fill ⟨0xFFFF, .fill none⟩ } (running .timing))

/-- The same in blanking. -/
def blanked (s : State) : State := { s with rcu := { s.rcu with blanking := true } }

/-- No counter of lane 1 is at the end of its range or before its threshold. -/
theorem belowThresholds_of (g : CodeGroup) (s : State)
    (h : ∀ k ∈ [ErrorKind.sign, .code, .mark], ((s.lanes.get 1).counter k).count < 255 ∧
      ((s.lanes.get 1).counter k).count + 1 ≠ (s.cfg.errorClass k).threshold) :
    s.belowThresholds 1 g :=
  fun k _ => h k (by cases k <;> decide)

/-- A lane with counters from which one error reaches no threshold. -/
def counting (k : Lock) : Lane :=
  { Lane.reset with lock := k, signErrors := ⟨2, false⟩, codeErrors := ⟨2, false⟩
                    markErrors := ⟨2, true⟩ }

theorem witness_LanesLockByTheirGroups :
    let lane (l : Lane) := withLane 1 l (running .timing)
    let search := counting .search
    let code := counting .codeLock
    let frame := counting .frameLock
    groupOf 0 = .unknown ∧ groupOf (dataGroup 0) ≠ .unknown ∧
    (∃ w, groupOf markerGroup = .marker w ∧ signViolation w code.sign = false) ∧
    (∃ w, groupOf (dataGroup 0) = .data w ∧ signViolation w frame.sign = false) ∧
    (dataGroup 0 ≠ markerGroup ∧ (0 : BitVec 10) ≠ markerGroup) ∧
    (signViolation .plus .pos = true ∧ signViolation .minus .neg = true) ∧
    (∀ l ∈ [Lane.reset, { search with searchRun := 14 }, { search with searchRun := 15 }, code,
        { code with distance := some 255 }, { code with unknownRun := 3 },
        { frame with framePosition := 254, markErrorRun := 3 },
        { frame with framePosition := 255, markErrorRun := 3 },
        { frame with framePosition := 255, markErrorRun := 3, unknownRun := 2 },
        { frame with framePosition := 255, unknownRun := 3 }],
      (lane l).inReset = false ∧ (lane l).lanes.get 1 = l ∧ (lane l).checked 9 = false ∧
      (checkedLane l).checked 9 = true ∧ (checkedLane l).rcu.blanking = false ∧
      (blanked (checkedLane l)).rcu.blanking = true ∧ (checkedLane l).lanes.get 1 = l) ∧
    (Lane.reset.lock = .off ∧ search.lock = .search ∧ code.lock = .codeLock ∧
      frame.lock = .frameLock ∧ code.distance ≠ some 255) := by
  obtain ⟨w, hw, -⟩ := data_without_sign
  refine ⟨groupOf_unweighed rfl, hw ▸ nofun, marker_without_sign, data_without_sign,
    markerGroup_alone, ?_, ?_, ?_⟩
  all_goals decide +kernel

/-- A lane of any such state raises nothing where it is not checked or blanking is in force, and its
raises become records otherwise; no group brings a counter to its threshold. -/
theorem witness_LanesLockByTheirGroups_raises (g : CodeGroup) :
    let slipped := { counting .frameLock with framePosition := 255, markErrorRun := 3, unknownRun := 3 }
    (withLane 1 slipped (running .timing)).laneSilent 1 ∧
    (blanked (checkedLane slipped)).laneSilent 1 ∧ ¬(checkedLane slipped).laneSilent 1 ∧
    (checkedLane slipped).RecordsAtOnce ∧ (checkedLane slipped).belowThresholds 1 g := by
  refine ⟨.inl ?_, .inr ?_, fun h => absurd h (not_or.mpr ?_), records _ ?_,
    belowThresholds_of g _ ?_⟩ <;> decide +kernel

theorem witness_LaneErrorsCountToTheirThreshold :
    let sign (x : Sign) (n : Nat) := { counting .codeLock with sign := x, signErrors := ⟨n, false⟩ }
    let code (n : Nat) :=
      { counting .codeLock with codeErrors := ⟨n, false⟩, unknownRun := 2, markErrorRun := 2 }
    let frame (pos run n : Nat) := { counting .frameLock with
      framePosition := pos, markErrorRun := run, unknownRun := 2, markErrors := ⟨n, true⟩ }
    groupOf 0x3FF = .unknown ∧
    (∃ p w x, groupOf p = .data w ∧ signViolation w x = true ∧
      (∀ n, (sign x n).errs .sign (groupOf p) = true ∧ (sign x n).errs .code (groupOf p) = false ∧
        (sign x n).errs .mark (groupOf p) = false)) ∧
    (∃ w, groupOf markerGroup = .marker w ∧ signViolation w .undetermined = false) ∧
    (∃ w, groupOf (dataGroup 0) = .data w ∧ signViolation w .undetermined = false) ∧
    (∀ n ∈ [3, 254, 255], (code n).lock = .codeLock ∧ (code n).unknownRun < 3 ∧
      (code n).markErrorRun < 3 ∧ (code n).errs .sign .unknown = false ∧
      (code n).errs .code .unknown = true ∧ (code n).errs .mark .unknown = false) ∧
    (∀ n ∈ [254, 255], (frame n 2 3).lock = .frameLock ∧ (frame n 2 3).markErrorRun < 3 ∧
      (frame n 3 3).markErrorRun = 3 ∧ (frame n 2 3).unknownRun < 3 ∧
      (frame n 2 3).framePosition = n) ∧
    (∀ w, (frame 254 3 3).errs .mark (.marker w) = true ∧
      (frame 254 3 3).errs .sign (.marker w) = false ∧
      (frame 254 3 3).errs .code (.marker w) = false ∧
      (frame 255 3 3).errs .mark (.data w) = true ∧ (frame 255 3 3).errs .sign (.data w) = false ∧
      (frame 255 3 3).errs .code (.data w) = false) ∧
    (∀ l ∈ [code 3, frame 254 2 3, frame 254 3 3, frame 255 3 3], (checkedLane l).inReset = false ∧
      (checkedLane l).lanes.get 1 = l ∧ (checkedLane l).fcu.log.length < 63 ∧
      (checkedLane l).fcu.recordCount + 2 ≠ (checkedLane l).cfg.maxFaults) ∧
    (3 + 1 = config.codeClass.threshold ∧ 3 + 1 = config.markClass.threshold ∧
      0 + 1 = config.signClass.threshold) ∧
    (∀ n ∈ [2, 254], n < 255 ∧ n + 1 ≠ config.signClass.threshold ∧
      n + 1 ≠ config.markClass.threshold) := by
  refine ⟨groupOf_unweighed rfl, ?_, marker_without_sign, data_without_sign, ?_⟩
  · obtain ⟨p, w, x, hp, hx⟩ := exists_data_sign
    exact ⟨p, w, x, hp, hx, fun n => ⟨hp ▸ hx, hp ▸ rfl, rfl⟩⟩
  refine ⟨?_, ?_, fun w => by cases w <;> decide +kernel, ?_, ?_, ?_⟩ <;> decide +kernel

/-- What the threshold's raise needs of a lane that counts, and what an unraised one has. -/
theorem witness_LaneErrorsCountToTheirThreshold_raises (g : CodeGroup) :
    let roll := { config with codeClass := ⟨4, true, true⟩ }
    let l := { counting .codeLock with codeErrors := ⟨255, false⟩ }
    (¬(checkedLane (counting .codeLock)).laneSilent 1 ∧
      (checkedLane (counting .codeLock)).RecordsAtOnce) ∧
    ((withLane 1 l (withConfig roll (running .timing))).laneSilent 1 ∧
      (withConfig roll idle).cfg.codeClass.roll = true ∧
      0 < (withConfig roll idle).cfg.codeClass.threshold ∧ config.codeClass.roll = false) ∧
    (∀ r f, ({ counting .frameLock with framePosition := f, markErrorRun := r }).lock = .frameLock) ∧
    (checkedLane { counting .frameLock with framePosition := 255, markErrorRun := 2
                                            unknownRun := 2 }).belowThresholds 1 g := by
  refine ⟨⟨fun h => absurd h (not_or.mpr ?_), records _ ?_⟩, ⟨.inl ?_, ?_, ?_, ?_⟩, fun _ _ => rfl,
    belowThresholds_of g _ ?_⟩ <;> decide +kernel

theorem witness_LineEdgesAreCountedAndStamped :
    idle.inReset = false ∧ (idle.lines.get 0).high = false ∧ (idle.lines.get 3).high = true := by
  decide +kernel

theorem witness_RolesSuperviseTheirLines :
    let line (high : Bool) (r : Supervision) (n : Nat) :=
      withLine 1 ⟨high, 3, none, none, r, some 0, n, 0⟩ (running .timing)
    let held (s : State) (high : Bool) (r : Supervision) : Prop := s.inReset = false ∧
      (s.lines.get 1).high = high ∧ (s.lines.get 1).sup = r ∧ (s.lines.get 1).timer = some 0
    (unchecked (line false (.heartbeat .armed) 0)).checked 13 = false ∧
    held (unchecked (line false (.heartbeat .armed) 0)) false (.heartbeat .armed) ∧
    held (line false (.heartbeat .hung) 0) false (.heartbeat .hung) ∧
    held (unchecked (line false (.rate true true) 61)) false (.rate true true) ∧
    (held (line false (.rate true false) 19) false (.rate true false) ∧
      (line false (.rate true false) 19).checked 13 = true ∧
      ((line false (.rate true false) 19).lines.get 1).windowCount <
        (config.lines.get 1).rateMin) ∧
    held (line true (.powerGood (.up 4000)) 0) true (.powerGood (.up 4000)) ∧
    (held (line true (.resetWatch false) 0) true (.resetWatch false) ∧
      (line true (.resetWatch false) 0).rcu.boardOn = true ∧
      (line true (.resetWatch false) 0).rcu.blanking = false) := by
  simp only []
  decide +kernel

theorem witness_RolesSuperviseTheirLines_edges :
    let line (high : Bool) (r : Supervision) :=
      withLine 1 ⟨high, 3, none, none, r, none, 65535, 0⟩ (running .timing)
    (∀ r ∈ [Supervision.heartbeat .armed, .heartbeat .hung, .rate true false, .rate false false,
        .powerGood .unseen, .resetWatch true, .unused],
      (line false r).inReset = false ∧ ((line false r).lines.get 1).high = false ∧
      ((line false r).lines.get 1).sup = r ∧ r ≠ .powerGood .waiting) ∧
    (∀ r ∈ [Supervision.heartbeat .armed, .rate true false, .powerGood .off, .resetWatch true],
      ((line true r).lines.get 1).high = true ∧ ((line true r).lines.get 1).sup = r ∧
      r ≠ .powerGood (.up 0) ∧ r ≠ .resetWatch false) := by
  decide +kernel

theorem witness_RolesSuperviseTheirLines_records (l : Line) :
    (withLine 1 l (running .timing)).RecordsAtOnce :=
  records _ ⟨rfl, rfl, rfl, Nat.zero_lt_succ _, fun h => absurd (show 0 + 1 = 64 from h) (by omega)⟩

theorem witness_RolesSuperviseTheirLines_stop :
    let s := withStep { holdStep with policy := .stop }
      (withLine 0 ⟨false, 3, none, none, .heartbeat .armed, some 0, 0, 65535⟩ (running .timing))
    s.inReset = false ∧ s.checked 12 = true ∧ s.policyStep.policy = .stop ∧
      (s.lines.get 0).sup = .heartbeat .armed ∧ (s.lines.get 0).timer = some 0 ∧
      s.cfg.coalesceMs = 0 := by
  decide +kernel

theorem witness_IntentsAreTotallyOrdered :
    ((⟨7, 0⟩, 5) : RackTime × Nat) ≠ (⟨7, 0⟩, 6) ∧
      (precedes ⟨7, 0⟩ 5 ⟨7, 0⟩ 6 = true ∧ precedes ⟨7, 0⟩ 6 ⟨7, 1⟩ 0 = true) ∧
      (let f := fromSlot 31 0x02 (beBytes 8 0 ++ [1, 144]);
        idle.hears 0x02 f = true ∧ f.source.toNat < 32 ∧ f.payload.length = 10) ∧
      (let s := attempting .budget claiming;
        s.inReset = false ∧ s.bus.attempt = some ⟨.budget, ⟨7, 200000⟩, []⟩ ∧
        s.bus.isolated = false ∧ s.bus.budget = some ⟨.intent 250 true, 0⟩ ∧
        s.bgu.intent = some ⟨250, .queued⟩) := by
  decide +kernel

/-- The window of slot 5's claim of `w` at its expiry, under the view of Section 3.11.1. -/
def windowEnd (w : Nat) : State :=
  { claiming with
    bgu := { claiming.bgu with
      intent := some ⟨w, .window ⟨7, 450000⟩⟩, window := some 0, peers := rackView 250 }
    bus := idle.bus }

/-- The sum that the window decides by. -/
def rackSum (s : State) (w : Nat) : Nat :=
  w + (s.bgu.peers.map fun p => match p.intent with
    | none => p.committed
    | some i => if precedes i.time p.slot ⟨7, 450000⟩ s.slot.toNat = true then i.claim
      else p.committed).sum

theorem witness_ClaimWindowDecidesByTheRackSum :
    let lower := { windowEnd 250 with bgu := { (windowEnd 250).bgu with pendingLower := some 100 } }
    let start (t : StepRec) := withStep t (windowEnd 250)
    ((windowEnd 251).inReset = false ∧
      (windowEnd 251).bgu.intent = some ⟨251, .window ⟨7, 450000⟩⟩ ∧
      (windowEnd 251).bgu.window = some 0 ∧ (windowEnd 251).rcu.run = .claiming ∧
      (windowEnd 251).bus.attempt = none ∧
      400 + 200 * (windowEnd 251).code.toNat < rackSum (windowEnd 251) 251) ∧
    (∀ s ∈ [start holdStep, lower, start { holdStep with kind := .margin, marginBp := 300 },
        start { holdStep with slew := 0 }, start { holdStep with slew := 0, pressMs := 200 },
        start { holdStep with mainMv := 0 }, atLevel 12000 (start holdStep), start cycleStep],
      s.inReset = false ∧ s.bgu.intent = some ⟨250, .window ⟨7, 450000⟩⟩ ∧
      s.bgu.window = some 0 ∧ s.rcu.run = .claiming ∧ s.bus.attempt = none ∧
      rackSum s 250 = 400 + 200 * s.code.toNat) ∧
    (∀ s ∈ [start holdStep, lower, start { holdStep with kind := .margin, marginBp := 300 }],
      ramps s = true ∧ s.sou.level0 = 0 ∧ 0 < setPoint s.cfg s.theStep) ∧
    (∀ s ∈ [start { holdStep with slew := 0 }, start { holdStep with slew := 0, pressMs := 200 },
        start { holdStep with mainMv := 0 }, atLevel 12000 (start holdStep)],
      arrives s = true ∧ s.bgu.pendingLower = none) ∧
    ((start cycleStep).theStep.kind = .cycle ∧ (start cycleStep).bgu.pendingLower = none) := by
  and_intros <;> decide +kernel

theorem witness_FixtureComesAndGoes :
    let fix (x : FixtureState) (s : State) := { s with
      cfl := { s.cfl with fixture := x, status := .absent, memory := [1] } }
    (idle.inReset = false ∧ (fix .absent idle).cfl.fixture = .absent) ∧
    (fix (.debouncing 99) idle).cfl.fixture = .debouncing 99 ∧
    ((fix (.debouncing 100) idle).cfl.fixture = .debouncing 100 ∧
      (fix (.debouncing 100) idle).rcu.run = .idle ∧
      (fix (.debouncing 100) idle).cfl.status = .absent) ∧
    ((fix (.debouncing 100) (running .timing)).rcu.run ≠ .idle ∧
      (fix (.debouncing 100) (running .timing)).rcu.run ≠ .ended) ∧
    ((running .timing).cfl.fixture = .present ∧ (running .timing).rcu.run.active = true) ∧
    (idle.cfl.fixture = .present ∧ idle.rcu.run.active = false) := by
  decide +kernel

theorem witness_LoadsEndValidOrInvalid :
    let s (b : List Byte) := loadingFrom b
    let short := (block 0).take 9
    let bare := bareBody ++ beBytes 2 0x822A
    let bad : List Byte := [1, 0, 0, 64] ++ List.replicate 58 0
    (∀ b, (s b).inReset = false ∧ (s b).cfl.status = .loading ∧
      b = (s b).cfl.memory.take (max (s b).cfl.read b.length) ∧ (s b).cfl.loadTimer = some 0) ∧
    (blockFault (block 0x6A17) = none ∧ ((configOf (block 0x6A17)).points.get 0).range ≠ .off ∧
      ∀ j, j < 0 → ((configOf (block 0x6A17)).points.get j).range = .off) ∧
    (blockFault bare = none ∧ ∀ i, ((configOf bare).points.get i).range = .off) ∧
    (blockFault (block 0) = some .checksum ∧
      (crc16 ((block 0).take (wordAt (block 0) 2 - 2))).toNat ≠
        wordAt (block 0) (wordAt (block 0) 2 - 2)) ∧
    (((block 0).take 3).length < 4 ∧ loading.cfl.loadTimer = some 0) ∧
    (short = (s (block 0)).cfl.memory.take (max (s (block 0)).cfl.read 9) ∧ short.length < 10 ∧
      64 ≤ wordAt short 2 ∧ wordAt short 2 ≤ 2048 ∧ byteAt short 0 = 1 ∧
      short.length < wordAt short 2) ∧
    (4 ≤ [(1 : Byte), 1, 0, 63].length ∧ wordAt [1, 1, 0, 63] 2 < 64 ∧
      2048 < wordAt [1, 1, 8, 1] 2 ∧ byteAt [2, 1, 0, 64] 0 ≠ 1) ∧
    ((block 0x6A17).length = wordAt (block 0x6A17) 2 ∧
      (crc16 ((block 0x6A17).take (wordAt (block 0x6A17) 2 - 2))).toNat =
        wordAt (block 0x6A17) (wordAt (block 0x6A17) 2 - 2) ∧
      wordAt (block 0x6A17) 2 = 247 + 34 * byteAt (block 0x6A17) 1) ∧
    (byteAt bad 1 = 0 ∧ wordAt bad 2 = 64 ∧
      (bad ++ beBytes 2 (crc16 bad).toNat).take 62 = bad ∧
      wordAt (bad ++ beBytes 2 (crc16 bad).toNat) 62 = (crc16 bad).toNat) := by
  have h0 := test_block_check 0 (.inr rfl)
  have h1 := test_block_check 0x6A17 (.inl rfl)
  rw [if_pos rfl] at h0
  rw [if_neg (by decide)] at h1
  have hb : ∀ n, n = 0 ∨ n = 0x6A17 → (block n).take (wordAt (block n) 2 - 2) = blockBody := by
    rintro n (rfl | rfl) <;> decide +kernel
  refine ⟨fun b => ⟨rfl, rfl,
      (show b = b.take (max 0 b.length) by rw [Nat.zero_max]; exact List.take_length.symm), rfl⟩,
    ⟨h1, ?_, ?_⟩, ⟨bare_passes, ?_⟩, ⟨h0, by rw [hb 0 (.inl rfl), block_check]; decide +kernel⟩,
    ?_, ?_, ?_, ⟨?_, by rw [hb _ (.inr rfl), block_check]; decide +kernel, ?_⟩, ?_⟩
  all_goals decide +kernel

theorem witness_LoadedValuesLieInTheirRanges :
    let b := List.replicate 171 (0 : Byte) ++ [1, 0xFF, 0xFF]
    stepOf (block 0) 245 ∈ (configOf (block 0)).steps ∧
      ((configOf b).profiles.get 0).overrides.get 0 = some 5000 := by
  decide +kernel

theorem witness_GroupsCollectPointsAndClose :
    let g : Machine.Group := ⟨aRecord, 0⟩
    let open1 (n : Nat) (s : State) := { s with fcu := { s.fcu with groups := [⟨aRecord, n⟩] } }
    let hung := withConfig { config with coalesceMs := 100 }
      (withLine 1 ⟨false, 3, none, none, .heartbeat .armed, some 0, 0, 0⟩ (running .timing))
    (∀ x ∈ idle.fcu.groups, x.record.kind ≠ aRecord.kind) ∧
    ((open1 0 (running .timing)).fcu.groups = [] ++ g :: [] ∧ g.record.kind = aRecord.kind) ∧
    [1, 5].Pairwise (· < ·) ∧
    (hung.inReset = false ∧ hung.checked 13 = true ∧ hung.policyStep.policy = .goOn ∧
      0 < hung.cfg.coalesceMs ∧ (hung.lines.get 1).sup = .heartbeat .armed ∧
      (hung.lines.get 1).timer = some 0 ∧ hung.fcu.groups = []) ∧
    ((open1 0 hung).checked 13 = true ∧ (open1 0 hung).fcu.groups = [] ++ g :: [] ∧
      g.record.kind = .hang) ∧
    ((open1 1 (running .timing)).inReset = false ∧
      (open1 1 (running .timing)).fcu.groups = ⟨aRecord, 1⟩ :: []) ∧
    ((open1 0 (running .timing)).fcu.groups = g :: [] ∧ g.closeTimer = 0 ∧
      (open1 0 (running .timing)).fcu.log.length < 64 ∧
      (open1 0 (running .timing)).fcu.recordCount + 1 ≠
        (open1 0 (running .timing)).cfg.maxFaults ∧
      (open1 0 (running .timing)).bus.notices.length < 8) ∧
    (open1 0 (withConfig { config with maxFaults := 1 } (running .timing))).fcu.recordCount + 1 =
      (open1 0 (withConfig { config with maxFaults := 1 } (running .timing))).cfg.maxFaults ∧
    (let limited := withConfig { config with coalesceMs := 0, maxFaults := 1 } hung;
      limited.inReset = false ∧ limited.checked 13 = true ∧ limited.policyStep.policy = .goOn ∧
      limited.cfg.coalesceMs = 0 ∧ limited.fcu.recordCount + 1 = limited.cfg.maxFaults ∧
      (limited.lines.get 1).sup = .heartbeat .armed ∧ (limited.lines.get 1).timer = some 0) := by
  decide +kernel

theorem witness_EveryCommandKeepsTheBoardSafe : busy.BoardSafe ∧ idle.BoardSafe ∧
    exec (.abort (request 0x23 [1])) busy = .next (after (.abort (request 0x23 [1])) busy) :=
  ⟨⟨fun h => absurd h (by decide +kernel), by unfold State.boardOnRight; decide +kernel,
      fun _ _ => by decide +kernel, busy_lines,
      ⟨fun h => absurd rfl h, fun h => absurd rfl h, fun h => absurd h (by decide +kernel),
        fun _ => by decide +kernel⟩,
      fun _ h => absurd h (by decide +kernel)⟩,
    ⟨fun _ => by decide +kernel, by unfold State.boardOnRight; decide +kernel,
      fun i h => absurd (by revert i; decide +kernel) h,
      fun i => match i with
        | 0 => show Heartbeat.disarmed = .disarmed ↔ false = false by decide
        | 1 => show false = false from rfl
        | 2 => show false = false → PowerGood.off = .off by decide
        | 3 => show false = false → false = false by decide,
      ⟨fun h => absurd rfl h, fun h => absurd rfl h, fun h => absurd h (by decide +kernel),
        fun _ => by decide +kernel⟩,
      fun h => absurd h (by decide +kernel)⟩,
    by rfl⟩

/-- The stages that BoardSafe rests on, each where it asks something. -/
theorem witness_EveryCommandKeepsTheBoardSafe_stages :
    claiming.stagesRight ∧ (waitingSince 3000 []).stagesRight ∧
      (pendingOn { busy with rcu := { busy.rcu with phase := .settling } }).powerOnRight :=
  ⟨⟨fun _ => rfl, fun h => absurd rfl h, fun _ => rfl, fun _ => rfl⟩,
    ⟨fun h => absurd rfl h, fun _ => rfl, fun _ => rfl, fun _ => rfl⟩,
    fun _ _ _ => ⟨by decide +kernel, fun _ => by decide +kernel⟩⟩

/-- A load that has read fewer than ten bytes. -/
theorem witness_EveryCommandKeepsTheBooks_ids :
    (loadingFrom blockBody).idsRight ∧ (loadingFrom blockBody).cfl.status = .loading :=
  ⟨fun _ => ⟨rfl, rfl⟩, rfl⟩

theorem witness_EveryCommandKeepsTheBooks :
    busy.logOrdered ∧ busy.outboxBounded ∧ busy.viewOrdered ∧ busy.rackTimeRight ∧
      busy.claimsBounded ∧ busy.idsRight := by
  refine ⟨⟨by decide +kernel, ?_⟩, by and_intros <;> decide +kernel, ?_,
    by unfold State.rackTimeRight; decide +kernel, ?_, fun _ => by decide +kernel⟩
  · rintro (_ | k) r h
    · cases h
      rfl
    · exact absurd h (by simp [busy, withLane, running, idle])
  · refine ⟨⟨?_, ?_, ?_, ?_, ?_, ?_, trivial⟩, ?_⟩ <;> decide +kernel
  · refine ⟨by decide +kernel, fun w h => ?_, fun i h => ?_, fun c h => ?_⟩
    · exact nomatch (h : none = some w)
    · exact nomatch (h : none = some i)
    · have hc : c = config := (Option.some.inj (h : some config = some c)).symm
      subst hc
      decide +kernel

theorem witness_ItemsMoveByTheirCommandsOnly :
    (after .outputTick idle).tmu.uptime ≠ idle.tmu.uptime ∧
      (after .rackTimeAdvance idle).tmu.rack ≠ idle.tmu.rack ∧
      (after (.resetEnd 5 2) State.reset).slot ≠ State.reset.slot ∧
      (after (.fixturePresentChange none) (loadingFrom [1])).cfl.memory ≠ [1] ∧
      ((after (.conversionCompletion 1861600) (scanning 0 idle)).asc.points.get 0).y ≠
        ((scanning 0 idle).asc.points.get 0).y := by
  decide +kernel

theorem witness_LeavingARunReleasesTheClaim :
    let c := Instr.abort (request 0x23 [1])
    busy.rcu.run.active = true ∧ exec c busy = .next (after c busy) ∧
      (after c busy).rcu.run.active = false :=
  ⟨by decide +kernel, by rfl, by decide +kernel⟩

end Sys2Proof.Tests
end

section
/-! SUPPORT. The control requests CLEAR and START and the start switch as equations, one for each
answer, and what an accepted START leaves: its claim, or the run end of SUPPLY_LOST. After them the
statements on CLEAR and on the start switch. -/

namespace Sys2Proof.Machine

/-! ### CLEAR (R24) -/

/-- A CLEAR that is taken acts, and the answer that the Run Controller gives is queued (R167). -/
theorem exec_clear_of_takesControl {f : RxFrame} {s : State} {a : State} {c : ResponseCode}
    (h : s.takesControl 0x24 f = true) (ha : s.takeClear = ⟨a, c, []⟩) :
    exec (.clear f) s = .next (a.answered 0x24 f c.code) := by
  obtain ⟨hlive, hact⟩ := takesControl_spec h
  calc exec (.clear f) s = .next (clearFrame f s) := live_next hlive
    _ = .next (a.answered 0x24 f c.code) := by
      rw [show clearFrame f s = _ from hact State.takeClear, ha]
      rfl

theorem takeClear_of_ended {s : State} (h : s.rcu.run = .ended) :
    s.takeClear = ⟨s.clearRun, .ok, []⟩ := by simp [State.takeClear, h]

theorem takeClear_of_idle {s : State} (h : s.rcu.run = .idle) : s.takeClear = ⟨s, .ok, []⟩ := by
  simp [State.takeClear, h]

theorem takeClear_of_ne {s : State} (he : s.rcu.run ≠ .ended) (hi : s.rcu.run ≠ .idle) :
    s.takeClear = ⟨s, .wrongState, []⟩ := by
  cases h : s.rcu.run
  case ended => exact absurd h he
  case idle => exact absurd h hi
  all_goals simp [State.takeClear, h]

/-- Outside ENDED a CLEAR changes nothing (R24). -/
theorem takeClear_after_of_ne_ended {s : State} (he : s.rcu.run ≠ .ended) :
    s.takeClear.after = s := by
  by_cases hi : s.rcu.run = .idle
  · rw [takeClear_of_idle hi]
  · rw [takeClear_of_ne he hi]

/-- The Run Controller after CLEAR: in IDLE no board is on (R17, R24). -/
@[simp] theorem clearRun_rcu (s : State) : s.clearRun.rcu =
    { s.rcu with run := .idle, verdict := .none, cause := .none, step := 0, iteration := 0
                 phase := .none, boardOn := false } := rfl

/-- The outputs after CLEAR (R24). -/
@[simp] theorem clearRun_sou (s : State) : s.clearRun.sou = s.sou.zero12 := rfl

/-! ### The judgement of START (R20) -/

/-- START changes nothing unless it is accepted (R20). -/
theorem takeStart_after (s : State) :
    s.takeStart.after = if s.judgeStart = .ok then s.startRun else s := by
  unfold State.takeStart
  split <;> rfl

/-- Outside IDLE a START is refused (R20). -/
theorem takeStart_after_of_ne_idle {s : State} (h : s.rcu.run ≠ .idle) :
    s.takeStart.after = s := by
  simp [takeStart_after, State.judgeStart, h]

/-- A START that meets the three conditions of R20 is accepted. -/
theorem takeStart_accepted {s : State} (hi : s.rcu.run = .idle)
    (hc : s.bgu.slotConflict = false) (hv : s.cfl.status = .valid)
    (hs : s.tmu.settled = true) : s.takeStart = ⟨s.startRun, .ok, []⟩ := by
  simp [State.takeStart, State.judgeStart, hi, hc, hv, hs]

/-! ### The start switch (R25) -/

/-- The switch is open again: no press is being timed. -/
def State.switchOpen (s : State) : State := { s with rcu := { s.rcu with switchClosed := none } }

/-- A release of a switch that is closed is judged by its press and by the run state (R25). -/
theorem releaseSwitch_of_closed {s : State} {u : Uptime} (hu : s.rcu.switchClosed = some u) :
    releaseSwitch s =
      if elapsed s.tmu.uptime u < 3000 then
        if s.switchOpen.judgeStart = .ok then s.switchOpen.startRun else s.switchOpen
      else if s.switchOpen.rcu.run = .ended then s.switchOpen.clearRun else s.switchOpen := by
  simp only [releaseSwitch, hu]
  rfl

/-- A short press is an unanswered START, in every run state (R25). -/
theorem releaseSwitch_short {s : State} {u : Uptime} (hu : s.rcu.switchClosed = some u)
    (hms : elapsed s.tmu.uptime u < 3000) :
    releaseSwitch s = s.switchOpen.takeStart.after := by
  rw [releaseSwitch_of_closed hu, if_pos hms, takeStart_after]

/-- A long press is an unanswered CLEAR, in every run state (R25). -/
theorem releaseSwitch_long {s : State} {u : Uptime} (hu : s.rcu.switchClosed = some u)
    (hms : 3000 ≤ elapsed s.tmu.uptime u) :
    releaseSwitch s = s.switchOpen.takeClear.after := by
  rw [releaseSwitch_of_closed hu, if_neg (Nat.not_lt.mpr hms)]
  split
  · next he => rw [takeClear_of_ended he]
  · next he => exact (takeClear_after_of_ne_ended he).symm

theorem exec_startSwitchRelease {s : State} (h : s.inReset = false) :
    exec .startSwitchRelease s = .next (releaseSwitch s) := by
  simp [exec, execStartSwitchRelease, h]

theorem exec_startSwitchClose {s : State} (h : s.inReset = false) :
    exec .startSwitchClose s = .next (closeSwitch s) := by
  simp [exec, execStartSwitchClose, h]

/-- A broadcast START that is taken does what its acceptance or refusal does (R20, R167). -/
theorem exec_start_of_takesBroadcast {f : RxFrame} {s : State}
    (h : s.takesBroadcast 0x20 f = true) : exec (.start f) s = .next s.takeStart.after := by
  obtain ⟨hlive, hact⟩ := takesBroadcast_spec h
  calc exec (.start f) s = .next (startFrame f s) := live_next hlive
    _ = .next s.takeStart.after := congrArg _ (hact State.takeStart)

/-- A broadcast CLEAR that is taken does what CLEAR does in the run state (R24, R167). -/
theorem exec_clear_of_takesBroadcast {f : RxFrame} {s : State}
    (h : s.takesBroadcast 0x24 f = true) : exec (.clear f) s = .next s.takeClear.after := by
  obtain ⟨hlive, hact⟩ := takesBroadcast_spec h
  calc exec (.clear f) s = .next (clearFrame f s) := live_next hlive
    _ = .next s.takeClear.after := congrArg _ (hact State.takeClear)

/-- A switch that is closed at a reset counts as closed at uptime 0 (R25). -/
theorem holdInReset_switchClosed (s : State) :
    (holdInReset s).rcu.switchClosed = s.rcu.switchClosed.map fun _ => 0 := by
  cases h : s.rcu.switchClosed <;> simp [holdInReset, Rcu.reset, h]

/-! ### The claim of a step at its entry (R7, R57) -/

/-- With no intent open and nothing in its way a claim is queued as an INTENT at once (R57). -/
theorem askClaim_queues {s : State} (w : Nat) (hi : s.bgu.intent = none)
    (ha : s.bus.attempt = none) (hs : s.tmu.settled = true) (hl : s.bgu.listening = 0) :
    s.askClaim w = { s with
      bgu := { s.bgu with intent := some ⟨w, .queued⟩ }
      bus := { s.bus with budget := some ⟨.intent w true, 0⟩ } } := by
  simp [State.askClaim, State.withdrawIntent, hi, State.promoteIntent, State.mayAnnounce, hs, hl,
    queueBudget_idle _ _ ha]

/-- The state in which the claim of a step is judged at its entry: the step's position set, every
timer stopped and nothing held or pending (R7). -/
def State.positioned (n : Nat) (s : State) : State :=
  { s with
    rcu := { s.rcu.stopTimers.dropHeld with
      step := n, iteration := 0, arrivalTaken := false, powerOnPending := false
      clamped := s.rcu.clamped || setPointClamped s.cfg (s.stepAt n) }
    bgu := { s.bgu with waitingSince := none, accumulator := 0, pendingLower := none } }

/-- A step that claims more than is committed asks for its claim at its entry (R7). -/
theorem enterStep_asks {n : Nat} {s : State} (h : s.bgu.committed < (s.stepAt n).claimW) :
    s.enterStep n = State.askClaim (s.stepAt n).claimW
      { s.positioned n with
        rcu := { (s.positioned n).rcu with run := .claiming, phase := .none } }.refresh :=
  if_pos h

/-- A step that claims less than is committed starts with the lower claim pending (R7, R66). -/
theorem enterStep_lowers {n : Nat} {s : State} (h : (s.stepAt n).claimW < s.bgu.committed) :
    s.enterStep n = State.startStep { s.positioned n with
      bgu := { (s.positioned n).bgu with pendingLower := some (s.stepAt n).claimW } } :=
  (if_neg (Nat.lt_asymm h)).trans (if_pos h)

/-- A step that claims what is committed starts at once (R7). -/
theorem enterStep_starts {n : Nat} {s : State} (h : (s.stepAt n).claimW = s.bgu.committed) :
    s.enterStep n = (s.positioned n).startStep :=
  (if_neg (h ▸ Nat.lt_irrefl _)).trans (if_neg (h ▸ Nat.lt_irrefl _))

/-! ### What the entry of a step leaves alone -/

/-- From one state to the other the step and its iteration stand, the run is in a given state, and what
the events of a step have no part in stands too: the log, the clocks, the scanner, the fixture, the
answers, the peer view, the supply sense and the start switch. -/
structure StepKept (r : RunState) (s t : State) : Prop where
  run : t.rcu.run = r
  step : t.rcu.step = s.rcu.step
  iteration : t.rcu.iteration = s.rcu.iteration
  switchClosed : t.rcu.switchClosed = s.rcu.switchClosed
  sense : t.sou.sensePresent = s.sou.sensePresent
  peers : t.bgu.peers = s.bgu.peers
  responses : t.bus.responses = s.bus.responses
  fcu : t.fcu = s.fcu
  asc : t.asc = s.asc
  tmu : t.tmu = s.tmu
  cfl : t.cfl = s.cfl

theorem StepKept.refl (s : State) : StepKept s.rcu.run s s := by constructor <;> rfl

theorem StepKept.trans {r : RunState} {s t u : State} (h : StepKept r s t)
    (g : StepKept t.rcu.run t u) : StepKept r s u :=
  ⟨g.run.trans h.run, g.step.trans h.step, g.iteration.trans h.iteration,
    g.switchClosed.trans h.switchClosed, g.sense.trans h.sense, g.peers.trans h.peers,
    g.responses.trans h.responses, g.fcu.trans h.fcu, g.asc.trans h.asc, g.tmu.trans h.tmu,
    g.cfl.trans h.cfl⟩

theorem commitPending_kept (s : State) : StepKept s.rcu.run s s.commitPending := by
  unfold State.commitPending
  split
  · exact .refl s
  · next w _ =>
    obtain ⟨b, bn, e⟩ := commitClaim_spec w { s with bgu := { s.bgu with pendingLower := none } }
    rw [e]
    constructor <;> rfl

theorem startBlanking_kept (s : State) : StepKept s.rcu.run s s.startBlanking := by
  unfold State.startBlanking
  split <;> constructor <;> rfl

theorem advancePhase_kept (s : State) : StepKept s.rcu.run s s.advancePhase := by
  unfold State.advancePhase
  (repeat' split) <;> constructor <;> rfl

theorem powerOnArrival_kept (s : State) : StepKept s.rcu.run s s.powerOnArrival := by
  have hwait (i : Fin 4) : StepKept s.rcu.run s (s.startWait i) := by constructor <;> rfl
  have hpress (ms : Nat) : (s.sou.press ms).sensePresent = s.sou.sensePresent := by
    unfold Sou.press
    split <;> rfl
  unfold State.powerOnArrival
  split
  · exact { StepKept.refl s with sense := hpress _ }
  · split
    · exact advancePhase_kept s
    · next i _ =>
      split
      · exact (hwait i).trans (advancePhase_kept _)
      · exact hwait i

theorem arrivalSequence_kept (s : State) : StepKept s.rcu.run s s.arrivalSequence := by
  unfold State.arrivalSequence
  split
  · exact powerOnArrival_kept s
  · exact advancePhase_kept s

theorem arrive_kept (s : State) : StepKept s.rcu.run s s.arrive := by
  have htaken : StepKept s.rcu.run s { s with rcu := { s.rcu with arrivalTaken := true } } := by
    constructor <;> rfl
  have hpend := htaken.trans (commitPending_kept _)
  unfold State.arrive
  dsimp only
  split
  case h_1 => exact (hpend.trans (startBlanking_kept _)).trans (arrivalSequence_kept _)
  case h_2 =>
    have honTimer (t : State) : StepKept t.rcu.run t
        { t with rcu := { t.rcu with on := some t.theStep.onMs } } := by constructor <;> rfl
    exact ((hpend.trans (startBlanking_kept _)).trans (honTimer _)).trans (arrivalSequence_kept _)
  all_goals exact hpend

theorem takeArrival_kept (s : State) : StepKept s.rcu.run s s.takeArrival := by
  unfold State.takeArrival
  split
  · exact arrive_kept s
  · exact .refl s

theorem commandLanding_kept (s : State) : StepKept s.rcu.run s s.commandLanding := by
  unfold State.commandLanding
  split
  · exact takeArrival_kept s
  · exact .refl s

theorem enterOff_kept (s : State) : StepKept s.rcu.run s s.enterOff :=
  StepKept.trans (by constructor <;> rfl) (takeArrival_kept _)

theorem startCycle_kept (s : State) : StepKept .running s s.startCycle :=
  StepKept.trans (by constructor <;> rfl) (enterOff_kept _)

theorem startSettling_kept (s : State) : StepKept .running s s.startSettling := by
  refine StepKept.trans ?_ (commandLanding_kept _)
  split <;> constructor <;> rfl

/-- The start of a step of either kind brings the run to RUNNING (R9). -/
theorem startStep_kept (s : State) : StepKept .running s s.startStep := by
  unfold State.startStep
  split
  · exact startCycle_kept s
  · exact startSettling_kept s
  · exact startSettling_kept s

theorem askClaim_kept (w : Nat) (s : State) : StepKept s.rcu.run s (s.askClaim w) := by
  obtain ⟨i, wd, b, bn, e, -⟩ := askClaim_spec w s
  rw [e]
  constructor <;> rfl

/-- Entry to a step goes to CLAIMING or starts it, and leaves a run that is active (R7). -/
theorem enterStep_kept (n : Nat) (s : State) :
    ∃ r : RunState, r.active = true ∧ StepKept r (s.positioned n) (s.enterStep n) := by
  rcases Nat.lt_trichotomy s.bgu.committed (s.stepAt n).claimW with h | h | h
  · refine ⟨.claiming, rfl, ?_⟩
    rw [enterStep_asks h]
    exact StepKept.trans (by constructor <;> rfl) (askClaim_kept _ _)
  · refine ⟨.running, rfl, ?_⟩
    rw [enterStep_starts h.symm]
    exact startStep_kept _
  · -- The pending lower claim is none of the fields that `StepKept` compares.
    refine ⟨.running, rfl, ?_⟩
    rw [enterStep_lowers h]
    exact { startStep_kept _ with }

/-! ### SUPPLY_LOST (R45) -/

/-- With no group open a final closing writes nothing (R145). -/
theorem finalClosing_of_noGroups (mode : ClosingMode) {s : State} (h : s.fcu.groups = []) :
    s.finalClosing mode = { s with fcu := { s.fcu with mode := mode } } := by
  simp [State.finalClosing, State.closeGroups, h]

/-- SUPPLY_LOST in an active run closes the open groups, writes its own record last and ends the run
ABORTED (R27, R45, R144). -/
theorem raise_supplyLost {s : State} (h : s.rcu.run.active = true) (value : Int) :
    s.raise .supplyLost [] value =
      ((s.finalClosing .ending).writeRecord (s.formRecord s.asc .supplyLost [] value)).runEnd
        .aborted .supplyLost := by
  unfold State.raise State.raiseSeeing
  rw [if_pos h]
  rfl

/-- A run end is one of every state with the position that it keeps and with its clocks and view: of
the state before it nothing else is asked (R28). -/
theorem RunEnded.of_place {v : Verdict} {c : EndCause} {s s' t : State} (h : RunEnded v c s t)
    (position : t.rcu.step = s'.rcu.step ∧ t.rcu.phase = s'.rcu.phase ∧
      t.rcu.iteration = s'.rcu.iteration)
    (clocks : s.tmu = s'.tmu) (view : s.bgu.peers = s'.bgu.peers) : RunEnded v c s' t :=
  { h with position := position, clocks := h.clocks.trans clocks, view := h.view.trans view }

/-- A SUPPLY_LOST that finds an active run with no group open ends it, with its record behind the log
where there is room (R28, R45, R146). -/
theorem raise_supplyLost_ends {s : State} (h : s.rcu.run.active = true)
    (hg : s.fcu.groups = []) (value : Int) :
    RunEnded .aborted .supplyLost s (s.raise .supplyLost [] value) ∧
      (s.raise .supplyLost [] value).rcu.switchClosed = s.rcu.switchClosed ∧
      (s.raise .supplyLost [] value).bus.responses = s.bus.responses ∧
      (s.fcu.log.length < 64 → (s.raise .supplyLost [] value).fcu.log = s.fcu.log ++
        [{ s.formRecord s.asc .supplyLost [] value with index := s.fcu.log.length }]) := by
  rw [raise_supplyLost h, finalClosing_of_noGroups .ending hg]
  generalize s.formRecord s.asc .supplyLost [] value = r
  have hroom := writeRecord_room r { s with fcu := { s.fcu with mode := .ending } }
  obtain ⟨-, hopen, -⟩ := writeRecord_counts r { s with fcu := { s.fcu with mode := .ending } }
  obtain ⟨fcu, ns, nd, hw⟩ := writeRecord_logOnly r { s with fcu := { s.fcu with mode := .ending } }
  rw [hw] at hroom hopen ⊢
  refine ⟨runEnd_ended (hopen.trans hg) ⟨rfl, rfl, rfl⟩ rfl rfl, ?_⟩
  obtain ⟨o, b, bn, ns', nd', lanes, lines, he, -⟩ := runEnd_spec .aborted .supplyLost
    { s with fcu := fcu, bus := { s.bus with notices := ns, noticeDrops := nd } }
  exact he ▸ ⟨rfl, rfl, hroom⟩

/-! ### An accepted START -/

/-- Where step 0 claims more than is committed, an accepted START goes to CLAIMING with its INTENT
queued and the history cleared (R7, R20, R57). -/
theorem startRun_claims {s : State} (hp : s.sou.sensePresent = true) (hl : s.bgu.listening = 0)
    (hi : s.bgu.intent = none) (ha : s.bus.attempt = none) (hs : s.tmu.settled = true)
    (hw : s.bgu.committed < (s.stepAt 0).claimW) :
    s.startRun.rcu.run = .claiming ∧ s.startRun.rcu.step = 0 ∧
      s.startRun.rcu.switchClosed = s.rcu.switchClosed ∧
      s.startRun.fcu = ⟨[], [], 0, 0, false, .none⟩ ∧
      s.startRun.bgu.intent = some ⟨(s.stepAt 0).claimW, .queued⟩ ∧
      s.startRun.bus = { s.bus with budget := some ⟨.intent (s.stepAt 0).claimW true, 0⟩ } ∧
      s.startRun.sou = s.sou ∧ s.startRun.asc = s.asc ∧ s.startRun.tmu = s.tmu ∧
      s.startRun.cfl = s.cfl := by
  have hasks := (enterStep_asks (s := s.clearHistory) hw).trans (askClaim_queues _ hi ha hs hl)
  have hstart : s.startRun = s.clearHistory.enterStep 0 := by
    unfold State.startRun
    rw [hasks]
    exact if_pos hp
  rw [hstart, hasks]
  exact ⟨rfl, rfl, rfl, rfl, rfl, rfl, rfl, rfl, rfl, rfl⟩

/-- A START that finds the supply sense ABSENT ends its run at once (R45). -/
theorem startRun_supplyLost {s : State} (hp : s.sou.sensePresent = false) :
    ∃ r, RunEnded .aborted .supplyLost
        { s with rcu := { s.rcu with step := 0, iteration := 0, phase := s.startRun.rcu.phase } }
        s.startRun ∧
      s.startRun.rcu.switchClosed = s.rcu.switchClosed ∧ s.startRun.fcu.log = [r] ∧
      r.kind = .supplyLost ∧ s.startRun.bus.responses = s.bus.responses := by
  obtain ⟨r, hactive, kept⟩ := enterStep_kept 0 s.clearHistory
  have hraise : s.startRun = (s.clearHistory.enterStep 0).raise .supplyLost []
      (s.clearHistory.enterStep 0).sou.level0 := by
    simp [State.startRun, kept.sense.trans hp]
  obtain ⟨ended, hswitch, hresponses, hlog⟩ := raise_supplyLost_ends
    (kept.run ▸ hactive) (congrArg Fcu.groups kept.fcu) (s.clearHistory.enterStep 0).sou.level0
  rw [← hraise] at ended hswitch hresponses hlog
  obtain ⟨hstep, -, hiteration⟩ := ended.position
  rw [kept.fcu] at hlog
  exact ⟨_, ended.of_place ⟨hstep.trans kept.step, rfl, hiteration.trans kept.iteration⟩
    kept.tmu kept.peers, hswitch.trans kept.switchClosed, hlog (by decide : 0 < 64), rfl,
    hresponses.trans kept.responses⟩

/-! ### The statements -/

/-- Settles O11, by the run state in which CLEAR is taken. -/
theorem clearReturnsToIdle : Obligations.ClearReturnsToIdle := by
  intro f s h
  refine ⟨fun he => ?_, fun hi => ?_, fun he hi => ?_⟩
  · exact ⟨_, exec_clear_of_takesControl h (takeClear_of_ended he),
      clearRun_rcu s, clearRun_sou s, rfl, rfl, rfl, rfl, rfl, rfl, rfl⟩
  · exact exec_clear_of_takesControl h (takeClear_of_idle hi)
  · exact exec_clear_of_takesControl h (takeClear_of_ne he hi)

/-- Settles O41: a short press is an unanswered START and a long press an unanswered CLEAR. -/
theorem startSwitchActsAtItsRelease : Obligations.StartSwitchActsAtItsRelease := by
  refine ⟨?_, fun u f s hu => ⟨fun h hms _ => ?_, fun h hms _ => ?_⟩, fun s hr =>
    ⟨fun hopen => ?_, fun u hu => ?_⟩⟩
  · rintro c s t (rfl | rfl) e <;> cases e <;> exact holdInReset_switchClosed s
  · have hb : s.switchOpen.takesBroadcast 0x20 f = true := h
    have hr : s.inReset = false := (takesBroadcast_spec h).1
    rw [exec_startSwitchRelease hr, releaseSwitch_short hu hms]
    exact (exec_start_of_takesBroadcast hb).symm
  · have hb : s.switchOpen.takesBroadcast 0x24 f = true := h
    have hr : s.inReset = false := (takesBroadcast_spec h).1
    rw [exec_startSwitchRelease hr, releaseSwitch_long hu hms]
    exact (exec_clear_of_takesBroadcast hb).symm
  · rw [exec_startSwitchClose hr]
    simp [closeSwitch, hopen]
  · rw [exec_startSwitchRelease hr]
    refine ⟨fun hms hi hc hv hs hp hl hn ha hw => ?_, fun hms hi hc hv hs hp => ?_,
      fun hms he => ?_, ?_⟩
    · rw [releaseSwitch_short hu hms, takeStart_accepted (s := s.switchOpen) hi hc hv hs]
      exact ⟨_, rfl, startRun_claims (s := s.switchOpen) hp hl hn ha hs hw⟩
    · rw [releaseSwitch_short hu hms, takeStart_accepted (s := s.switchOpen) hi hc hv hs]
      obtain ⟨r, ended, rest⟩ := startRun_supplyLost (s := s.switchOpen) hp
      exact ⟨_, r, rfl, ended.of_place ended.position rfl rfl, rest⟩
    · rw [releaseSwitch_long hu hms, takeClear_of_ended (s := s.switchOpen) he]
      exact ⟨_, rfl, clearRun_rcu _, clearRun_sou _, rfl, rfl, rfl, rfl, rfl⟩
    · rintro (⟨hms, hne⟩ | ⟨hms, hne⟩)
      · rw [releaseSwitch_short hu hms, takeStart_after_of_ne_idle (s := s.switchOpen) hne]
        rfl
      · rw [releaseSwitch_long hu hms, takeClear_after_of_ne_ended (s := s.switchOpen) hne]
        rfl

end Sys2Proof.Machine
end

section
/-! SUPPORT. The order of intents as the lexicographic order of a key, and the two intent times that
it compares: the one that a heard INTENT carries and the stamp of the own INTENT's attempt. After
them the statement on the order of intents. -/

namespace Sys2Proof.Machine

/-! ### The order of intents (R58) -/

/-- What R58 compares of an intent, the weightiest first: the seconds and the nanoseconds of its
time, and its slot. -/
def intentKey (time : RackTime) (slot : Nat) : Nat ×ₗ Nat ×ₗ Nat :=
  toLex (time.s.toNat, toLex (time.ns, slot))

/-- An intent's key tells its time and its slot. -/
theorem intentKey_inj {x y : RackTime} {m n : Nat} :
    intentKey x m = intentKey y n ↔ (x, m) = (y, n) := by
  obtain ⟨xs, xns⟩ := x
  obtain ⟨ys, yns⟩ := y
  simp [intentKey, BitVec.toNat_inj, and_assoc]

/-- One key is below another by the seconds, then by the nanoseconds, then by the slot. -/
theorem intentKey_lt_iff {x y : RackTime} {m n : Nat} : intentKey x m < intentKey y n ↔
    x.s.toNat < y.s.toNat ∨ (x.s = y.s ∧ (x.ns < y.ns ∨ (x.ns = y.ns ∧ m < n))) := by
  simp [intentKey, Prod.Lex.toLex_lt_toLex, BitVec.toNat_inj]

/-- The order of R58 is the lexicographic order of the keys. -/
theorem precedes_iff_intentKey_lt {x y : RackTime} {m n : Nat} :
    precedes x m y n = true ↔ intentKey x m < intentKey y n := by
  obtain ⟨xs, xns⟩ := x
  obtain ⟨ys, yns⟩ := y
  simp only [intentKey_lt_iff, precedes, earlier, Bool.or_eq_true, Bool.and_eq_true,
    decide_eq_true_eq, RackTime.mk.injEq, BitVec.toNat_inj]
  tauto

/-- Of two intents with different times or slots exactly one precedes the other. -/
theorem precedes_ne_swap {x y : RackTime} {m n : Nat} (h : (x, m) ≠ (y, n)) :
    precedes x m y n ≠ precedes y n x m := by
  rw [Ne, Bool.eq_iff_iff, precedes_iff_intentKey_lt, precedes_iff_intentKey_lt]
  rcases lt_or_gt_of_ne (mt intentKey_inj.mp h) with hlt | hgt
  · exact fun he => lt_asymm hlt (he.mp hlt)
  · exact fun he => lt_asymm hgt (he.mpr hgt)

/-- The order of intents carries over. -/
theorem precedes_trans {x y z : RackTime} {l m n : Nat} (hxy : precedes x l y m = true)
    (hyz : precedes y m z n = true) : precedes x l z n = true := by
  rw [precedes_iff_intentKey_lt] at hxy hyz ⊢
  exact hxy.trans hyz

/-! ### The intent time of a peer (R53, R54) -/

/-- A frame that is heard is delivered with no slot conflict noted, and one whose source is a slot
is from a peer (R53, R69, R160). -/
theorem hears_spec {k : Byte} {f : RxFrame} {s : State} (h : s.hears k f = true) :
    s.inReset = false ∧ (∀ deliver, s.hear k f deliver = deliver s) ∧
      (f.source.toNat < 32 → s.fromPeer f = true) := by
  simp only [State.hears, Bool.and_eq_true, Bool.not_eq_true', decide_eq_true_eq] at h
  obtain ⟨⟨hreset, hintact⟩, hsource⟩ := h
  exact ⟨hreset, fun deliver => by simp [State.hear, hintact, State.noteSource, hsource],
    fun hslot => by simp [State.fromPeer, hslot, hsource]⟩

/-- The entry that a frame of a slot acts on: the one in the view, or a new one (R53). -/
def State.peerEntry (slot : Nat) (s : State) : Peer :=
  (findPeer slot s.bgu.peers).getD (Peer.new slot)

@[simp] theorem peerEntry_slot (slot : Nat) (s : State) : (s.peerEntry slot).slot = slot := by
  unfold State.peerEntry
  cases h : findPeer slot s.bgu.peers with
  | none => rfl
  | some p => exact findPeer_slot h

/-- A frame that leaves its entry's committed claim gives no retry cause: it changes the view only,
by what it does to the entry, which is then FRESH and heard now (R53, R54, R62). -/
theorem hearPeer_of_committed {f : RxFrame} {act : Peer → Peer} {s : State}
    (hpeer : s.fromPeer f = true) (hact : ∀ p, (act p).committed = p.committed) :
    s.hearPeer f act = { s with bgu := { s.bgu with
      peers := putPeer { act (s.peerEntry f.source.toNat) with
        lastHeard := s.tmu.uptime, fresh := true } s.bgu.peers } } := by
  simp [State.hearPeer, hpeer, hact, State.peerEntry]

/-- A heard INTENT of a peer changes the view only, by the entry that takes it (R54). -/
theorem exec_intentReceived {f : RxFrame} {s : State} (h : s.hears 0x02 f = true)
    (hslot : f.source.toNat < 32) (hlen : f.payload.length = 10) :
    exec (.intentReceived f) s = .next { s with bgu := { s.bgu with
      peers := putPeer { (s.peerEntry f.source.toNat).takeIntent f.payload s.tmu.uptime with
        lastHeard := s.tmu.uptime, fresh := true } s.bgu.peers } } := by
  obtain ⟨hlive, hdelivers, hpeer⟩ := hears_spec h
  calc exec (.intentReceived f) s = .next (intentFrame f s) := live_next hlive
    _ = .next (s.takeIntent f) := congrArg _ (hdelivers (State.takeIntent f))
    _ = .next (s.hearPeer f (Peer.takeIntent f.payload s.tmu.uptime)) :=
      congrArg _ (if_pos hlen)
    _ = _ := congrArg _ (hearPeer_of_committed (hpeer hslot) fun _ => rfl)

/-- The intent of an entry put into the view is the one held of its slot (R53). -/
theorem heldIntent_putPeer {p : Peer} {slot : Nat} {s : State} (h : p.slot = slot) :
    State.heldIntent slot { s with bgu := { s.bgu with peers := putPeer p s.bgu.peers } } =
      p.intent := by
  subst h
  simp [State.heldIntent, (findPeer_putPeer p s.bgu.peers).1]

/-! ### The intent time of the own intent (R50) -/

/-- The completion of the own INTENT's attempt opens the claim window with the attempt's stamp as
the intent time. A station that is not isolated has no recovery to make (R50, R165). -/
theorem completeAttempt_own {a : Attempt} {claim r w : Nat} {s : State}
    (ha : s.bus.attempt = some a) (hiso : s.bus.isolated = false) (hcls : a.cls = .budget)
    (hhead : s.bus.budget = some ⟨.intent claim true, r⟩)
    (hintent : s.bgu.intent = some ⟨w, .queued⟩) :
    (completeAttempt s).bgu =
      { s.bgu with intent := some ⟨w, .window a.stamp⟩, window := some 300 } := by
  simp [completeAttempt, ha, hcls, Bif.ownIntentHead, hhead, State.openWindow, hintent,
    State.recover, Bif.removeHead, Bif.admitNewer, hiso]

/-! ### The statement -/

/-- Settles O50: the order through the keys, the peer's time through the entry that takes its
INTENT, and the own time through the completion that opens the window. -/
theorem intentsAreTotallyOrdered : Obligations.IntentsAreTotallyOrdered := by
  refine ⟨fun x y m n => precedes_iff_intentKey_lt.trans intentKey_lt_iff,
    fun x y m n => precedes_ne_swap, fun x y z l m n => precedes_trans,
    fun f s hhears hslot hlen => ?_, fun a claim r w s hlive ha hiso hcls hhead hintent => ?_⟩
  · exact ⟨_, _, exec_intentReceived hhears hslot hlen,
      heldIntent_putPeer (peerEntry_slot f.source.toNat s), rfl⟩
  · exact ⟨_, live_next hlive,
      congrArg Bgu.intent (completeAttempt_own ha hiso hcls hhead hintent)⟩

end Sys2Proof.Machine
end

section
/-! SUPPORT. The receptions as one command over the frame's kind, and what the four reads have in
common. -/

namespace Sys2Proof.Machine

/-! ### Receptions (R160) -/

/-- Every reception is the arrival of a frame of its kind (R160). -/
theorem exec_of_frameOf {c : Instr} {k : Byte} {f : RxFrame} {s : State}
    (h : frameOf c = some (k, f)) : exec c s = s.live (anyFrame k f) := by
  cases c <;> cases h <;> rfl

/-! ### The reads (R167, R171) -/

/-- What a read does: it leaves the station as it is, and its answer is never NOT_PERMITTED. -/
def IsRead (act : Nat → State → Answer) : Prop :=
  ∀ n s, (act n s).after = s ∧ (act n s).code ≠ .notPermitted

theorem isRead_readStatus : IsRead State.readStatus := by
  intro page s
  unfold State.readStatus
  split <;> simp

theorem isRead_readRecord : IsRead State.readRecord := by
  intro index s
  unfold State.readRecord
  split <;> simp

theorem isRead_readGroup : IsRead State.readGroup := by
  intro group s
  unfold State.readGroup
  split <;> simp

theorem isRead_readPointValue : IsRead State.readPointValue := by
  intro point s
  unfold State.readPointValue
  split <;> simp

/-- The four kinds of Table 10-3 from 30h to 33h are reads. -/
theorem anyFrame_read {k : Byte} (hk : k ∈ [(0x30 : Byte), 0x31, 0x32, 0x33]) :
    ∃ act, IsRead act ∧ ∀ f, anyFrame k f = State.hear k f (State.readRequest k f act) := by
  simp only [List.mem_cons, List.not_mem_nil, or_false] at hk
  rcases hk with rfl | rfl | rfl | rfl
  · exact ⟨_, isRead_readStatus, fun _ => rfl⟩
  · exact ⟨_, isRead_readRecord, fun _ => rfl⟩
  · exact ⟨_, isRead_readGroup, fun _ => rfl⟩
  · exact ⟨_, isRead_readPointValue, fun _ => rfl⟩

end Sys2Proof.Machine
end

section
/-! SUPPORT. The snapshot store under every operation of the station but SNAPSHOT's own: one lemma
per operation, by the blocks of the model, each saying that the store stays. With them every command
but SNAPSHOT, and what a SNAPSHOT copies. After them the statement on the store. -/

namespace Sys2Proof.Machine

/-! ### The outbox (R161 to R165) -/

section Outbox

variable (b : Bif)

@[simp] theorem queueBudget_snapshot (f : BudgetFrame) :
    (b.queueBudget f).snapshot = b.snapshot := by
  unfold Bif.queueBudget
  split <;> rfl

@[simp] theorem queueBeacon_snapshot : b.queueBeacon.snapshot = b.snapshot := by
  unfold Bif.queueBeacon
  split <;> rfl

@[simp] theorem queueNotice_snapshot (n : Notice) : (b.queueNotice n).snapshot = b.snapshot := by
  unfold Bif.queueNotice
  split <;> rfl

@[simp] theorem queueResponse_snapshot (r : Response) :
    (b.queueResponse r).snapshot = b.snapshot := rfl

@[simp] theorem admitNewer_snapshot : b.admitNewer.snapshot = b.snapshot := rfl

@[simp] theorem disown_snapshot : b.disown.snapshot = b.snapshot := rfl

@[simp] theorem Bif.tick_snapshot : b.tick.snapshot = b.snapshot := rfl

@[simp] theorem removeHead_snapshot (c : FrameClass) : (b.removeHead c).snapshot = b.snapshot := by
  cases c <;> rfl

/-- An abort counts in its frame's class (R162). -/
@[simp] theorem countAbort_snapshot (c : FrameClass) : (b.countAbort c).snapshot = b.snapshot := by
  cases c
  · show b.abortBudget.snapshot = _
    unfold Bif.abortBudget
    split <;> rfl
  · show b.abortNotice.snapshot = _
    unfold Bif.abortNotice
    (repeat' split) <;> rfl
  · show b.abortResponse.snapshot = _
    unfold Bif.abortResponse
    (repeat' split) <;> rfl
  · show b.abortBeacon.snapshot = _
    unfold Bif.abortBeacon
    split <;> rfl

end Outbox

variable (s : State)

/-! ### The claim (Chapter 3) -/

@[simp] theorem withdrawIntent_snapshot : s.withdrawIntent.bus.snapshot = s.bus.snapshot := by
  obtain ⟨w, b, bn, e⟩ := withdrawIntent_spec s
  rw [e]

@[simp] theorem promoteIntent_snapshot : s.promoteIntent.bus.snapshot = s.bus.snapshot := by
  obtain ⟨i, b, bn, e, -⟩ := promoteIntent_spec s
  rw [e]

@[simp] theorem askClaim_snapshot (w : Nat) : (s.askClaim w).bus.snapshot = s.bus.snapshot := by
  obtain ⟨i, wd, b, bn, e, -⟩ := askClaim_spec w s
  rw [e]

@[simp] theorem commitClaim_snapshot (w : Nat) :
    (s.commitClaim w).bus.snapshot = s.bus.snapshot := by
  obtain ⟨b, bn, e⟩ := commitClaim_spec w s
  rw [e]

@[simp] theorem becomeSettled_snapshot : s.becomeSettled.bus.snapshot = s.bus.snapshot := by
  unfold State.becomeSettled
  split <;> simp

@[simp] theorem commitPending_snapshot : s.commitPending.bus.snapshot = s.bus.snapshot := by
  unfold State.commitPending
  split <;> simp

@[simp] theorem beginRetry_snapshot : s.beginRetry.bus.snapshot = s.bus.snapshot := by
  simp [State.beginRetry]

@[simp] theorem retryCause_snapshot : s.retryCause.bus.snapshot = s.bus.snapshot := by
  unfold State.retryCause
  split <;> simp

/-! ### The log and the run end (R28, R30, R142 to R147) -/

/-- What changes the log and the notices only leaves the store. -/
theorem LogOnly.snapshot {s t : State} (h : LogOnly s t) : t.bus.snapshot = s.bus.snapshot := by
  obtain ⟨f, n, d, rfl⟩ := h
  rfl

@[simp] theorem writeRecord_snapshot (r : Record) :
    (s.writeRecord r).bus.snapshot = s.bus.snapshot := (writeRecord_logOnly r s).snapshot

@[simp] theorem queueRunNotice_snapshot (v : Verdict) (c : EndCause) :
    (s.queueRunNotice v c).bus.snapshot = s.bus.snapshot := (queueRunNotice_logOnly v c s).snapshot

@[simp] theorem closeGroups_snapshot : s.closeGroups.bus.snapshot = s.bus.snapshot :=
  (foldRecords_spec s.fcu.groups { s with fcu := { s.fcu with groups := [] } }).1.snapshot

@[simp] theorem finalClosing_snapshot (mode : ClosingMode) :
    (s.finalClosing mode).bus.snapshot = s.bus.snapshot := (finalClosing_spec mode s).1.snapshot

@[simp] theorem runEnd_snapshot (v : Verdict) (c : EndCause) :
    (s.runEnd v c).bus.snapshot = s.bus.snapshot := by
  obtain ⟨o, b, bn, ns, nd, lanes, lines, e, -⟩ := runEnd_spec v c s
  rw [e]

@[simp] theorem finishCompletion_snapshot : s.finishCompletion.bus.snapshot = s.bus.snapshot := by
  unfold State.finishCompletion
  (repeat' split) <;> simp

@[simp] theorem completeRun_snapshot : s.completeRun.bus.snapshot = s.bus.snapshot := by
  simp [State.completeRun]

@[simp] theorem writeInRun_snapshot (r : Record) :
    (s.writeInRun r).bus.snapshot = s.bus.snapshot := by
  simp only [State.writeInRun, State.faultLimitEnd]
  split <;> simp

@[simp] theorem enterIsolated_snapshot (ms : Nat) :
    (s.enterIsolated ms).bus.snapshot = s.bus.snapshot := by
  simp only [State.enterIsolated, State.busLostClosing, State.isolateClaim]
  split <;> simp

@[simp] theorem leaveIsolated_snapshot : s.leaveIsolated.bus.snapshot = s.bus.snapshot := by
  unfold State.leaveIsolated
  split <;> rfl

/-! ### The steps of a run (R7 to R19) -/

@[simp] theorem startBlanking_snapshot : s.startBlanking.bus.snapshot = s.bus.snapshot := by
  unfold State.startBlanking
  split <;> simp

@[simp] theorem advancePhase_snapshot : s.advancePhase.bus.snapshot = s.bus.snapshot := by
  unfold State.advancePhase
  (repeat' split) <;> simp

@[simp] theorem powerOnArrival_snapshot : s.powerOnArrival.bus.snapshot = s.bus.snapshot := by
  unfold State.powerOnArrival
  (repeat' split) <;> simp

@[simp] theorem arrivalSequence_snapshot : s.arrivalSequence.bus.snapshot = s.bus.snapshot := by
  unfold State.arrivalSequence
  split <;> simp

@[simp] theorem arrive_snapshot : s.arrive.bus.snapshot = s.bus.snapshot := by
  simp only [State.arrive]
  split <;> simp

@[simp] theorem takeArrival_snapshot : s.takeArrival.bus.snapshot = s.bus.snapshot := by
  unfold State.takeArrival
  split <;> simp

@[simp] theorem commandLanding_snapshot : s.commandLanding.bus.snapshot = s.bus.snapshot := by
  unfold State.commandLanding
  split <;> simp

@[simp] theorem enterOff_snapshot : s.enterOff.bus.snapshot = s.bus.snapshot := by
  simp [State.enterOff]

@[simp] theorem enterPowering_snapshot : s.enterPowering.bus.snapshot = s.bus.snapshot := by
  simp [State.enterPowering]

/-- A step of either kind starts without the store (R9). -/
@[simp] theorem startStep_snapshot : s.startStep.bus.snapshot = s.bus.snapshot := by
  have hsettling : s.startSettling.bus.snapshot = s.bus.snapshot := by
    simp only [State.startSettling, commandLanding_snapshot]
    split <;> simp
  have hcycle : s.startCycle.bus.snapshot = s.bus.snapshot := by simp [State.startCycle]
  unfold State.startStep
  split <;> assumption

@[simp] theorem enterStep_snapshot (n : Nat) : (s.enterStep n).bus.snapshot = s.bus.snapshot := by
  simp only [State.enterStep]
  (repeat' split) <;> simp

@[simp] theorem endStep_snapshot : s.endStep.bus.snapshot = s.bus.snapshot := by
  simp only [State.endStep]
  split <;> simp

@[simp] theorem endIteration_snapshot : s.endIteration.bus.snapshot = s.bus.snapshot := by
  unfold State.endIteration
  split <;> simp

@[simp] theorem powerOnComplete_snapshot : s.powerOnComplete.bus.snapshot = s.bus.snapshot := by
  simp only [State.powerOnComplete]
  (repeat' split) <;> simp

@[simp] theorem reachMet_snapshot : s.reachMet.bus.snapshot = s.bus.snapshot := by
  unfold State.reachMet
  (repeat' split) <;> simp

/-! ### The taking of a raise (R26, R27, R132 to R144) -/

@[simp] theorem nextStepAction_snapshot : s.nextStepAction.bus.snapshot = s.bus.snapshot := by
  simp [State.nextStepAction]

@[simp] theorem goOnAction_snapshot (kind : FaultKind) :
    (s.goOnAction kind).bus.snapshot = s.bus.snapshot := by
  unfold State.goOnAction
  split <;> simp

@[simp] theorem captureRaise_snapshot (r : Record) :
    (s.captureRaise r).bus.snapshot = s.bus.snapshot := by
  unfold State.captureRaise
  split <;> simp

@[simp] theorem raiseClosing_snapshot (mode : ClosingMode) (r : Record) :
    (s.raiseClosing mode r).bus.snapshot = s.bus.snapshot := by
  simp only [State.raiseClosing]
  (repeat' split) <;> simp

@[simp] theorem raiseSeeing_snapshot (asc : Asc) (kind : FaultKind) (points : List Nat)
    (value : Int) : (s.raiseSeeing asc kind points value).bus.snapshot = s.bus.snapshot := by
  simp only [State.raiseSeeing]
  (repeat' split) <;> simp

@[simp] theorem raise_snapshot (kind : FaultKind) (points : List Nat) (value : Int) :
    (s.raise kind points value).bus.snapshot = s.bus.snapshot := raiseSeeing_snapshot ..

/-! ### The timed events of the Budget Unit (R55 to R63) -/

@[simp] theorem windowExpires_snapshot : (windowExpires s).bus.snapshot = s.bus.snapshot := by
  have hcommit (w : Nat) : (s.commitWindow w).bus.snapshot = s.bus.snapshot := by
    simp only [State.commitWindow]
    split <;> simp
  have hrefuse : s.refuseWindow.bus.snapshot = s.bus.snapshot := by
    simp [State.refuseWindow, State.queueCommit]
  unfold windowExpires
  (repeat' split) <;> simp [hcommit, hrefuse]

@[simp] theorem retryExpires_snapshot : (retryExpires s).bus.snapshot = s.bus.snapshot := by
  unfold retryExpires
  (repeat' split) <;> simp

@[simp] theorem waitingLimit_snapshot : (waitingLimit s).bus.snapshot = s.bus.snapshot := by
  unfold waitingLimit
  split <;> simp

@[simp] theorem peerRemoved_snapshot (slot : BitVec 5) :
    (peerRemoved slot s).bus.snapshot = s.bus.snapshot := by
  unfold peerRemoved
  split <;> simp

/-! ### The scanner (Chapters 4 and 5) -/

@[simp] theorem windowSample_snapshot (seen : Asc) (i : Fin 8) (y : Int) :
    (s.windowSample seen i y).bus.snapshot = s.bus.snapshot := by
  simp only [State.windowSample]
  (repeat' split) <;> simp

@[simp] theorem reachSample_snapshot (i : Fin 8) (y : Int) :
    (s.reachSample i y).bus.snapshot = s.bus.snapshot := by
  unfold State.reachSample
  (repeat' split) <;> simp

@[simp] theorem takeSample_snapshot (seen : Asc) (i : Fin 8) (y : Int) :
    (s.takeSample seen i y).bus.snapshot = s.bus.snapshot := by
  simp only [State.takeSample]
  (repeat' split) <;> simp

@[simp] theorem judgeOverdraw_snapshot (seen : Asc) :
    (s.judgeOverdraw seen).bus.snapshot = s.bus.snapshot := by
  unfold State.judgeOverdraw
  (repeat' split) <;> simp

@[simp] theorem completeScan_snapshot (seen : Asc) (next : Uptime) :
    (s.completeScan seen next).bus.snapshot = s.bus.snapshot := by
  simp [State.completeScan]

@[simp] theorem beginScan_snapshot (next : Uptime) :
    (s.beginScan next).bus.snapshot = s.bus.snapshot := by
  unfold State.beginScan
  split <;> simp

@[simp] theorem startScan_snapshot : (startScan s).bus.snapshot = s.bus.snapshot := by
  unfold startScan
  (repeat' split) <;> simp

@[simp] theorem completeConversion_snapshot (uv : Int) :
    (completeConversion uv s).bus.snapshot = s.bus.snapshot := by
  simp only [completeConversion]
  split
  · -- The sample is taken first; then the scan goes on or completes.
    generalize hn : nextEnabled _ _ = n
    cases n <;> simp
  · rfl
  · rfl

/-! ### The fixture and its load (Chapter 11) -/

@[simp] theorem tryLoad_snapshot : s.tryLoad.bus.snapshot = s.bus.snapshot := by
  unfold State.tryLoad
  split <;> simp

@[simp] theorem takeIds_snapshot (b : List Byte) : (s.takeIds b).bus.snapshot = s.bus.snapshot := by
  obtain ⟨m, n, e⟩ := takeIds_spec b s
  rw [e]

@[simp] theorem readIds_snapshot : s.readIds.bus.snapshot = s.bus.snapshot := by
  obtain ⟨f, k, m, n, e, -⟩ := readIds_spec s
  rw [e]

@[simp] theorem completeLoad_snapshot (c : LoadedConfig) :
    (s.completeLoad c).bus.snapshot = s.bus.snapshot := by
  simp [State.completeLoad]

@[simp] theorem loadCompletes_snapshot (answered : Nat) :
    (loadCompletes answered s).bus.snapshot = s.bus.snapshot := by
  simp only [loadCompletes]
  (repeat' split) <;> simp

@[simp] theorem loadStops_snapshot (b : List Byte) :
    (loadStops b s).bus.snapshot = s.bus.snapshot := by
  simp [loadStops]

@[simp] theorem loadTimerExpires_snapshot (answered : Nat) :
    (loadTimerExpires answered s).bus.snapshot = s.bus.snapshot := by
  unfold loadTimerExpires
  split <;> simp

@[simp] theorem memorySilent_snapshot (answered : Nat) :
    (memorySilent answered s).bus.snapshot = s.bus.snapshot := by
  unfold memorySilent
  split <;> simp

@[simp] theorem fixtureChanges_snapshot (fixture : Option (List Byte)) :
    (fixtureChanges fixture s).bus.snapshot = s.bus.snapshot := by
  have hremoved : s.removeFixture.bus.snapshot = s.bus.snapshot := by
    simp only [State.removeFixture, unloadFixture_bus]
    split <;> simp
  unfold fixtureChanges
  split <;> simp [hremoved]

@[simp] theorem debounceExpires_snapshot : (debounceExpires s).bus.snapshot = s.bus.snapshot := by
  unfold debounceExpires
  split <;> simp

@[simp] theorem groupExpires_snapshot : (groupExpires s).bus.snapshot = s.bus.snapshot := by
  unfold groupExpires
  (repeat' split) <;> simp

@[simp] theorem endReset_snapshot (slot : BitVec 5) (code : BitVec 4) :
    (endReset slot code s).bus.snapshot = s.bus.snapshot := by
  simp [endReset]

/-! ### The lanes (Chapter 6) -/

@[simp] theorem countError_snapshot (i : Fin 4) (k : ErrorKind) :
    (s.countError i k).bus.snapshot = s.bus.snapshot := by
  simp only [State.countError]
  (repeat' split) <;> simp

@[simp] theorem countIf_snapshot (b : Bool) (i : Fin 4) (k : ErrorKind) :
    (s.countIf b i k).bus.snapshot = s.bus.snapshot := by
  unfold State.countIf
  split <;> simp

@[simp] theorem loseLock_snapshot (i : Fin 4) : (s.loseLock i).bus.snapshot = s.bus.snapshot := by
  simp only [State.loseLock]
  split <;> simp

@[simp] theorem changeLock_snapshot (i : Fin 4) (before dest : Lock) :
    (s.changeLock i before dest).bus.snapshot = s.bus.snapshot := by
  simp only [State.changeLock]
  (repeat' split) <;> simp

@[simp] theorem groupArrives_snapshot (i : Fin 4) (g : CodeGroup) :
    (groupArrives i g s).bus.snapshot = s.bus.snapshot := by
  simp only [groupArrives]
  (repeat' split) <;> simp

/-! ### The watch lines (Chapter 7) -/

@[simp] theorem raiseLine_snapshot (i : Fin 4) (kind : FaultKind) (value : Int) :
    (s.raiseLine i kind value).bus.snapshot = s.bus.snapshot := by
  unfold State.raiseLine
  split <;> simp

@[simp] theorem waitEnded_snapshot : s.waitEnded.bus.snapshot = s.bus.snapshot := by
  unfold State.waitEnded
  split <;> simp

@[simp] theorem superviseRise_snapshot (i : Fin 4) :
    (s.superviseRise i).bus.snapshot = s.bus.snapshot := by
  simp only [State.superviseRise]
  split <;> simp

@[simp] theorem superviseFall_snapshot (i : Fin 4) :
    (s.superviseFall i).bus.snapshot = s.bus.snapshot := by
  simp only [State.superviseFall]
  (repeat' split) <;> simp

@[simp] theorem lineEdge_snapshot (i : Fin 4) (rising : Bool) :
    (lineEdge i rising s).bus.snapshot = s.bus.snapshot := by
  simp only [lineEdge]
  (repeat' split) <;> simp

@[simp] theorem heartbeatExpires_snapshot (i : Fin 4) :
    (heartbeatExpires i s).bus.snapshot = s.bus.snapshot := by
  simp only [heartbeatExpires]
  split <;> simp

@[simp] theorem rateWindowExpires_snapshot (i : Fin 4) :
    (rateWindowExpires i s).bus.snapshot = s.bus.snapshot := by
  simp only [rateWindowExpires]
  (repeat' split) <;> simp

@[simp] theorem powerGoodExpires_snapshot :
    (powerGoodExpires s).bus.snapshot = s.bus.snapshot := by
  simp only [powerGoodExpires]
  (repeat' split) <;> simp

/-! ### The supply's inputs and the clocks (R43 to R46, Chapter 9) -/

@[simp] theorem limitExpires_snapshot : (limitExpires s).bus.snapshot = s.bus.snapshot := by
  unfold limitExpires
  split <;> simp

@[simp] theorem senseChanges_snapshot (present : Bool) :
    (senseChanges present s).bus.snapshot = s.bus.snapshot := by
  simp only [senseChanges]
  (repeat' split) <;> simp

@[simp] theorem outputTicks_snapshot : (outputTicks s).bus.snapshot = s.bus.snapshot := by
  simp only [outputTicks]
  split <;> simp [State.tickTimers]

@[simp] theorem rackAdvances_snapshot : (rackAdvances s).bus.snapshot = s.bus.snapshot := by
  -- The advanced rack time is named, so that the kernel does not compute it.
  unfold rackAdvances
  generalize addNanos s.tmu.rack 20 = r
  rfl

@[simp] theorem settleExpires_snapshot : (settleExpires s).bus.snapshot = s.bus.snapshot := by
  unfold settleExpires
  split <;> simp

@[simp] theorem listeningEnds_snapshot : (listeningEnds s).bus.snapshot = s.bus.snapshot := by
  unfold listeningEnds
  split <;> simp

/-! ### The timers of a step and of the button (R13 to R18, R42, R103) -/

@[simp] theorem pressExpires_snapshot : (pressExpires s).bus.snapshot = s.bus.snapshot := by
  have hended (s : State) : s.pressEnded.bus.snapshot = s.bus.snapshot := by
    unfold State.pressEnded
    (repeat' split) <;> simp
  unfold pressExpires
  split <;> simp [hended]

@[simp] theorem durationExpires_snapshot : (durationExpires s).bus.snapshot = s.bus.snapshot := by
  unfold durationExpires
  split <;> simp

@[simp] theorem reachExpires_snapshot : (reachExpires s).bus.snapshot = s.bus.snapshot := by
  simp only [reachExpires]
  split <;> simp

@[simp] theorem offExpires_snapshot : (offExpires s).bus.snapshot = s.bus.snapshot := by
  unfold offExpires
  split <;> simp

@[simp] theorem onExpires_snapshot : (onExpires s).bus.snapshot = s.bus.snapshot := by
  unfold onExpires
  (repeat' split) <;> simp

@[simp] theorem blankingExpires_snapshot : (blankingExpires s).bus.snapshot = s.bus.snapshot := by
  unfold blankingExpires
  split <;> simp

/-! ### The control requests and the start switch (R20 to R25) -/

@[simp] theorem startRun_snapshot : s.startRun.bus.snapshot = s.bus.snapshot := by
  simp only [State.startRun]
  split <;> simp

theorem takeStart_snapshot : s.takeStart.after.bus.snapshot = s.bus.snapshot := by
  rw [takeStart_after]
  split <;> simp

theorem takePause_snapshot : s.takePause.after.bus.snapshot = s.bus.snapshot := by
  unfold State.takePause
  split <;> simp

theorem takeResume_snapshot : s.takeResume.after.bus.snapshot = s.bus.snapshot := by
  have hpower (s : State) : s.resumePowerOn.bus.snapshot = s.bus.snapshot := by
    unfold State.resumePowerOn
    split <;> simp
  have hreach (s : State) : s.resumeReach.bus.snapshot = s.bus.snapshot := by
    unfold State.resumeReach
    split <;> simp
  unfold State.takeResume
  split <;> simp [State.resumeRun, hpower, hreach]

theorem takeAbort_snapshot : s.takeAbort.after.bus.snapshot = s.bus.snapshot := by
  unfold State.takeAbort State.abortRun
  split <;> simp

theorem takeClear_snapshot : s.takeClear.after.bus.snapshot = s.bus.snapshot := by
  unfold State.takeClear
  split <;> simp

@[simp] theorem releaseSwitch_snapshot : (releaseSwitch s).bus.snapshot = s.bus.snapshot := by
  simp only [releaseSwitch]
  (repeat' split) <;> simp

@[simp] theorem closeSwitch_snapshot : (closeSwitch s).bus.snapshot = s.bus.snapshot := by
  unfold closeSwitch
  split <;> rfl

/-! ### Requests and receptions (R54, R156, R160, R167) -/

@[simp] theorem respond_snapshot (k : Byte) (f : RxFrame) (code : ResponseCode) (d : List Byte) :
    (s.respond k f code d).bus.snapshot = s.bus.snapshot := by
  unfold State.respond
  split <;> simp

@[simp] theorem dropRequest_snapshot : s.dropRequest.bus.snapshot = s.bus.snapshot := rfl

/-- A frame touches the store only by its delivery (R160). -/
theorem hear_snapshot {deliver : State → State} (k : Byte) (f : RxFrame)
    (h : ∀ s, (deliver s).bus.snapshot = s.bus.snapshot) :
    (s.hear k f deliver).bus.snapshot = s.bus.snapshot := by
  have hsource : (s.noteSource f).bus.snapshot = s.bus.snapshot := by
    unfold State.noteSource
    split <;> rfl
  unfold State.hear
  split <;> simp [h, hsource]

/-- A control request touches the store only by its action (R167). -/
theorem controlRequest_snapshot {act : State → Answer} (k : Byte) (f : RxFrame)
    (h : ∀ s, (act s).after.bus.snapshot = s.bus.snapshot) :
    (s.controlRequest k f act).bus.snapshot = s.bus.snapshot := by
  simp only [State.controlRequest]
  (repeat' split) <;> simp [h]

/-- A read leaves the store (R167, R171). -/
theorem readRequest_snapshot {act : Nat → State → Answer} (k : Byte) (f : RxFrame)
    (h : IsRead act) : (s.readRequest k f act).bus.snapshot = s.bus.snapshot := by
  simp only [State.readRequest]
  (repeat' split) <;> simp [(h _ _).1]

theorem hearPeer_snapshot (f : RxFrame) (act : Peer → Peer) :
    (s.hearPeer f act).bus.snapshot = s.bus.snapshot := by
  simp only [State.hearPeer]
  (repeat' split) <;> simp

theorem takeBeacon_snapshot (f : RxFrame) : (s.takeBeacon f).bus.snapshot = s.bus.snapshot := by
  unfold State.takeBeacon State.timeSample
  split <;> simp [hearPeer_snapshot]

theorem takeIntent_snapshot (f : RxFrame) : (s.takeIntent f).bus.snapshot = s.bus.snapshot := by
  unfold State.takeIntent
  split <;> simp [hearPeer_snapshot]

theorem takeCommit_snapshot (f : RxFrame) : (s.takeCommit f).bus.snapshot = s.bus.snapshot := by
  unfold State.takeCommit
  split <;> simp [hearPeer_snapshot]

theorem takeOther_snapshot (k : Byte) (f : RxFrame) :
    (s.takeOther k f).bus.snapshot = s.bus.snapshot := by
  unfold State.takeOther State.unknownRequest
  (repeat' split) <;> simp

/-- A choice leaves the store where both of its sides do. -/
theorem ite_snapshot {p : Prop} [Decidable p] {a b : State}
    (ha : p → a.bus.snapshot = s.bus.snapshot) (hb : ¬p → b.bus.snapshot = s.bus.snapshot) :
    (if p then a else b).bus.snapshot = s.bus.snapshot := by
  split
  · next h => exact ha h
  · next h => exact hb h

/-- A frame of any kind but SNAPSHOT's leaves the store (R160, R170). -/
theorem anyFrame_snapshot {k : Byte} (hk : k ≠ kindSnapshot) (f : RxFrame) :
    (anyFrame k f s).bus.snapshot = s.bus.snapshot := by
  have hcontrol {act : State → Answer} (k : Byte)
      (h : ∀ s, (act s).after.bus.snapshot = s.bus.snapshot) :
      (s.hear k f (State.controlRequest k f act)).bus.snapshot = s.bus.snapshot :=
    hear_snapshot s k f fun s => controlRequest_snapshot s k f h
  have hread {act : Nat → State → Answer} (k : Byte) (h : IsRead act) :
      (s.hear k f (State.readRequest k f act)).bus.snapshot = s.bus.snapshot :=
    hear_snapshot s k f fun s => readRequest_snapshot s k f h
  unfold anyFrame
  refine ite_snapshot s (fun _ => hear_snapshot s _ f fun s => takeBeacon_snapshot s f) fun _ => ?_
  refine ite_snapshot s (fun _ => hear_snapshot s _ f fun s => takeIntent_snapshot s f) fun _ => ?_
  refine ite_snapshot s (fun _ => hear_snapshot s _ f fun s => takeCommit_snapshot s f) fun _ => ?_
  refine ite_snapshot s (fun _ => hcontrol _ takeStart_snapshot) fun _ => ?_
  refine ite_snapshot s (fun _ => hcontrol _ takePause_snapshot) fun _ => ?_
  refine ite_snapshot s (fun _ => hcontrol _ takeResume_snapshot) fun _ => ?_
  refine ite_snapshot s (fun _ => hcontrol _ takeAbort_snapshot) fun _ => ?_
  refine ite_snapshot s (fun _ => hcontrol _ takeClear_snapshot) fun _ => ?_
  refine ite_snapshot s (fun h => absurd h hk) fun _ => ?_
  refine ite_snapshot s (fun _ => hread _ isRead_readStatus) fun _ => ?_
  refine ite_snapshot s (fun _ => hread _ isRead_readRecord) fun _ => ?_
  refine ite_snapshot s (fun _ => hread _ isRead_readGroup) fun _ => ?_
  refine ite_snapshot s (fun _ => hread _ isRead_readPointValue) fun _ => ?_
  exact hear_snapshot s _ f fun s => takeOther_snapshot s k f

/-! ### Transmissions (R161 to R165) -/

@[simp] theorem startAttempt_snapshot : (startAttempt s).bus.snapshot = s.bus.snapshot := by
  unfold startAttempt
  (repeat' split) <;> rfl

@[simp] theorem loseArbitration_snapshot : (loseArbitration s).bus.snapshot = s.bus.snapshot := by
  unfold loseArbitration
  split <;> rfl

@[simp] theorem abortAttempt_snapshot : (abortAttempt s).bus.snapshot = s.bus.snapshot := by
  simp only [abortAttempt]
  (repeat' split) <;> simp

@[simp] theorem completeAttempt_snapshot : (completeAttempt s).bus.snapshot = s.bus.snapshot := by
  have hrecover (s : State) : s.recover.bus.snapshot = s.bus.snapshot := by
    simp only [State.recover]
    (repeat' split) <;> simp
  have hwindow (stamp : RackTime) (s : State) :
      (s.openWindow stamp).bus.snapshot = s.bus.snapshot := by
    unfold State.openWindow
    split <;> rfl
  simp only [completeAttempt]
  split
  · rfl
  · rw [hrecover]
    split <;> simp [hwindow]

@[simp] theorem beaconTimerExpires_snapshot :
    (beaconTimerExpires s).bus.snapshot = s.bus.snapshot := by
  unfold beaconTimerExpires
  split <;> simp

@[simp] theorem successTimerExpires_snapshot :
    (successTimerExpires s).bus.snapshot = s.bus.snapshot := by
  unfold successTimerExpires
  split <;> simp

/-! ### Every command -/

variable {s} {t : State}

/-- A command that acts outside a reset only leaves the store where its effect does (R175). -/
theorem live_snapshot {f : State → State} (h : s.live f = .next t)
    (hf : (f s).bus.snapshot = s.bus.snapshot) : t.bus.snapshot = s.bus.snapshot := by
  unfold State.live at h
  split at h <;> cases h
  · rfl
  · exact hf

/-- The commands that also do something while a reset holds the station leave the store where both
of their effects do. -/
theorem ite_next_snapshot {p : Prop} [Decidable p] {a b : State}
    (h : (if p then .next a else .next b : Host.Outcome State Fault Refusal) = .next t)
    (ha : a.bus.snapshot = s.bus.snapshot) (hb : b.bus.snapshot = s.bus.snapshot) :
    t.bus.snapshot = s.bus.snapshot := by
  split at h <;> cases h
  · exact ha
  · exact hb

/-- Outside a reset, only a SNAPSHOT frame can change the store (R170). -/
theorem exec_snapshot_of_frameOf_ne {c : Instr} (h : exec c s = .next t) (hp : c ≠ .powerOnReset)
    (hr : c ≠ .rackReset) (hc : ∀ f, frameOf c ≠ some (kindSnapshot, f)) :
    t.bus.snapshot = s.bus.snapshot := by
  cases hf : frameOf c with
  | some kf =>
    obtain ⟨k, f⟩ := kf
    have hk : k ≠ kindSnapshot := fun e => hc f (e ▸ hf)
    exact live_snapshot ((exec_of_frameOf hf).symm.trans h) (anyFrame_snapshot s hk f)
  | none =>
    cases c with
    | powerOnReset => exact absurd rfl hp
    | rackReset => exact absurd rfl hr
    | resetEnd _ _ => exact ite_next_snapshot h (by simp) rfl
    | outputLimitInputChange _ => cases h; rfl
    | startSwitchClose | startSwitchRelease | supplySenseChange _ | watchLineEdge _ _
    | fixturePresentChange _ => exact ite_next_snapshot h rfl (by simp)
    | peerEntryStale _ | peerIntentLifetimeExpiry _ => exact live_snapshot h rfl
    | attemptStart | arbitrationLoss | busError | transmitComplete | beaconTimerExpiry
    | transmitSuccessTimerExpiry | outputTick | pressTimerExpiry | powerGoodWaitExpiry
    | durationTimerExpiry | reachTimerExpiry | offTimerExpiry | onTimerExpiry
    | blankingTimerExpiry | outputLimitTimerExpiry | scanStart | conversionCompletion _
    | codeGroupArrival _ _ | heartbeatIntervalExpiry _ | rateWindowExpiry _ | claimWindowExpiry
    | retryIntervalExpiry | waitingLimitReached | listeningIntervalEnd | peerEntryRemoval _
    | settleTimerExpiry | fixtureDebounceExpiry | loadCompletion _ | loadTimerExpiry _
    | closeTimerExpiry | rackTimeAdvance | memoryNoResponse _ =>
      exact live_snapshot h (by simp)
    -- The receptions, each of which has a frame.
    | _ => cases hf

/-! ### SNAPSHOT (R170) -/

/-- The copies of a line: its counts, and its last rise where there is one (R170). -/
theorem Line.copy_spec (seconds : BitVec 32) (l : Line) :
    (l.copy seconds).pulses = l.pulses ∧ (l.copy seconds).episodes = l.episodes ∧
      (l.copy seconds).riseAbsent = l.riseRack.isNone ∧
      ∀ r, l.riseRack = some r → (l.copy seconds).rise = r := by
  unfold Line.copy
  cases l.riseRack <;> simp

/-- What a SNAPSHOT that is taken holds of a state (R170). -/
structure Copied (s : State) (store : Snapshot) : Prop where
  lanes : ∀ i, store.lanes.get i = ⟨(s.lanes.get i).signErrors, (s.lanes.get i).codeErrors,
    (s.lanes.get i).markErrors, (s.lanes.get i).lockLosses⟩
  lines : ∀ i, (store.lines.get i).pulses = (s.lines.get i).pulses ∧
    (store.lines.get i).episodes = (s.lines.get i).episodes ∧
    (store.lines.get i).riseAbsent = (s.lines.get i).riseRack.isNone ∧
    ∀ r, (s.lines.get i).riseRack = some r → (store.lines.get i).rise = r
  points : ∀ i, store.pointEpisodes.get i = (s.wck.points.get i).episodes
  overdraw : store.overdrawEpisodes = s.bgu.overdrawEpisodes
  rack : store.rack = s.tmu.rack

/-- SNAPSHOT changes the store, which then holds the copies, and uses up free values; it is answered
OK with no data (R170). -/
theorem takeSnapshot_spec (s : State) : ∃ store n, Copied s store ∧
    s.takeSnapshot = ⟨{ s with bus := { s.bus with snapshot := store }, free := n }, .ok, []⟩ := by
  refine ⟨_, _, ⟨fun i => ?_, fun i => ?_, fun i => ?_, rfl, rfl⟩, rfl⟩
  · simp [Lane.copy]
  · simpa using Line.copy_spec _ _
  · simp

/-- No slot is the destination that addresses every node (R160). -/
theorem slot_ne_everyNode (slot : BitVec 5) : slot.setWidth 6 ≠ everyNode := by
  intro h
  have := congrArg BitVec.toNat h
  simp [everyNode] at this
  omega

/-- A request that is taken for its own answer is addressed to the station, and so not to every node
(R160). -/
theorem dest_ne_of_takesControl {k : Byte} {f : RxFrame} {s : State}
    (h : s.takesControl k f = true) : f.dest ≠ 63 := by
  simp only [State.takesControl, State.hearsRequest, State.addressed, Bool.and_eq_true,
    decide_eq_true_eq] at h
  obtain ⟨⟨⟨⟨-, hdest⟩, -⟩, -⟩, -⟩ := h
  exact hdest ▸ slot_ne_everyNode s.slot

/-- A broadcast that is taken is addressed to every node (R167). -/
theorem dest_eq_of_takesBroadcast {k : Byte} {f : RxFrame} {s : State}
    (h : s.takesBroadcast k f = true) : f.dest = 63 := by
  simp only [State.takesBroadcast, Bool.and_eq_true, decide_eq_true_eq] at h
  obtain ⟨⟨⟨-, hdest⟩, -⟩, -⟩ := h
  exact hdest

/-- A SNAPSHOT that is taken, addressed or broadcast, writes the store, and the addressed one is
answered OK (R167, R170). -/
theorem exec_snapshot_spec {f : RxFrame} {s : State}
    (h : s.takesControl 0x25 f = true ∨ s.takesBroadcast 0x25 f = true) :
    ∃ store n, Copied s store ∧ exec (.snapshot f) s = .next { s with
      bus := { s.bus with
        snapshot := store
        responses := if f.dest = 63 then s.bus.responses
          else s.bus.responses ++ [answerTo 0x25 f 0 []] }
      free := n } := by
  obtain ⟨store, n, hcopied, htake⟩ := takeSnapshot_spec s
  refine ⟨store, n, hcopied, ?_⟩
  rcases h with h | h
  · obtain ⟨hlive, hact⟩ := takesControl_spec h
    calc exec (.snapshot f) s = .next (snapshotFrame f s) := live_next hlive
      _ = _ := by
        rw [show snapshotFrame f s = _ from hact State.takeSnapshot, htake,
          if_neg (dest_ne_of_takesControl h)]
        rfl
  · obtain ⟨hlive, hact⟩ := takesBroadcast_spec h
    calc exec (.snapshot f) s = .next (snapshotFrame f s) := live_next hlive
      _ = _ := by
        rw [show snapshotFrame f s = _ from hact State.takeSnapshot, htake,
          if_pos (dest_eq_of_takesBroadcast h)]

/-! ### The statement -/

/-- Settles O12: the copies through the action of SNAPSHOT, their keeping through every other
command, and the zeros through the reset. -/
theorem snapshotCopiesTheCounters : Obligations.SnapshotCopiesTheCounters := by
  refine ⟨fun f s h => ?_, fun c s t h hp hr hne => ?_, fun c s t h hc => ?_⟩
  · obtain ⟨store, n, copied, hexec⟩ := exec_snapshot_spec h
    exact ⟨_, hexec, copied.lanes, copied.lines, copied.points, copied.overdraw, copied.rack, rfl,
      rfl, rfl, rfl, rfl, rfl, rfl, rfl, rfl, rfl, rfl⟩
  · by_contra hno
    exact hne (exec_snapshot_of_frameOf_ne h hp hr fun f hf => hno ⟨f, hf⟩)
  · have ht : t = holdInReset s := by
      rcases hc with rfl | rfl <;> exact (Host.Outcome.next.inj h).symm
    subst ht
    exact ⟨fun i => ⟨Quad.get_fill _ i, Quad.get_fill _ i⟩, fun i => Oct.get_fill _ i, rfl, rfl⟩

end Sys2Proof.Machine
end

section
/-! SUPPORT. The control source table as the last match of a list, the match as an agreement of
leading bits, the entries that a block gives, the answers to reads, and the start switch. After them the
statement on the control source table. -/

namespace Sys2Proof.Machine

/-! ### The control source table (R168) -/

/-- The last element of a list that passes a test stands in the list, and none behind it passes. -/
theorem getLast?_filter_eq_some_iff {α : Type} {p : α → Bool} {l : List α} {b : α} :
    (l.filter p).getLast? = some b ↔
      ∃ before after, l = before ++ b :: after ∧ p b = true ∧ ∀ x ∈ after, p x = false := by
  rw [List.getLast?_filter, List.find?_eq_some_iff_append]
  constructor
  · rintro ⟨hb, behind, front, hl, hno⟩
    refine ⟨front.reverse, behind.reverse, ?_, hb, fun x hx => ?_⟩
    · simpa using congrArg List.reverse hl
    · simpa using hno x (List.mem_reverse.mp hx)
  · rintro ⟨before, after, rfl, hb, hno⟩
    refine ⟨hb, after.reverse, before.reverse, by simp, fun x hx => ?_⟩
    simpa using hno x (List.mem_reverse.mp hx)

/-- A table with entries permits a source by its last match, and none without a match (R168). -/
theorem permits_iff_getLast? {table : List SourceEntry} {src : BitVec 6} (h : table ≠ []) :
    permits table src = true ↔
      ∃ e, (table.filter (SourceEntry.matchesId src)).getLast? = some e ∧ e.control = true := by
  match table with
  | [] => exact absurd rfl h
  | x :: xs =>
    simp only [permits]
    cases ((x :: xs).filter (SourceEntry.matchesId src)).getLast? <;> simp

/-- Two ids agree after a shift that keeps `n` bits where their `n` leading bits agree. -/
theorem ushiftRight_eq_iff_leading {x y : BitVec 6} {n : Nat} (hn : n ≤ 6) :
    x >>> (6 - n) = y >>> (6 - n) ↔ ∀ k, k < n → x.getLsbD (5 - k) = y.getLsbD (5 - k) := by
  simp only [BitVec.eq_of_getLsbD_eq_iff, BitVec.getLsbD_ushiftRight]
  constructor
  · intro h k hk
    have := h (n - 1 - k) (by omega)
    rwa [show 6 - n + (n - 1 - k) = 5 - k by omega] at this
  · intro h i _
    by_cases hi : i < n
    · have := h (n - 1 - i) (by omega)
      rwa [show 5 - (n - 1 - i) = 6 - n + i by omega] at this
    · rw [BitVec.getLsbD_of_ge x _ (by omega), BitVec.getLsbD_of_ge y _ (by omega)]

/-- The entry of a number that a block gives is read at its place of the block (R168, R181). -/
theorem configOf_sources_getElem? {b : List Byte} {n : Nat} {e : SourceEntry}
    (h : (configOf b).sources[n]? = some e) : e = sourceOf b (157 + 3 * n) := by
  simp only [configOf, List.getElem?_map, Option.map_eq_some_iff] at h
  obtain ⟨i, hi, rfl⟩ := h
  obtain ⟨_, rfl⟩ := List.getElem?_eq_some_iff.mp hi
  simp

/-- A base id of 0 to 63 is taken as stored (R168). -/
theorem baseIdOf_toNat {n : Nat} (h : n < 64) : (baseIdOf n).toNat = n := by
  rw [baseIdOf, if_pos h, BitVec.toNat_ofNat, Nat.mod_eq_of_lt h]

/-! ### The reads (R167, R171) -/

/-- Only NOT_PERMITTED has the code 3 (Table 10-4). -/
theorem ResponseCode.code_eq_three_iff {c : ResponseCode} : c.code = 3 ↔ c = .notPermitted := by
  cases c <;> decide

/-- A read that is taken is answered, whatever its source, and its code is not NOT_PERMITTED
(R167, R168). -/
theorem exec_read_answers {c : Instr} {k : Byte} {f : RxFrame} {s : State}
    (hc : frameOf c = some (k, f)) (hk : k ∈ [(0x30 : Byte), 0x31, 0x32, 0x33])
    (h : s.takesRead k f = true) :
    ∃ (t : State) (r : Queued Response), exec c s = .next t ∧
      t.bus.responses = s.bus.responses ++ [r] ∧ r.frame.code ≠ 3 := by
  obtain ⟨act, hread, hframe⟩ := anyFrame_read hk
  obtain ⟨hlive, hact⟩ := takesRead_spec h
  obtain ⟨hafter, hcode⟩ := hread (byteAt f.payload 1) s
  refine ⟨_, answerTo k f (act (byteAt f.payload 1) s).code.code (act (byteAt f.payload 1) s).data,
    (exec_of_frameOf hc).trans (live_next hlive), ?_, mt ResponseCode.code_eq_three_iff.mp hcode⟩
  rw [hframe, hact act, hafter]
  rfl

/-! ### The start switch under the table (R25, R168) -/

/-- An accepted START with the supply sense PRESENT goes to CLAIMING where step 0 claims more than
is committed (R7, R20). -/
theorem startRun_claiming {s : State} (hp : s.sou.sensePresent = true)
    (hw : s.bgu.committed < (s.stepAt 0).claimW) : s.startRun.rcu.run = .claiming := by
  have hasks := enterStep_asks (n := 0) (s := s.clearHistory) hw
  have kept := askClaim_kept (s.stepAt 0).claimW
    { s.clearHistory.positioned 0 with
      rcu := { (s.clearHistory.positioned 0).rcu with run := .claiming, phase := .none } }.refresh
  have hstart : s.startRun = s.clearHistory.enterStep 0 :=
    if_pos (hasks ▸ kept.sense.trans hp)
  rw [hstart, hasks]
  exact kept.run

/-! ### The statement -/

/-- Settles O15: the table through its last match, the entries through the block, the reads through
their common form, and the switch through START, which looks at no source. -/
theorem highestMatchingSourceEntryDecides : Obligations.HighestMatchingSourceEntryDecides := by
  refine ⟨fun _ => rfl, fun table src hne => ?_, fun e src hlen => ?_, fun b => ⟨?_, ?_⟩,
    fun c k f s hc hk h => exec_read_answers hc hk h, ?_⟩
  · simp only [permits_iff_getLast? hne, getLast?_filter_eq_some_iff]
    exact ⟨fun ⟨e, ⟨before, after, hl, hm, hno⟩, hc⟩ => ⟨before, after, e, hl, hm, hc, hno⟩,
      fun ⟨before, after, e, hl, hm, hc, hno⟩ => ⟨e, ⟨before, after, hl, hm, hno⟩, hc⟩⟩
  · exact decide_eq_true_iff.trans (ushiftRight_eq_iff_leading hlen)
  · simp [configOf]
  · rintro n e he
    rw [configOf_sources_getElem? he]
    rw [show 158 + 3 * n = 157 + 3 * n + 1 by omega, show 159 + 3 * n = 157 + 3 * n + 2 by omega]
    exact ⟨baseIdOf_toNat, rfl, decide_eq_true_iff⟩
  · intro u s hlive _ hu hms hi hc hv hs hp hw
    refine ⟨_, exec_startSwitchRelease hlive, ?_⟩
    rw [releaseSwitch_short hu hms, takeStart_accepted (s := s.switchOpen) hi hc hv hs]
    exact startRun_claiming (s := s.switchOpen) hp hw

end Sys2Proof.Machine
end

section
/-! SUPPORT. What the operations of a run leave alone, as one relation from the state before to the
state after: one lemma per shared operation, by the blocks of the model. -/

namespace Sys2Proof.Machine

/-- From one state to the other the operations of a run have no part in the queue, the reset, the
straps, the clocks, the scanner, the fixture, the answers, the snapshot and the peer view, and they
keep the log indexed, the NOTICE class within its capacity, every claim within 400 W and a slot
conflict. -/
structure Moves (s t : State) : Prop where
  pending : t.pending = s.pending
  inReset : t.inReset = s.inReset
  slot : t.slot = s.slot
  code : t.code = s.code
  rack : t.tmu.rack = s.tmu.rack
  uptime : t.tmu.uptime = s.tmu.uptime
  asc : t.asc = s.asc
  cfl : t.cfl = s.cfl
  free : t.free = s.free
  peers : t.bgu.peers = s.bgu.peers
  responses : t.bus.responses = s.bus.responses
  snapshot : t.bus.snapshot = s.bus.snapshot
  log : s.logOrdered → t.logOrdered
  notices : s.bus.notices.length ≤ 8 → t.bus.notices.length ≤ 8
  claims : s.claimsBounded → t.claimsBounded
  conflict : s.bgu.slotConflict = true → t.bgu.slotConflict = true

theorem Moves.refl (s : State) : Moves s s :=
  ⟨rfl, rfl, rfl, rfl, rfl, rfl, rfl, rfl, rfl, rfl, rfl, rfl, id, id, id, id⟩

theorem Moves.trans {s t u : State} (h : Moves s t) (g : Moves t u) : Moves s u :=
  ⟨g.pending.trans h.pending, g.inReset.trans h.inReset, g.slot.trans h.slot, g.code.trans h.code,
    g.rack.trans h.rack, g.uptime.trans h.uptime, g.asc.trans h.asc, g.cfl.trans h.cfl,
    g.free.trans h.free, g.peers.trans h.peers, g.responses.trans h.responses,
    g.snapshot.trans h.snapshot, g.log ∘ h.log, g.notices ∘ h.notices, g.claims ∘ h.claims,
    g.conflict ∘ h.conflict⟩

/-- The run, the outputs, the windows, the lanes, the lines, the open groups and the closing mode are
for the operations of a run to change. -/
theorem Moves.board (s : State) (r : Rcu) (u : Sou) (w : Wck) (lanes : Quad Lane)
    (lines : Quad Line) (groups : List Group) (m : ClosingMode) :
    Moves s { s with
      rcu := r, sou := u, wck := w, lanes := lanes, lines := lines
      fcu := { s.fcu with groups := groups, mode := m } } := { Moves.refl s with }

/-- So is what the Budget Unit counts and times, and the BUDGET class. -/
theorem Moves.budget {s : State} {g : Bgu} (b : Option (Queued BudgetFrame))
    (bn : Option BudgetFrame) (hpeers : g.peers = s.bgu.peers)
    (hclaims : s.claimsBounded → g.committed ≤ 400 ∧ (∀ w, g.pendingLower = some w → w ≤ 400) ∧
      ∀ i, g.intent = some i → i.claim ≤ 400)
    (hconflict : s.bgu.slotConflict = true → g.slotConflict = true := by exact id) :
    Moves s { s with bgu := g, bus := { s.bus with budget := b, budgetNext := bn } } where
  pending := rfl
  inReset := rfl
  slot := rfl
  code := rfl
  rack := rfl
  uptime := rfl
  asc := rfl
  cfl := rfl
  free := rfl
  peers := hpeers
  responses := rfl
  snapshot := rfl
  log := id
  notices := id
  claims := fun h => ⟨(hclaims h).1, (hclaims h).2.1, (hclaims h).2.2, h.2.2.2⟩
  conflict := hconflict

theorem Moves.claim {s : State} {g : Bgu} (hpeers : g.peers = s.bgu.peers)
    (hclaims : s.claimsBounded → g.committed ≤ 400 ∧ (∀ w, g.pendingLower = some w → w ≤ 400) ∧
      ∀ i, g.intent = some i → i.claim ≤ 400)
    (hconflict : s.bgu.slotConflict = true → g.slotConflict = true := by exact id) :
    Moves s { s with bgu := g } :=
  .budget s.bus.budget s.bus.budgetNext hpeers hclaims hconflict

/-! ### The plan's claims (R3) -/

/-- Under the bound on the plan every step's claim is within it, that of a missing step too. -/
theorem claimW_le {s : State} (h : s.claimsBounded) (n : Nat) : (s.stepAt n).claimW ≤ 400 := by
  obtain ⟨-, -, -, hplan⟩ := h
  unfold State.stepAt State.cfg
  cases hc : s.cfl.config with
  | none => simp [LoadedConfig.blank, StepRec.blank]
  | some c =>
    rw [Option.getD_some, List.getD_eq_getElem?_getD]
    cases ht : c.steps[n]? with
    | none => simp [StepRec.blank]
    | some t => exact hplan c hc t (List.mem_of_getElem? ht)

/-! ### The log (R146, R148) -/

theorem notices_queueNotice_le (n : Notice) {b : Bif} (h : b.notices.length ≤ 8) :
    (b.queueNotice n).notices.length ≤ 8 := by
  rcases queueNotice_spec n b with ⟨hlt, e⟩ | ⟨-, e⟩ <;> rw [e]
  · simpa using hlt
  · exact h

/-- A record that is stored takes the next index. -/
theorem logOrdered_append {s : State} (h : s.logOrdered) (r : Record)
    (k : Nat) (q : Record)
    (hq : (s.fcu.log ++ [{ r with index := s.fcu.log.length }])[k]? = some q) : q.index = k := by
  rcases Nat.lt_trichotomy k s.fcu.log.length with hk | rfl | hk
  · exact h.2 k q (by rwa [List.getElem?_append_left hk] at hq)
  · simp at hq
    simp [← hq]
  · rw [List.getElem?_eq_none (by simp; omega)] at hq
    cases hq

theorem writeRecord_logOrdered (r : Record) {s : State} (h : s.logOrdered) :
    (s.writeRecord r).logOrdered := by
  unfold State.writeRecord
  by_cases hroom : s.fcu.log.length < 64
  · rw [if_pos hroom]
    exact ⟨by simpa using hroom, logOrdered_append h r⟩
  · rw [if_neg hroom]
    exact h

theorem writeRecord_moves (r : Record) (s : State) : Moves s (s.writeRecord r) := by
  have hlog := writeRecord_logOrdered r (s := s)
  have hnotices : s.bus.notices.length ≤ 8 → (s.writeRecord r).bus.notices.length ≤ 8 := by
    intro h
    unfold State.writeRecord
    split
    · exact notices_queueNotice_le _ h
    · exact h
  obtain ⟨f, n, d, e⟩ := writeRecord_logOnly r s
  rw [e] at hlog hnotices ⊢
  exact ⟨rfl, rfl, rfl, rfl, rfl, rfl, rfl, rfl, rfl, rfl, rfl, rfl, hlog, hnotices, id, id⟩

theorem foldRecords_moves (gs : List Group) (s : State) :
    Moves s (gs.foldl (fun s g => s.writeRecord g.record) s) := by
  induction gs generalizing s with
  | nil => exact .refl s
  | cons g gs ih => exact (writeRecord_moves g.record s).trans (ih _)

theorem closeGroups_moves (s : State) : Moves s s.closeGroups :=
  (Moves.board s s.rcu s.sou s.wck s.lanes s.lines [] s.fcu.mode).trans
    (foldRecords_moves s.fcu.groups _)

theorem finalClosing_moves (mode : ClosingMode) (s : State) : Moves s (s.finalClosing mode) :=
  (Moves.board s s.rcu s.sou s.wck s.lanes s.lines s.fcu.groups mode).trans (closeGroups_moves _)

theorem joinOrOpen_moves (r : Record) (s : State) : Moves s (s.joinOrOpen r) := by
  obtain ⟨gs, e, -⟩ := joinOrOpen_spec r s
  rw [e]
  exact .board s s.rcu s.sou s.wck s.lanes s.lines gs s.fcu.mode

theorem queueRunNotice_moves (v : Verdict) (c : EndCause) (s : State) :
    Moves s (s.queueRunNotice v c) := by
  have hnotices := notices_queueNotice_le (.run (s.runNotice v c)) (b := s.bus)
  unfold State.queueRunNotice
  rcases queueNotice_spec (.run (s.runNotice v c)) s.bus with ⟨-, e⟩ | ⟨-, e⟩ <;>
    rw [e] at hnotices ⊢ <;>
    exact ⟨rfl, rfl, rfl, rfl, rfl, rfl, rfl, rfl, rfl, rfl, rfl, rfl, id, hnotices, id, id⟩

/-! ### The claim (Chapter 3) -/

theorem withdrawIntent_moves (s : State) : Moves s s.withdrawIntent := by
  obtain ⟨w, b, bn, e⟩ := withdrawIntent_spec s
  rw [e]
  exact .budget b bn rfl fun ⟨hc, hl, _, _⟩ => ⟨hc, hl, by simp⟩

/-- A HELD intent that is queued carries its claim on (R57). -/
theorem promoteIntent_moves (s : State) : Moves s s.promoteIntent := by
  unfold State.promoteIntent
  split
  · next w hi =>
    split
    · rcases queueBudget_spec (.intent w true) s.bus with e | e <;> rw [e] <;>
        exact .budget _ _ rfl fun ⟨hc, hl, hk, _⟩ => ⟨hc, hl, by simpa [hi] using hk⟩
    · exact .refl s
  all_goals exact .refl s

theorem askClaim_moves {w : Nat} {s : State} (hw : s.claimsBounded → w ≤ 400) :
    Moves s (s.askClaim w) := by
  obtain ⟨i, wd, b, bn, e, -⟩ := askClaim_spec w s
  rw [e]
  refine .budget b bn rfl fun h => ⟨h.1, h.2.1, ?_⟩
  rintro _ ⟨⟩
  exact hw h

theorem commitClaim_moves {w : Nat} {s : State} (hw : s.claimsBounded → w ≤ 400) :
    Moves s (s.commitClaim w) := by
  obtain ⟨b, bn, e⟩ := commitClaim_spec w s
  rw [e]
  exact .budget b bn rfl fun h => ⟨hw h, h.2.1, h.2.2.1⟩

theorem commitPending_moves (s : State) : Moves s s.commitPending := by
  unfold State.commitPending
  split
  · exact .refl s
  · next w hw =>
    obtain ⟨b, bn, e⟩ := commitClaim_spec w { s with bgu := { s.bgu with pendingLower := none } }
    rw [e]
    exact .budget b bn rfl fun h => ⟨h.2.1 w hw, by simp, h.2.2.1⟩

theorem queueCommit_moves (s : State) : Moves s s.queueCommit := by
  unfold State.queueCommit
  rcases queueBudget_spec .commit s.bus with e | e <;> rw [e] <;>
    exact .budget _ _ rfl fun h => ⟨h.1, h.2.1, h.2.2.1⟩

theorem becomeSettled_moves (s : State) : Moves s s.becomeSettled := by
  unfold State.becomeSettled
  split
  · exact .refl s
  · refine Moves.trans ?_ (promoteIntent_moves _)
    exact { Moves.refl s with }

theorem beginRetry_moves (s : State) : Moves s s.beginRetry := by
  refine Moves.trans ?_ (askClaim_moves fun h => claimW_le h _)
  exact { Moves.refl s with }

theorem retryCause_moves (s : State) : Moves s s.retryCause := by
  unfold State.retryCause
  split
  · exact beginRetry_moves s
  · exact .refl s

/-! ### The board-on and blanking flags -/

theorem refresh_moves (s : State) : Moves s s.refresh :=
  .board s _ s.sou s.wck _ _ s.fcu.groups s.fcu.mode

theorem clearBlanking_moves (s : State) : Moves s s.clearBlanking :=
  .board s _ s.sou s.wck _ _ s.fcu.groups s.fcu.mode

theorem startBlanking_moves (s : State) : Moves s s.startBlanking := by
  unfold State.startBlanking
  split
  · exact clearBlanking_moves s
  · exact .board s _ s.sou s.wck s.lanes s.lines s.fcu.groups s.fcu.mode

/-! ### The run end and isolation (R28, R30) -/

theorem runEnd_moves (v : Verdict) (c : EndCause) (s : State) : Moves s (s.runEnd v c) := by
  have hclaim (t : State) : Moves t t.releaseClaim := by
    obtain ⟨o, b, bn, e, -⟩ := releaseClaim_spec t
    rw [e]
    exact .budget b bn rfl fun h => ⟨by simp, h.2.1, by simp⟩
  have hlower (t : State) : Moves t { t with
      rcu := { t.rcu.stopTimers.dropHeld with blanking := false, boardOn := false }
      bgu := { t.bgu with pendingLower := .none }
      wck := { t.wck with reach := .none } } :=
    (Moves.claim (g := { t.bgu with pendingLower := .none }) rfl
      fun h => ⟨h.1, by simp, h.2.2.1⟩).trans (.board _ _ _ _ _ _ _ _)
  have hstart : Moves s
      { s with rcu := { s.rcu with verdict := v, cause := c }, sou := s.sou.runEnd s.cfg c } :=
    .board s _ _ s.wck s.lanes s.lines s.fcu.groups s.fcu.mode
  refine (((hstart.trans (hclaim _)).trans (hlower _)).trans (queueRunNotice_moves v c _)).trans
    (Moves.trans ?_ (refresh_moves _))
  exact .board _ _ _ _ _ _ _ _

theorem finishCompletion_moves (s : State) : Moves s s.finishCompletion := by
  unfold State.finishCompletion
  (repeat' split) <;> exact runEnd_moves _ _ s

theorem completeRun_moves (s : State) : Moves s s.completeRun :=
  (finalClosing_moves .completing s).trans (finishCompletion_moves _)

theorem faultLimitEnd_moves (s : State) : Moves s s.faultLimitEnd :=
  (finalClosing_moves .ending s).trans (runEnd_moves ..)

theorem writeInRun_moves (r : Record) (s : State) : Moves s (s.writeInRun r) := by
  simp only [State.writeInRun]
  split
  · exact (writeRecord_moves r s).trans (faultLimitEnd_moves _)
  · exact writeRecord_moves r s

theorem isolateClaim_moves (s : State) : Moves s s.isolateClaim := by
  refine Moves.trans ?_ (commitClaim_moves fun _ => by decide)
  exact .budget _ _ rfl fun h => ⟨h.1, by simp, by simp⟩

theorem enterIsolated_moves (ms : Nat) (s : State) : Moves s (s.enterIsolated ms) := by
  have hclosing : Moves s (if s.rcu.run.active then s.busLostClosing ms else s) := by
    split
    · exact ((finalClosing_moves .ending s).trans (writeRecord_moves _ _)).trans
        (queueRunNotice_moves ..)
    · exact .refl s
  unfold State.enterIsolated
  dsimp only
  generalize (if s.rcu.run.active then s.busLostClosing ms else s) = x at hclosing ⊢
  refine ((hclosing.trans (.board x x.rcu x.sou.forceZero.zero12 x.wck x.lanes x.lines x.fcu.groups
    x.fcu.mode)).trans (isolateClaim_moves _)).trans (Moves.trans ?_ (refresh_moves _))
  exact .board _ _ _ _ _ _ _ _

theorem leaveIsolated_moves (s : State) : Moves s s.leaveIsolated := by
  unfold State.leaveIsolated
  split <;> exact .board s _ _ _ _ _ _ _

/-! ### The phases of a step (R10 to R19) -/

theorem advancePhase_moves (s : State) : Moves s s.advancePhase := by
  unfold State.advancePhase
  (repeat' split) <;> exact .board s _ _ _ _ _ _ _

theorem startWait_moves (i : Fin 4) (s : State) : Moves s (s.startWait i) :=
  .board s _ _ _ _ _ _ _

theorem powerOnArrival_moves (s : State) : Moves s s.powerOnArrival := by
  unfold State.powerOnArrival
  split
  · exact .board s _ _ _ _ _ _ _
  · split
    · exact advancePhase_moves s
    · next i _ =>
      split
      · exact (startWait_moves i s).trans (advancePhase_moves _)
      · exact startWait_moves i s

theorem arrivalSequence_moves (s : State) : Moves s s.arrivalSequence := by
  unfold State.arrivalSequence
  split
  · exact powerOnArrival_moves s
  · exact advancePhase_moves s

theorem arrive_moves (s : State) : Moves s s.arrive := by
  have hpend : Moves s
      (State.commitPending { s with rcu := { s.rcu with arrivalTaken := true } }) :=
    (Moves.board s _ _ _ _ _ _ _).trans (commitPending_moves _)
  unfold State.arrive
  dsimp only
  split
  case h_1 => exact (hpend.trans (startBlanking_moves _)).trans (arrivalSequence_moves _)
  case h_2 =>
    exact ((hpend.trans (startBlanking_moves _)).trans (.board _ _ _ _ _ _ _ _)).trans
      (arrivalSequence_moves _)
  all_goals exact hpend

theorem takeArrival_moves (s : State) : Moves s s.takeArrival := by
  unfold State.takeArrival
  split
  · exact arrive_moves s
  · exact .refl s

theorem commandLanding_moves (s : State) : Moves s s.commandLanding := by
  unfold State.commandLanding
  split
  · exact takeArrival_moves s
  · exact .refl s

theorem enterOff_moves (s : State) : Moves s s.enterOff :=
  Moves.trans (.board s _ _ _ _ _ _ _) (takeArrival_moves _)

theorem enterPowering_moves (s : State) : Moves s s.enterPowering :=
  Moves.trans (.board s _ _ _ _ _ _ _) (commandLanding_moves _)

theorem startSettling_moves (s : State) : Moves s s.startSettling := by
  refine Moves.trans ?_ (commandLanding_moves _)
  split <;> exact .board s _ _ _ _ _ _ _

theorem startCycle_moves (s : State) : Moves s s.startCycle :=
  Moves.trans (.board s _ _ _ _ _ _ _) (enterOff_moves _)

theorem startStep_moves (s : State) : Moves s s.startStep := by
  unfold State.startStep
  split
  · exact startCycle_moves s
  · exact startSettling_moves s
  · exact startSettling_moves s

theorem positioned_moves (n : Nat) (s : State) : Moves s (s.positioned n) :=
  Moves.trans (t := { s with rcu := (s.positioned n).rcu }) (.board s _ _ _ _ _ _ _)
    (.budget _ _ rfl fun h => ⟨h.1, by simp, h.2.2.1⟩)

theorem enterStep_moves (n : Nat) (s : State) : Moves s (s.enterStep n) := by
  rcases Nat.lt_trichotomy s.bgu.committed (s.stepAt n).claimW with h | h | h
  · rw [enterStep_asks h]
    refine ((positioned_moves n s).trans (.board _ _ _ _ _ _ _ _)).trans
      (askClaim_moves fun hb => ?_)
    exact claimW_le hb n
  · rw [enterStep_starts h.symm]
    exact (positioned_moves n s).trans (startStep_moves _)
  · rw [enterStep_lowers h]
    refine ((positioned_moves n s).trans ?_).trans (startStep_moves _)
    refine .budget _ _ rfl fun hb => ⟨hb.1, ?_, hb.2.2.1⟩
    rintro _ ⟨⟩
    exact claimW_le hb n

theorem endStep_moves (s : State) : Moves s s.endStep := by
  have hend := Moves.board s s.rcu.stopTimers.dropHeld s.sou { s.wck with reach := .none } s.lanes
    (s.lines.map (Line.abandonWait s.tmu.uptime)) s.fcu.groups s.fcu.mode
  simp only [State.endStep]
  split
  · exact hend.trans (completeRun_moves _)
  · exact hend.trans (enterStep_moves _ _)

theorem endIteration_moves (s : State) : Moves s s.endIteration := by
  unfold State.endIteration
  split
  · exact Moves.trans (.board s _ _ _ _ _ _ _) (enterOff_moves _)
  · exact endStep_moves s

theorem powerOnComplete_moves (s : State) : Moves s s.powerOnComplete := by
  simp only [State.powerOnComplete]
  split
  · exact .board s _ _ _ _ _ _ _
  · split
    · exact (advancePhase_moves s).trans (endIteration_moves _)
    · exact advancePhase_moves s

theorem reachMet_moves (s : State) : Moves s s.reachMet := by
  unfold State.reachMet
  (repeat' split)
  · exact .board s _ _ _ _ _ _ _
  · exact .board s _ _ _ _ _ _ _
  · exact .refl s

/-! ### The taking of a raise (R26, R27, R132 to R144) -/

theorem nextStepAction_moves (s : State) : Moves s s.nextStepAction :=
  ((withdrawIntent_moves s).trans
    (.claim (g := { s.withdrawIntent.bgu with waitingSince := .none }) rfl
      fun h => ⟨h.1, h.2.1, h.2.2.1⟩)).trans (endStep_moves _)

theorem goOnAction_moves (kind : FaultKind) (s : State) : Moves s (s.goOnAction kind) := by
  unfold State.goOnAction
  split
  · exact .board s _ _ _ _ _ _ _
  · exact .refl s

theorem captureRaise_moves (r : Record) (s : State) : Moves s (s.captureRaise r) := by
  unfold State.captureRaise
  split
  · exact writeInRun_moves r s
  · exact joinOrOpen_moves r s

theorem raiseClosing_moves (mode : ClosingMode) (r : Record) (s : State) :
    Moves s (s.raiseClosing mode r) := by
  have hmode := Moves.board s s.rcu s.sou s.wck s.lanes s.lines s.fcu.groups mode
  simp only [State.raiseClosing]
  split
  · exact (hmode.trans (closeGroups_moves _)).trans (writeRecord_moves r _)
  · split
    · exact (hmode.trans (writeRecord_moves r _)).trans (closeGroups_moves _)
    · exact (hmode.trans (joinOrOpen_moves r _)).trans (closeGroups_moves _)

theorem raiseSeeing_moves (asc : Asc) (kind : FaultKind) (points : List Nat) (value : Int)
    (s : State) : Moves s (s.raiseSeeing asc kind points value) := by
  simp only [State.raiseSeeing]
  split
  · split
    · exact (goOnAction_moves kind s).trans (captureRaise_moves _ _)
    · split
      · exact (raiseClosing_moves ..).trans (finishCompletion_moves _)
      · exact (nextStepAction_moves s).trans (captureRaise_moves _ _)
    · exact (raiseClosing_moves ..).trans (runEnd_moves ..)
    · exact (raiseClosing_moves ..).trans (runEnd_moves ..)
  · exact .refl s

theorem raise_moves (kind : FaultKind) (points : List Nat) (value : Int) (s : State) :
    Moves s (s.raise kind points value) := raiseSeeing_moves ..

end Sys2Proof.Machine
end

section
/-! SUPPORT. What a command leaves alone: the commands that are operations of a run, the receptions by
what a delivered frame does, and the few commands that move the items of other blocks. After them the
statements on completion, on the books and on the items. -/

namespace Sys2Proof.Machine

/-! ### Commands -/

/-- Of the effect of a command outside a reset nothing else is asked (R175). -/
theorem live_of {P : State → Prop} {s t : State} {f : State → State} (h : s.live f = .next t)
    (hs : P s) (hf : s.inReset = false → P (f s)) : P t := by
  unfold State.live at h
  split at h <;> cases h
  · exact hs
  · next hr => exact hf (by simpa using hr)

/-- The commands that also do something while a reset holds the station have two effects. -/
theorem ite_next_of {P : State → Prop} {s t a b : State}
    (h : (if s.inReset then .next a else .next b : Host.Outcome State Fault Refusal) = .next t)
    (ha : s.inReset = true → P a) (hb : s.inReset = false → P b) : P t := by
  split at h <;> cases h
  · next hr => exact ha hr
  · next hr => exact hb (by simpa using hr)

/-- The control requests with what each does (R20 to R24, R170). -/
inductive Controls : Byte → (State → Answer) → Prop
  | start : Controls kindStart State.takeStart
  | pause : Controls kindPause State.takePause
  | resume : Controls kindResume State.takeResume
  | abort : Controls kindAbort State.takeAbort
  | clear : Controls kindClear State.takeClear
  | snapshot : Controls kindSnapshot State.takeSnapshot

/-- What the delivery of a frame does, by its kind (R160, Table 10-3). -/
inductive Delivers (f : RxFrame) : Byte → (State → State) → Prop
  | beacon : Delivers f kindBeacon (State.takeBeacon f)
  | intent : Delivers f kindIntent (State.takeIntent f)
  | commit : Delivers f kindCommit (State.takeCommit f)
  | control {k : Byte} {act : State → Answer} (h : Controls k act) :
      Delivers f k (State.controlRequest k f act)
  | read {k : Byte} {act : Nat → State → Answer} (h : IsRead act) :
      Delivers f k (State.readRequest k f act)
  | other (k : Byte) : Delivers f k (State.takeOther k f)

/-- A frame of any kind is heard and delivered as its kind says. -/
theorem anyFrame_delivers (k : Byte) (f : RxFrame) :
    ∃ deliver, Delivers f k deliver ∧ ∀ s, anyFrame k f s = s.hear k f deliver := by
  by_cases hk : k ∈ ownRowKinds
  · simp only [ownRowKinds, List.mem_cons, List.not_mem_nil, or_false] at hk
    rcases hk with rfl | rfl | rfl | rfl | rfl | rfl | rfl | rfl | rfl | rfl | rfl | rfl | rfl
    · exact ⟨_, .beacon, fun _ => rfl⟩
    · exact ⟨_, .intent, fun _ => rfl⟩
    · exact ⟨_, .commit, fun _ => rfl⟩
    · exact ⟨_, .control .start, fun _ => rfl⟩
    · exact ⟨_, .control .pause, fun _ => rfl⟩
    · exact ⟨_, .control .resume, fun _ => rfl⟩
    · exact ⟨_, .control .abort, fun _ => rfl⟩
    · exact ⟨_, .control .clear, fun _ => rfl⟩
    · exact ⟨_, .control .snapshot, fun _ => rfl⟩
    · exact ⟨_, .read isRead_readStatus, fun _ => rfl⟩
    · exact ⟨_, .read isRead_readRecord, fun _ => rfl⟩
    · exact ⟨_, .read isRead_readGroup, fun _ => rfl⟩
    · exact ⟨_, .read isRead_readPointValue, fun _ => rfl⟩
  · refine ⟨_, .other k, fun s => ?_⟩
    simp only [ownRowKinds, List.mem_cons, List.not_mem_nil, or_false, not_or] at hk
    obtain ⟨h1, h2, h3, h4, h5, h6, h7, h8, h9, h10, h11, h12, h13⟩ := hk
    simp only [anyFrame, kindBeacon, kindIntent, kindCommit, kindStart, kindPause, kindResume,
      kindAbort, kindClear, kindSnapshot, kindStatus, kindReadLog, kindReadCounters, kindReadPoint,
      h1, h2, h3, h4, h5, h6, h7, h8, h9, h10, h11, h12, h13, if_false]

/-! ### The operations of a run as commands -/

theorem commitWindow_moves {w : Nat} {s : State} (hw : s.claimsBounded → w ≤ 400) :
    Moves s (s.commitWindow w) := by
  have hcommit : Moves s (State.commitClaim w { s with bgu := { s.bgu with
      intent := .none, window := .none, accumulator := 0, refusals := 0 } }) := by
    obtain ⟨b, bn, e⟩ := commitClaim_spec w { s with bgu := { s.bgu with
      intent := .none, window := .none, accumulator := 0, refusals := 0 } }
    rw [e]
    exact .budget b bn rfl fun h => ⟨hw h, h.2.1, by simp⟩
  unfold State.commitWindow
  dsimp only
  split
  · exact hcommit.trans (startStep_moves _)
  · exact hcommit

theorem refuseWindow_moves (s : State) : Moves s s.refuseWindow :=
  ((Moves.claim (g := { s.bgu with
      intent := .none, window := .none, waitingSince := some s.tmu.uptime
      refusals := satInc 65535 s.bgu.refusals }) rfl fun h => ⟨h.1, h.2.1, by simp⟩).trans
    (.board _ { s.rcu with run := .waiting } s.sou s.wck s.lanes s.lines s.fcu.groups
      s.fcu.mode)).trans (queueCommit_moves _)

theorem windowExpires_moves (s : State) : Moves s (windowExpires s) := by
  unfold windowExpires
  split
  · next w time hi =>
    split
    · split
      · exact commitWindow_moves fun h => h.2.2.1 _ hi
      · exact refuseWindow_moves s
    · exact .refl s
  all_goals exact .refl s

theorem retryExpires_moves (s : State) : Moves s (retryExpires s) := by
  unfold retryExpires
  (repeat' split)
  · exact .refl s
  · exact beginRetry_moves s
  · exact .refl s

theorem waitingLimit_moves (s : State) : Moves s (waitingLimit s) := by
  unfold waitingLimit
  split
  · exact raise_moves ..
  · exact .refl s

theorem groupExpires_moves (s : State) : Moves s (groupExpires s) := by
  unfold groupExpires
  split
  · exact .refl s
  · next g gs _ =>
    split
    · exact (Moves.board s s.rcu s.sou s.wck s.lanes s.lines gs s.fcu.mode).trans
        (writeInRun_moves ..)
    · exact .refl s

/-! The lanes and the lines. -/

theorem setLane_moves (i : Fin 4) (l : Lane) (s : State) : Moves s (s.setLane i l) :=
  .board s s.rcu s.sou s.wck _ s.lines s.fcu.groups s.fcu.mode

theorem setLine_moves (i : Fin 4) (l : Line) (s : State) : Moves s (s.setLine i l) :=
  .board s s.rcu s.sou s.wck s.lanes _ s.fcu.groups s.fcu.mode

theorem countError_moves (i : Fin 4) (k : ErrorKind) (s : State) :
    Moves s (s.countError i k) := by
  simp only [State.countError]
  split
  · split
    · split
      · exact ((setLane_moves i _ s).trans (raise_moves ..)).trans (setLane_moves i _ _)
      · exact (setLane_moves i _ s).trans (setLane_moves i _ _)
    · split
      · exact (setLane_moves i _ s).trans (raise_moves ..)
      · exact setLane_moves i _ s
  · exact setLane_moves i _ s

theorem countIf_moves (b : Bool) (i : Fin 4) (k : ErrorKind) (s : State) :
    Moves s (s.countIf b i k) := by
  unfold State.countIf
  split
  · exact countError_moves i k s
  · exact .refl s

theorem loseLock_moves (i : Fin 4) (s : State) : Moves s (s.loseLock i) := by
  simp only [State.loseLock]
  split
  · exact (setLane_moves i _ s).trans (raise_moves ..)
  · exact setLane_moves i _ s

theorem changeLock_moves (i : Fin 4) (before dest : Lock) (s : State) :
    Moves s (s.changeLock i before dest) := by
  simp only [State.changeLock]
  split
  · split
    · exact (setLane_moves i _ s).trans (loseLock_moves i _)
    · exact setLane_moves i _ s
  · exact .refl s

theorem groupArrives_moves (i : Fin 4) (g : CodeGroup) (s : State) :
    Moves s (groupArrives i g s) := by
  simp only [groupArrives]
  split
  · exact .refl s
  · have hcounted := (((setLane_moves i ((s.lanes.get i).receive g) s).trans
      (countIf_moves ((s.lanes.get i).errs .sign g) i .sign _)).trans
      (countIf_moves ((s.lanes.get i).errs .code g) i .code _)).trans
      (countIf_moves ((s.lanes.get i).errs .mark g) i .mark _)
    split
    · exact hcounted
    · exact hcounted.trans (changeLock_moves i _ _ _)

theorem raiseLine_moves (i : Fin 4) (kind : FaultKind) (value : Int) (s : State) :
    Moves s (s.raiseLine i kind value) := by
  unfold State.raiseLine
  split
  · exact raise_moves ..
  · exact .refl s

theorem waitEnded_moves (s : State) : Moves s s.waitEnded := by
  unfold State.waitEnded
  split
  · exact powerOnComplete_moves s
  · exact .refl s

theorem superviseRise_moves (i : Fin 4) (s : State) : Moves s (s.superviseRise i) := by
  simp only [State.superviseRise]
  split
  case h_3 | h_4 | h_6 | h_10 | h_12 => exact setLine_moves i _ s
  case h_8 => exact (setLine_moves i _ s).trans (waitEnded_moves _)
  all_goals exact .refl s

theorem superviseFall_moves (i : Fin 4) (s : State) : Moves s (s.superviseFall i) := by
  simp only [State.superviseFall]
  split
  case h_6 => exact (setLine_moves i _ s).trans (raiseLine_moves ..)
  case h_9 =>
    split
    · exact (setLine_moves i _ s).trans (raiseLine_moves ..)
    · exact .refl s
  all_goals exact .refl s

theorem lineEdge_moves (i : Fin 4) (rising : Bool) (s : State) :
    Moves s (lineEdge i rising s) := by
  simp only [lineEdge]
  split
  · exact .refl s
  · split
    · exact (setLine_moves i _ s).trans (superviseRise_moves i _)
    · exact (setLine_moves i _ s).trans (superviseFall_moves i _)

theorem heartbeatExpires_moves (i : Fin 4) (s : State) : Moves s (heartbeatExpires i s) := by
  simp only [heartbeatExpires]
  split
  · exact (setLine_moves i _ s).trans (raiseLine_moves ..)
  · exact .refl s

theorem rateWindowExpires_moves (i : Fin 4) (s : State) : Moves s (rateWindowExpires i s) := by
  simp only [rateWindowExpires]
  split
  case h_1 =>
    split
    · split
      · exact (setLine_moves i _ s).trans (raiseLine_moves ..)
      · exact setLine_moves i _ s
    · exact .refl s
  all_goals exact .refl s

theorem powerGoodExpires_moves (s : State) : Moves s (powerGoodExpires s) := by
  simp only [powerGoodExpires]
  split
  · exact .refl s
  · next i _ =>
    split
    · exact ((setLine_moves i _ s).trans (raiseLine_moves ..)).trans (waitEnded_moves _)
    · exact .refl s

/-! The supply's inputs, the intent's timers and the step timers. -/

theorem limitInputChanges_moves (asserted : Bool) (s : State) :
    Moves s (limitInputChanges asserted s) := .board s _ _ _ _ _ _ _

theorem limitExpires_moves (s : State) : Moves s (limitExpires s) := by
  unfold limitExpires
  split
  · exact (Moves.board s s.rcu { s.sou with limit := .expired } s.wck s.lanes s.lines
      s.fcu.groups s.fcu.mode).trans (raise_moves ..)
  · exact .refl s

theorem senseChanges_moves (present : Bool) (s : State) : Moves s (senseChanges present s) := by
  have hsense (u : Sou) : Moves s { s with sou := u } := .board s s.rcu u _ _ _ _ _
  simp only [senseChanges]
  split
  · split
    · exact (hsense _).trans (raise_moves ..)
    · split
      · exact hsense _
      · exact hsense _
  · exact hsense _

theorem settleExpires_moves (s : State) : Moves s (settleExpires s) := by
  unfold settleExpires
  split
  · refine Moves.trans ?_ (becomeSettled_moves _)
    exact { Moves.refl s with }
  · exact .refl s

theorem listeningEnds_moves (s : State) : Moves s (listeningEnds s) := by
  unfold listeningEnds
  split
  · exact promoteIntent_moves s
  · exact .refl s

theorem pressExpires_moves (s : State) : Moves s (pressExpires s) := by
  have hended (s : State) : Moves s s.pressEnded := by
    unfold State.pressEnded
    split
    · split
      · exact powerOnComplete_moves s
      · next i _ =>
        split
        · exact (startWait_moves i s).trans (powerOnComplete_moves _)
        · exact startWait_moves i s
    · exact .refl s
  unfold pressExpires
  split
  · exact (Moves.board s s.rcu { s.sou with pressed := false, pressTimer := .none } s.wck s.lanes
      s.lines s.fcu.groups s.fcu.mode).trans (hended _)
  · exact .refl s

theorem durationExpires_moves (s : State) : Moves s (durationExpires s) := by
  unfold durationExpires
  split
  · exact endStep_moves s
  · exact .refl s

theorem reachExpires_moves (s : State) : Moves s (reachExpires s) := by
  simp only [reachExpires]
  split
  · exact Moves.trans (.board s _ _ _ _ _ _ _) (raise_moves ..)
  · exact .refl s

theorem offExpires_moves (s : State) : Moves s (offExpires s) := by
  unfold offExpires
  split
  · exact Moves.trans (.board s _ _ _ _ _ _ _) (enterPowering_moves _)
  · exact .refl s

theorem onExpires_moves (s : State) : Moves s (onExpires s) := by
  unfold onExpires
  (repeat' split)
  · exact Moves.trans (.board s _ _ _ _ _ _ _) (endIteration_moves _)
  · exact .board s _ _ _ _ _ _ _
  · exact .refl s

theorem blankingExpires_moves (s : State) : Moves s (blankingExpires s) := by
  unfold blankingExpires
  split
  · exact clearBlanking_moves s
  · exact .refl s

theorem beaconTimerExpires_moves (s : State) : Moves s (beaconTimerExpires s) := by
  unfold beaconTimerExpires Bif.queueBeacon
  (repeat' split)
  all_goals exact { Moves.refl s with }

theorem startAttempt_moves (s : State) : Moves s (startAttempt s) := by
  unfold startAttempt
  (repeat' split)
  all_goals exact { Moves.refl s with }

theorem successTimerExpires_moves (s : State) : Moves s (successTimerExpires s) := by
  unfold successTimerExpires
  split
  · refine Moves.trans ?_ (enterIsolated_moves _ _)
    exact { Moves.refl s with }
  · exact .refl s

/-! The control requests and the start switch. -/

theorem startRun_moves (s : State) : Moves s s.startRun := by
  have hclear : Moves s s.clearHistory := by
    refine ⟨rfl, rfl, rfl, rfl, rfl, rfl, rfl, rfl, rfl, rfl, rfl, rfl, fun _ => ?_, id, id, id⟩
    exact ⟨Nat.zero_le 64, fun k r h => by simp [State.clearHistory, Fcu.reset] at h⟩
  have hentered := hclear.trans (enterStep_moves 0 _)
  simp only [State.startRun]
  split
  · exact hentered
  · exact hentered.trans (raise_moves ..)

theorem takeStart_moves (s : State) : Moves s s.takeStart.after := by
  rw [takeStart_after]
  split
  · exact startRun_moves s
  · exact .refl s

theorem takePause_moves (s : State) : Moves s s.takePause.after := by
  unfold State.takePause
  split
  case h_1 => exact .board s _ _ _ _ _ _ _
  all_goals exact .refl s

theorem takeResume_moves (s : State) : Moves s s.takeResume.after := by
  have hpower (s : State) : Moves s s.resumePowerOn := by
    unfold State.resumePowerOn
    split
    · exact Moves.trans (.board s _ _ _ _ _ _ _) (powerOnComplete_moves _)
    · exact .refl s
  have hreach (s : State) : Moves s s.resumeReach := by
    unfold State.resumeReach
    split
    · exact Moves.trans (.board s _ _ _ _ _ _ _) (reachMet_moves _)
    · exact .refl s
  unfold State.takeResume
  split
  case h_1 =>
    exact ((Moves.trans (.board s _ _ _ _ _ _ _) (commandLanding_moves _)).trans
      (hpower _)).trans (hreach _)
  all_goals exact .refl s

theorem takeAbort_moves (s : State) : Moves s s.takeAbort.after := by
  unfold State.takeAbort
  split
  · exact (finalClosing_moves .ending s).trans (runEnd_moves ..)
  · exact .refl s

theorem takeClear_moves (s : State) : Moves s s.takeClear.after := by
  unfold State.takeClear
  split
  case h_1 => exact .board s _ _ _ _ _ _ _
  all_goals exact .refl s

theorem releaseSwitch_moves (s : State) : Moves s (releaseSwitch s) := by
  have hopen : Moves s s.switchOpen := .board s _ _ _ _ _ _ _
  cases hu : s.rcu.switchClosed with
  | none =>
    simp only [releaseSwitch, hu]
    exact .refl s
  | some u =>
    rw [releaseSwitch_of_closed hu]
    (repeat' split)
    · exact hopen.trans (startRun_moves _)
    · exact hopen
    · exact hopen.trans (.board _ _ _ _ _ _ _ _)
    · exact hopen

theorem closeSwitch_moves (s : State) : Moves s (closeSwitch s) := by
  unfold closeSwitch
  split
  · exact .refl s
  · exact .board s _ _ _ _ _ _ _

end Sys2Proof.Machine
end

section
/-! SUPPORT. What every command leaves alone: the books that it keeps and the items that it does not move.
After them the statements on completion, on the books and on the items. -/

namespace Sys2Proof.Machine

/-- From one state to the other the queue stands, and the books of the station are kept. -/
structure Keeps (s t : State) : Prop where
  pending : t.pending = s.pending
  log : s.logOrdered → t.logOrdered
  notices : s.bus.notices.length ≤ 8 → t.bus.notices.length ≤ 8
  responses : s.bus.responses.length ≤ 4 → t.bus.responses.length ≤ 4
  view : s.viewOrdered → t.viewOrdered
  rackTime : s.rackTimeRight → t.rackTimeRight
  claims : s.claimsBounded → t.claimsBounded
  ids : s.idsRight → t.idsRight

/-- From one state to the other the items stand that only few commands move, and a slot conflict. -/
structure Still (s t : State) : Prop where
  uptime : t.tmu.uptime = s.tmu.uptime
  rack : t.tmu.rack = s.tmu.rack
  slot : t.slot = s.slot
  code : t.code = s.code
  config : t.cfl.config = s.cfl.config
  memory : t.cfl.memory = s.cfl.memory
  filtered : ∀ i, (t.asc.points.get i).y = (s.asc.points.get i).y
  conflict : s.bgu.slotConflict = true → t.bgu.slotConflict = true

/-- A change that keeps the books and moves none of the items. -/
structure Quiet (s t : State) : Prop extends Keeps s t, Still s t

theorem Keeps.refl (s : State) : Keeps s s := ⟨rfl, id, id, id, id, id, id, id⟩

theorem Keeps.trans {s t u : State} (h : Keeps s t) (g : Keeps t u) : Keeps s u :=
  ⟨g.pending.trans h.pending, g.log ∘ h.log, g.notices ∘ h.notices, g.responses ∘ h.responses,
    g.view ∘ h.view, g.rackTime ∘ h.rackTime, g.claims ∘ h.claims, g.ids ∘ h.ids⟩

theorem Still.refl (s : State) : Still s s := ⟨rfl, rfl, rfl, rfl, rfl, rfl, fun _ => rfl, id⟩

theorem Still.trans {s t u : State} (h : Still s t) (g : Still t u) : Still s u :=
  ⟨g.uptime.trans h.uptime, g.rack.trans h.rack, g.slot.trans h.slot, g.code.trans h.code,
    g.config.trans h.config, g.memory.trans h.memory, fun i => (g.filtered i).trans (h.filtered i),
    g.conflict ∘ h.conflict⟩

theorem Quiet.refl (s : State) : Quiet s s := ⟨.refl s, .refl s⟩

theorem Quiet.trans {s t u : State} (h : Quiet s t) (g : Quiet t u) : Quiet s u :=
  ⟨h.toKeeps.trans g.toKeeps, h.toStill.trans g.toStill⟩

/-- The operations of a run are quiet. -/
theorem Moves.quiet {s t : State} (h : Moves s t) : Quiet s t where
  pending := h.pending
  log := h.log
  notices := h.notices
  responses := fun hs => h.responses ▸ hs
  view := fun hs => by
    unfold State.viewOrdered at hs ⊢
    rwa [h.slot, h.peers, h.inReset]
  rackTime := fun hs => by
    unfold State.rackTimeRight at hs ⊢
    rwa [h.rack]
  claims := h.claims
  ids := fun hs => by
    unfold State.idsRight at hs ⊢
    rwa [h.cfl]
  uptime := h.uptime
  rack := h.rack
  slot := h.slot
  code := h.code
  config := congrArg Cfl.config h.cfl
  memory := congrArg Cfl.memory h.cfl
  filtered := fun i => by rw [h.asc]
  conflict := h.conflict

/-! ### The outbox's own frames (R161, R162, R165) -/

/-- A change of the outbox and of the free values alone is quiet where its classes stay bounded. -/
theorem Quiet.bus {s : State} {b : Bif} (n : Nat)
    (hn : s.bus.notices.length ≤ 8 → b.notices.length ≤ 8)
    (hr : s.bus.responses.length ≤ 4 → b.responses.length ≤ 4) :
    Quiet s { s with bus := b, free := n } :=
  ⟨⟨rfl, id, hn, hr, id, id, id, id⟩, ⟨rfl, rfl, rfl, rfl, rfl, rfl, fun _ => rfl, id⟩⟩

theorem loseArbitration_quiet (s : State) : Quiet s (loseArbitration s) := by
  unfold loseArbitration
  split
  · exact .refl s
  · exact .bus s.free id id

/-- An abort adds no frame to a class (R162). -/
theorem countAbort_bounded (c : FrameClass) (b : Bif) :
    (b.countAbort c).notices.length ≤ b.notices.length ∧
      (b.countAbort c).responses.length ≤ b.responses.length := by
  cases c
  · show b.abortBudget.notices.length ≤ _ ∧ b.abortBudget.responses.length ≤ _
    unfold Bif.abortBudget
    split <;> simp
  · show b.abortNotice.notices.length ≤ _ ∧ b.abortNotice.responses.length ≤ _
    unfold Bif.abortNotice
    (repeat' split) <;> simp [*]
  · show b.abortResponse.notices.length ≤ _ ∧ b.abortResponse.responses.length ≤ _
    unfold Bif.abortResponse
    (repeat' split) <;> simp [*]
  · show b.abortBeacon.notices.length ≤ _ ∧ b.abortBeacon.responses.length ≤ _
    unfold Bif.abortBeacon
    split <;> simp

theorem abortAttempt_quiet (s : State) : Quiet s (abortAttempt s) := by
  simp only [abortAttempt]
  split
  · exact .refl s
  · next a _ =>
    obtain ⟨hn, hr⟩ := countAbort_bounded a.cls { s.bus with attempt := none }
    (repeat' split)
    · exact .bus s.free id id
    · exact .bus s.free id id
    · exact .bus s.free (le_trans hn) (le_trans hr)

theorem removeHead_bounded (c : FrameClass) (b : Bif) :
    (b.removeHead c).notices.length ≤ b.notices.length ∧
      (b.removeHead c).responses.length ≤ b.responses.length := by
  cases c <;> simp [Bif.removeHead]

theorem tryLoad_quiet (s : State) : Quiet s s.tryLoad := by
  unfold State.tryLoad
  split
  · refine ⟨⟨rfl, id, id, id, id, id, id, fun _ _ => ⟨rfl, rfl⟩⟩,
      ⟨rfl, rfl, rfl, rfl, rfl, rfl, fun i => ?_, id⟩⟩
    simp [State.startLoad]
  · exact .refl s

theorem recover_quiet (s : State) : Quiet s s.recover := by
  simp only [State.recover]
  split
  · have hb : Quiet s { s with bus := { s.bus with isolated := false } } := .bus s.free id id
    split
    · exact (hb.trans (leaveIsolated_moves _).quiet).trans (tryLoad_quiet _)
    · exact hb.trans (tryLoad_quiet _)
  · exact .refl s

theorem openWindow_moves (stamp : RackTime) (s : State) : Moves s (s.openWindow stamp) := by
  unfold State.openWindow
  split
  · next w hi => exact .claim rfl fun h => ⟨h.1, h.2.1, by simpa [hi] using h.2.2.1⟩
  all_goals exact .refl s

theorem completeAttempt_quiet (s : State) : Quiet s (completeAttempt s) := by
  simp only [completeAttempt]
  split
  · exact .refl s
  · next a _ =>
    obtain ⟨hn, hr⟩ := removeHead_bounded a.cls { s.bus with attempt := none }
    have hfreed : Quiet s { s with bus :=
        { ({ s.bus with attempt := .none }.removeHead a.cls).admitNewer with
          lastSuccess := s.tmu.uptime, successTimer := some 2000 } } :=
      .bus s.free (le_trans hn) (le_trans hr)
    split
    · exact (hfreed.trans (openWindow_moves _ _).quiet).trans (recover_quiet _)
    · exact hfreed.trans (recover_quiet _)

/-! ### The peer view (R53 to R56) -/

/-- A change of the peer view alone is quiet where the view stays ordered. -/
theorem Quiet.peers {s : State} {l : List Peer} (hreset : s.inReset = true → s.bgu.peers = [] → l = [])
    (h : peersOrdered s.slot.toNat s.bgu.peers → peersOrdered s.slot.toNat l) :
    Quiet s { s with bgu := { s.bgu with peers := l } } :=
  ⟨⟨rfl, id, id, id, fun hv => ⟨h hv.1, fun hr => hreset hr (hv.2 hr)⟩, id, id, id⟩,
    ⟨rfl, rfl, rfl, rfl, rfl, rfl, fun _ => rfl, id⟩⟩

theorem peersOrdered_changePeer {own n : Nat} {act : Peer → Peer} (hact : ∀ p, (act p).slot = p.slot)
    {l : List Peer} (h : peersOrdered own l) : peersOrdered own (changePeer n act l) := by
  have hslot (p : Peer) : (if p.slot = n then act p else p).slot = p.slot := by
    split
    · exact hact p
    · rfl
  induction l with
  | nil => trivial
  | cons p ps ih =>
    obtain ⟨hlt, hne, hall, hps⟩ := h
    refine ⟨by rwa [hslot], by rwa [hslot], fun q hq => ?_, ih hps⟩
    obtain ⟨q', hq', rfl⟩ := List.mem_map.mp hq
    rw [hslot, hslot]
    exact hall q' hq'

theorem peersOrdered_filter {own : Nat} (f : Peer → Bool) {l : List Peer} (h : peersOrdered own l) :
    peersOrdered own (l.filter f) := by
  induction l with
  | nil => trivial
  | cons p ps ih =>
    obtain ⟨hlt, hne, hall, hps⟩ := h
    rw [List.filter_cons]
    split
    · exact ⟨hlt, hne, fun q hq => hall q (List.mem_filter.mp hq).1, ih hps⟩
    · exact ih hps

/-- An entry put into the view is one of its entries, and brings no other. -/
theorem mem_putPeer {p q : Peer} {l : List Peer} (h : q ∈ putPeer p l) : q = p ∨ q ∈ l := by
  induction l with
  | nil => simpa [putPeer] using h
  | cons r rs ih =>
    simp only [putPeer] at h
    split at h
    · simpa using h
    · split at h
      · rcases List.mem_cons.mp h with h | h
        · exact .inl h
        · exact .inr (List.mem_cons_of_mem _ h)
      · rcases List.mem_cons.mp h with h | h
        · exact .inr (h ▸ List.mem_cons_self)
        · exact (ih h).imp_right (List.mem_cons_of_mem _)

theorem peersOrdered_putPeer {own : Nat} {p : Peer} (hlt : p.slot < 32) (hne : p.slot ≠ own)
    {l : List Peer} (h : peersOrdered own l) : peersOrdered own (putPeer p l) := by
  induction l with
  | nil => exact ⟨hlt, hne, by simp, trivial⟩
  | cons q qs ih =>
    obtain ⟨hqlt, hqne, hall, hqs⟩ := h
    simp only [putPeer]
    split
    · next hpq =>
      refine ⟨hlt, hne, fun r hr => ?_, hqlt, hqne, hall, hqs⟩
      rcases List.mem_cons.mp hr with rfl | hr
      · exact hpq
      · exact hpq.trans (hall r hr)
    · split
      · next hpq => exact ⟨hlt, hne, fun r hr => hpq ▸ hall r hr, hqs⟩
      · next hnlt hneq =>
        refine ⟨hqlt, hqne, fun r hr => ?_, ih hqs⟩
        rcases mem_putPeer hr with rfl | hr
        · omega
        · exact hall r hr

theorem peerStale_quiet (slot : BitVec 5) (s : State) : Quiet s (peerStale slot s) := by
  refine .peers (fun _ h => by rw [h]; rfl) (peersOrdered_changePeer fun p => ?_)
  unfold Peer.age
  split <;> rfl

theorem peerIntentExpires_quiet (slot : BitVec 5) (s : State) :
    Quiet s (peerIntentExpires slot s) := by
  refine .peers (fun _ h => by rw [h]; rfl) (peersOrdered_changePeer fun p => ?_)
  unfold Peer.closeOldIntent
  (repeat' split) <;> rfl

theorem peerRemoved_quiet (slot : BitVec 5) (s : State) : Quiet s (peerRemoved slot s) := by
  unfold peerRemoved
  split
  · exact (Quiet.peers (fun _ h => by rw [h]; rfl) (peersOrdered_filter _)).trans
      (retryCause_moves _).quiet
  · exact .refl s

/-- The source of a frame of a peer is a slot that is not the own one (R53). -/
theorem fromPeer_spec {f : RxFrame} {s : State} (h : s.fromPeer f = true) :
    f.source.toNat < 32 ∧ f.source.toNat ≠ s.slot.toNat := by
  simp only [State.fromPeer, Bool.and_eq_true, decide_eq_true_eq] at h
  obtain ⟨hlt, hne⟩ := h
  refine ⟨hlt, fun he => hne (BitVec.eq_of_toNat_eq ?_)⟩
  rw [he, BitVec.toNat_setWidth, Nat.mod_eq_of_lt (by omega)]

theorem hearPeer_quiet {f : RxFrame} {act : Peer → Peer} (hact : ∀ p, (act p).slot = p.slot)
    {s : State} (hs : s.inReset = false) : Quiet s (s.hearPeer f act) := by
  unfold State.hearPeer
  split
  · next hf =>
    obtain ⟨hlt, hne⟩ := fromPeer_spec hf
    have hslot : (act (s.peerEntry f.source.toNat)).slot = f.source.toNat := by
      rw [hact, peerEntry_slot]
    have hput (p : Peer) (hp : p.slot = f.source.toNat) :
        Quiet s { s with bgu := { s.bgu with peers := putPeer p s.bgu.peers } } :=
      .peers (fun h => by simp [hs] at h) (peersOrdered_putPeer (hp ▸ hlt) (hp ▸ hne))
    have hput := hput { act (s.peerEntry f.source.toNat) with
      lastHeard := s.tmu.uptime, fresh := true } hslot
    dsimp only
    split
    · exact hput.trans (retryCause_moves _).quiet
    · exact hput
  · exact .refl s

/-- The nanoseconds of an advanced rack time stay below a second (R151, R153). -/
theorem addNanos_ns_lt (t : RackTime) (n : Nat) : (addNanos t n).ns < 1000000000 :=
  Nat.mod_lt _ (by decide)

theorem follow_rack_ns_lt (ts tr : RackTime) {u : Tmu} (h : u.rack.ns < 1000000000) :
    (u.follow ts tr).rack.ns < 1000000000 := by
  unfold Tmu.follow
  split
  · exact addNanos_ns_lt _ _
  · exact h

theorem timeSample_keeps (ts tr : RackTime) (s : State) : Keeps s (s.timeSample ts tr) :=
  Keeps.trans (t := { s with tmu := s.tmu.follow ts tr })
    ⟨rfl, id, id, id, id, fun h => follow_rack_ns_lt ts tr h, id, id⟩
    (becomeSettled_moves _).quiet.toKeeps

theorem timeSample_still (ts tr : RackTime) (s : State) : ∃ u, u.uptime = s.tmu.uptime ∧
    Still { s with tmu := u } (s.timeSample ts tr) := by
  refine ⟨s.tmu.follow ts tr, ?_, (becomeSettled_moves _).quiet.toStill⟩
  unfold Tmu.follow
  split <;> rfl

/-- A BEACON moves no item but rack time (R156). -/
theorem takeBeacon_keeps (f : RxFrame) {s : State} (hs : s.inReset = false) :
    Keeps s (s.takeBeacon f) ∧ ∃ u, u.uptime = s.tmu.uptime ∧
      Still { s with tmu := u } (s.takeBeacon f) := by
  unfold State.takeBeacon
  split
  · have hheard := hearPeer_quiet (f := f) (act := Peer.takeBeacon f.payload) (fun _ => rfl) hs
    generalize s.hearPeer f _ = x at hheard
    obtain ⟨u, hu, hstill⟩ := timeSample_still
      ⟨BitVec.ofNat 32 (longAt f.payload 0), longAt f.payload 4⟩ (s.receiveStamp f) x
    exact ⟨hheard.toKeeps.trans (timeSample_keeps ..), u, hu.trans hheard.uptime,
      Still.trans (t := { x with tmu := u }) ⟨rfl, rfl, hheard.slot, hheard.code, hheard.config,
        hheard.memory, hheard.filtered, hheard.conflict⟩ hstill⟩
  · exact ⟨.refl s, s.tmu, rfl, .refl s⟩

theorem takeIntent_quiet (f : RxFrame) {s : State} (hs : s.inReset = false) :
    Quiet s (s.takeIntent f) := by
  unfold State.takeIntent
  split
  · exact hearPeer_quiet (by intro; rfl) hs
  · exact .refl s

theorem takeCommit_quiet (f : RxFrame) {s : State} (hs : s.inReset = false) :
    Quiet s (s.takeCommit f) := by
  unfold State.takeCommit
  split
  · exact hearPeer_quiet (by intro; rfl) hs
  · exact .refl s

/-! ### Requests (R167) -/

theorem respond_quiet {s : State} (hroom : s.responseFull = false) (k : Byte) (f : RxFrame)
    (code : ResponseCode) (data : List Byte) : Quiet s (s.respond k f code data) := by
  have hlen : s.bus.responses.length < 4 := by simpa [State.responseFull] using hroom
  unfold State.respond
  split
  · exact .bus (s.free + 1) id fun _ => by simpa [Bif.queueResponse] using hlen
  · exact .bus s.free id fun _ => by simpa [Bif.queueResponse] using hlen

theorem dropRequest_quiet (s : State) : Quiet s s.dropRequest := .bus s.free id id

/-- A control request that acts leaves the answers to R167. -/
theorem control_quiet {k : Byte} {act : State → Answer} (h : Controls k act) (s : State) :
    Quiet s (act s).after ∧ (act s).after.bus.responses = s.bus.responses := by
  cases h
  case start => exact ⟨(takeStart_moves s).quiet, (takeStart_moves s).responses⟩
  case pause => exact ⟨(takePause_moves s).quiet, (takePause_moves s).responses⟩
  case resume => exact ⟨(takeResume_moves s).quiet, (takeResume_moves s).responses⟩
  case abort => exact ⟨(takeAbort_moves s).quiet, (takeAbort_moves s).responses⟩
  case clear => exact ⟨(takeClear_moves s).quiet, (takeClear_moves s).responses⟩
  case snapshot =>
    obtain ⟨store, n, -, e⟩ := takeSnapshot_spec s
    rw [e]
    exact ⟨.bus n id id, rfl⟩

theorem controlRequest_quiet {k : Byte} {act : State → Answer} (h : Controls k act) (f : RxFrame)
    (s : State) : Quiet s (s.controlRequest k f act) := by
  obtain ⟨hact, hresponses⟩ := control_quiet h s
  unfold State.controlRequest
  split
  · split
    · exact dropRequest_quiet s
    · next hfull =>
      have hroom : s.responseFull = false := by simpa using hfull
      (repeat' split)
      · exact respond_quiet hroom ..
      · exact respond_quiet hroom ..
      · refine hact.trans (respond_quiet ?_ ..)
        rwa [State.responseFull, hresponses]
  · split
    · exact hact
    · exact .refl s

theorem readRequest_quiet {act : Nat → State → Answer} (h : IsRead act) (k : Byte) (f : RxFrame)
    (s : State) : Quiet s (s.readRequest k f act) := by
  unfold State.readRequest
  split
  · split
    · exact dropRequest_quiet s
    · next hfull =>
      have hroom : s.responseFull = false := by simpa using hfull
      split
      · exact respond_quiet hroom ..
      · dsimp only
        rw [(h _ s).1]
        exact respond_quiet hroom ..
  · exact .refl s

theorem takeOther_quiet (k : Byte) (f : RxFrame) (s : State) : Quiet s (s.takeOther k f) := by
  unfold State.takeOther State.unknownRequest
  split
  · exact .refl s
  · split
    · split
      · exact dropRequest_quiet s
      · next hfull => exact respond_quiet (by simpa using hfull) ..
    · exact .refl s

theorem noteSource_moves (f : RxFrame) (s : State) : Moves s (s.noteSource f) := by
  unfold State.noteSource
  split
  · exact .claim rfl (fun h => ⟨h.1, h.2.1, h.2.2.1⟩) fun _ => rfl
  · exact .refl s

/-- A frame that is heard changes what its delivery changes (R160). -/
theorem hear_of {P : State → Prop} {k : Byte} {f : RxFrame} {deliver : State → State} {s : State}
    (hs : P s) (hdeliver : P (deliver (s.noteSource f))) : P (s.hear k f deliver) := by
  unfold State.hear
  split
  · exact hdeliver
  · exact hs

/-- A reception that is no BEACON is quiet, and a BEACON moves rack time at most (R156). -/
theorem anyFrame_quiet (k : Byte) (f : RxFrame) {s : State} (hs : s.inReset = false) :
    Quiet s (anyFrame k f s) ∨ (k = kindBeacon ∧ Keeps s (anyFrame k f s) ∧
      ∃ u, u.uptime = s.tmu.uptime ∧ Still { s with tmu := u } (anyFrame k f s)) := by
  obtain ⟨deliver, hd, e⟩ := anyFrame_delivers k f
  have hnote := (noteSource_moves f s).quiet
  have hlive : (s.noteSource f).inReset = false := (noteSource_moves f s).inReset.trans hs
  rw [e]
  have hquiet (h : Quiet (s.noteSource f) (deliver (s.noteSource f))) :
      Quiet s (s.hear k f deliver) := hear_of (P := Quiet s) (.refl s) (hnote.trans h)
  cases hd
  case beacon =>
    obtain ⟨hkeeps, u, hu, hstill⟩ := takeBeacon_keeps f hlive
    refine .inr ⟨rfl, hear_of (P := fun t => Keeps s t ∧ ∃ u, u.uptime = s.tmu.uptime ∧
      Still { s with tmu := u } t) ⟨.refl s, s.tmu, rfl, .refl s⟩
      ⟨hnote.toKeeps.trans hkeeps, u, hu.trans hnote.uptime, Still.trans ?_ hstill⟩⟩
    exact ⟨rfl, rfl, hnote.slot, hnote.code, hnote.config, hnote.memory, hnote.filtered, hnote.conflict⟩
  case intent => exact .inl (hquiet (takeIntent_quiet f hlive))
  case commit => exact .inl (hquiet (takeCommit_quiet f hlive))
  case control h => exact .inl (hquiet (controlRequest_quiet h f _))
  case read h => exact .inl (hquiet (readRequest_quiet h k f _))
  case other => exact .inl (hquiet (takeOther_quiet k f _))

/-! ### The scanner (Chapters 4 and 5) -/

/-- A change of the scanner and of the free values is quiet where the filtered values stand. -/
theorem Quiet.scanner {s : State} (a : Asc) (n : Nat)
    (h : ∀ i, (a.points.get i).y = (s.asc.points.get i).y) :
    Quiet s { s with asc := a, free := n } :=
  ⟨⟨rfl, id, id, id, id, id, id, id⟩, ⟨rfl, rfl, rfl, rfl, rfl, rfl, h, id⟩⟩

theorem judgeOverdraw_moves (seen : Asc) (s : State) : Moves s (s.judgeOverdraw seen) := by
  have hcount (o e : Nat) : Moves s { s with bgu := { s.bgu with
      overdrawSamples := o, overdrawEpisodes := e } } :=
    .claim rfl fun h => ⟨h.1, h.2.1, h.2.2.1⟩
  unfold State.judgeOverdraw
  (repeat' split)
  · exact hcount 0 s.bgu.overdrawEpisodes
  · exact (hcount _ _).trans (raiseSeeing_moves ..)
  · exact hcount _ s.bgu.overdrawEpisodes
  · exact hcount 0 s.bgu.overdrawEpisodes

theorem completeScan_quiet (seen : Asc) (next : Uptime) (s : State) :
    Quiet s (s.completeScan seen next) :=
  (Quiet.scanner { s.asc with
      scanner := .between next
      power := boardPower (s.asc.points.get 0).y (s.asc.points.get 1).y } s.free
    fun _ => rfl).trans (judgeOverdraw_moves _ _).quiet

theorem beginScan_quiet (next : Uptime) (s : State) : Quiet s (s.beginScan next) := by
  unfold State.beginScan
  split
  · exact .scanner _ s.free fun _ => rfl
  · exact completeScan_quiet _ _ s

theorem startScan_quiet (s : State) : Quiet s (startScan s) := by
  unfold startScan
  (repeat' split)
  · exact beginScan_quiet _ s
  · exact .refl s
  · exact .refl s
  · exact .refl s

theorem windowSample_moves (seen : Asc) (i : Fin 8) (y : Int) (s : State) :
    Moves s (s.windowSample seen i y) := by
  have hjudged (w : Wck) : Moves s { s with wck := w } :=
    .board s s.rcu s.sou w s.lanes s.lines s.fcu.groups s.fcu.mode
  simp only [State.windowSample]
  split
  · split
    · exact (hjudged _).trans (raiseSeeing_moves ..)
    · exact hjudged _
  · exact .refl s

theorem reachSample_moves (i : Fin 8) (y : Int) (s : State) : Moves s (s.reachSample i y) := by
  unfold State.reachSample
  (repeat' split)
  · exact .refl s
  · exact Moves.trans (.board s _ _ _ _ _ _ _) (reachMet_moves _)
  · exact .refl s

theorem takeSample_quiet (seen : Asc) (i : Fin 8) (y : Int) (s : State) :
    Quiet s (s.takeSample seen i y) := by
  have hfree : Quiet s { s with free := s.free + 1 } := .bus (s.free + 1) id id
  simp only [State.takeSample]
  (repeat' split)
  · exact (hfree.trans (reachSample_moves i y _).quiet).trans (windowSample_moves seen i y _).quiet
  · exact (hfree.trans (windowSample_moves seen i y _).quiet).trans (reachSample_moves i y _).quiet
  · exact (windowSample_moves seen i y s).quiet

/-- After the converted point's value is set, a conversion is quiet (R75, R83). -/
theorem completeConversion_quiet (uv : Int) (s : State) : ∃ a n,
    Quiet { s with asc := a, free := n } (completeConversion uv s) := by
  simp only [completeConversion]
  split
  · generalize hx : State.takeSample _ _ _ _ = x
    refine ⟨_, _, Quiet.trans (hx ▸ takeSample_quiet ..) ?_⟩
    split
    · exact .scanner _ _ fun _ => rfl
    · exact completeScan_quiet _ _ _
  · exact ⟨s.asc, s.free, .refl s⟩
  · exact ⟨s.asc, s.free, .refl s⟩

/-! ### The fixture and its load (Chapter 11) -/

/-- A load that fails is of no more concern to the promise on the ids (R176, R178). -/
theorem failLoad_quiet (r : Reason) (b : List Byte) (s : State) :
    Quiet s ((s.takeIds b).failLoad r) := by
  obtain ⟨m, n, e⟩ := takeIds_spec b s
  rw [e]
  exact ⟨⟨rfl, id, id, id, id, id, id, fun _ h => by simp [State.failLoad] at h⟩,
    ⟨rfl, rfl, rfl, rfl, rfl, rfl, fun _ => rfl, id⟩⟩

theorem loadTimerExpires_quiet (answered : Nat) (s : State) :
    Quiet s (loadTimerExpires answered s) := by
  unfold loadTimerExpires
  split
  · exact failLoad_quiet _ _ s
  · exact .refl s

theorem memorySilent_quiet (answered : Nat) (s : State) : Quiet s (memorySilent answered s) := by
  unfold memorySilent
  split
  · exact failLoad_quiet _ _ s
  · exact .refl s

/-- The claims of a block's steps are within 400 W (R3). -/
theorem configOf_claimW_le (b : List Byte) (t : StepRec) (ht : t ∈ (configOf b).steps) :
    t.claimW ≤ 400 := by
  obtain ⟨i, -, rfl⟩ := List.mem_map.mp ht
  show max 0 (min _ 400) ≤ 400
  omega

/-- The state in which a load that ends VALID starts the first scan: the corrected values are in force,
the lines' roles stand in their first states, and every filter starts anew (R178). -/
def State.loaded (c : LoadedConfig) (s : State) : State :=
  { s with
    cfl := { s.cfl with
      status := .valid, reason := .none, loadTimer := .none, config := some c, read := 0 }
    lines := s.lines.mapIdx fun i (l : Line) => l.load (c.lines.get i)
    asc := { s.asc with
      points := s.asc.points.mapIdx fun i (v : PointValue) => v.load (c.points.get i) } }

theorem completeLoad_eq (c : LoadedConfig) (s : State) : s.completeLoad c =
    (s.loaded c).beginScan (s.tmu.uptime + BitVec.ofNat 48 (scanPeriod c)) := rfl

theorem loaded_keeps (b : List Byte) (s : State) : Keeps s (s.loaded (configOf b)) := by
  refine ⟨rfl, id, id, id, id, id, fun h => ⟨h.1, h.2.1, h.2.2.1, ?_⟩,
    fun _ h => by simp [State.loaded] at h⟩
  rintro c ⟨⟩ t ht
  exact configOf_claimW_le b t ht

/-- After the loaded values are handed on, a load that ends VALID is quiet (R178). -/
theorem completeLoad_keeps (b ids : List Byte) (s : State) :
    Keeps s ((s.takeIds ids).completeLoad (configOf b)) ∧ ∃ c a,
      Still { s with cfl := { s.cfl with config := some c }, asc := a }
        ((s.takeIds ids).completeLoad (configOf b)) := by
  obtain ⟨m, n, e⟩ := takeIds_spec ids s
  rw [e, completeLoad_eq]
  have hscan := beginScan_quiet (s.tmu.uptime + BitVec.ofNat 48 (scanPeriod (configOf b)))
    (State.loaded (configOf b) { s with cfl := { s.cfl with modelCode := m, serial := n } })
  refine ⟨Keeps.trans ?_ hscan.toKeeps, configOf b, (s.loaded (configOf b)).asc,
    Still.trans ?_ hscan.toStill⟩
  · have h := loaded_keeps b { s with cfl := { s.cfl with modelCode := m, serial := n } }
    exact ⟨h.pending, h.log, h.notices, h.responses, h.view, h.rackTime, h.claims,
      fun _ hs => by simp [State.loaded] at hs⟩
  · exact ⟨rfl, rfl, rfl, rfl, rfl, rfl, fun _ => rfl, id⟩

theorem loadCompletes_keeps (answered : Nat) (s : State) :
    Keeps s (loadCompletes answered s) ∧ ∃ c a,
      Still { s with cfl := { s.cfl with config := c }, asc := a } (loadCompletes answered s) := by
  simp only [loadCompletes]
  split
  · split
    · next r _ =>
      have h := failLoad_quiet r (s.cfl.bytesRead answered) s
      exact ⟨h.toKeeps, s.cfl.config, s.asc, h.toStill⟩
    · obtain ⟨h, c, a, hstill⟩ := completeLoad_keeps (s.cfl.bytesRead answered)
        (s.cfl.bytesRead answered) s
      exact ⟨h, some c, a, hstill⟩
  · exact ⟨.refl s, s.cfl.config, s.asc, .refl s⟩

/-- After the memory has come or gone with its fixture, a change of the fixture-present line is quiet
(R177, R182). -/
theorem fixtureChanges_keeps (fixture : Option (List Byte)) (s : State) :
    Keeps s (fixtureChanges fixture s) ∧ ∃ m,
      Still { s with cfl := { s.cfl with memory := m } } (fixtureChanges fixture s) := by
  have hline (st : FixtureState) (m : List Byte) :
      Keeps s { s with cfl := { s.cfl with fixture := st, memory := m } } ∧ ∃ m',
        Still { s with cfl := { s.cfl with memory := m' } }
          { s with cfl := { s.cfl with fixture := st, memory := m } } :=
    ⟨⟨rfl, id, id, id, id, id, id, id⟩, m, ⟨rfl, rfl, rfl, rfl, rfl, rfl, fun _ => rfl, id⟩⟩
  unfold fixtureChanges
  split
  case h_1 => exact hline (.debouncing 0) _
  case h_2 => exact hline .absent []
  case h_3 =>
    have hraised : Quiet s
        (if s.rcu.run.active then s.raise .fixtureRemoved [] s.sou.level0 else s) := by
      split
      · exact (raise_moves ..).quiet
      · exact .refl s
    exact ⟨hraised.toKeeps.trans ⟨rfl, id, id, id, id, id, id, fun _ _ => ⟨rfl, rfl⟩⟩, [],
      ⟨hraised.uptime, hraised.rack, hraised.slot, hraised.code, hraised.config, rfl,
        hraised.filtered, hraised.conflict⟩⟩
  all_goals exact ⟨.refl s, s.cfl.memory, .refl s⟩

/-- While a reset holds the station a fixture brings its memory and takes it along (R176). -/
theorem heldReading_keeps (x : Option (List Byte)) (s : State) :
    Keeps s { s with cfl := s.cfl.heldReading x } ∧ ∃ m,
      Still { s with cfl := { s.cfl with memory := m } } { s with cfl := s.cfl.heldReading x } := by
  cases x <;> exact ⟨⟨rfl, id, id, id, id, id, id, id⟩, _,
    ⟨rfl, rfl, rfl, rfl, rfl, rfl, fun _ => rfl, id⟩⟩

theorem debounceExpires_quiet (s : State) : Quiet s (debounceExpires s) := by
  unfold debounceExpires
  split
  · exact Quiet.trans (t := { s with cfl := { s.cfl with fixture := .present } })
      ⟨⟨rfl, id, id, id, id, id, id, id⟩, ⟨rfl, rfl, rfl, rfl, rfl, rfl, fun _ => rfl, id⟩⟩
      (tryLoad_quiet _)
  · exact .refl s

/-! ### The clocks and the resets (Chapter 9, R175) -/

/-- What a millisecond boundary of a load takes up leaves the ids at 0 before its tenth byte
(R178). -/
theorem readIds_quiet (s : State) : Quiet s s.readIds := by
  obtain ⟨f, k, m, n, e, hk, hids, hout⟩ := readIds_spec s
  by_cases hl : s.cfl.status = .loading
  · rw [e]
    refine ⟨⟨rfl, id, id, id, id, id, id, fun h hs => ?_⟩,
      ⟨rfl, rfl, rfl, rfl, rfl, rfl, fun _ => rfl, id⟩⟩
    have hlt : k < 10 := by simpa [hl] using hs
    obtain ⟨hm, hn⟩ := hids hlt
    obtain ⟨hm0, hn0⟩ := h (.inr ⟨hl, by omega⟩)
    exact ⟨hm.trans hm0, hn.trans hn0⟩
  · rw [hout hl]
    exact .refl s

theorem tickTimers_keeps (s : State) : Keeps s s.tickTimers :=
  ⟨rfl, id, id, id, id, id, id, id⟩

/-- After the timers have moved, a millisecond boundary is quiet (R152). -/
theorem outputTicks_quiet (s : State) : Quiet s.tickTimers (outputTicks s) := by
  simp only [outputTicks]
  split
  · exact (readIds_quiet _).trans (takeArrival_moves _).quiet
  · exact readIds_quiet _

/-- The station with rack time at a moment; a name for the moment keeps the kernel from computing it. -/
def State.atRack (r : RackTime) (s : State) : State := { s with tmu := { s.tmu with rack := r } }

theorem rackAdvances_eq (s : State) : rackAdvances s = s.atRack (addNanos s.tmu.rack 20) := by
  unfold rackAdvances
  generalize addNanos s.tmu.rack 20 = r
  rfl

theorem rackAdvances_keeps (s : State) : Keeps s (rackAdvances s) := by
  have hkeeps (r : RackTime) (hr : r.ns < 1000000000) : Keeps s (s.atRack r) :=
    ⟨rfl, id, id, id, id, fun _ => hr, id, id⟩
  rw [rackAdvances_eq]
  exact hkeeps _ (addNanos_ns_lt _ _)

theorem holdInReset_rackTimeRight (s : State) : (holdInReset s).rackTimeRight := by
  simp [State.rackTimeRight, holdInReset, State.reset, Tmu.reset, RackTime.zero]

theorem holdInReset_claimsBounded (s : State) : (holdInReset s).claimsBounded := by
  refine ⟨Nat.zero_le 400, ?_, ?_, ?_⟩ <;> simp [holdInReset, State.reset, Bgu.reset, Cfl.reset]

theorem holdInReset_logOrdered (s : State) : (holdInReset s).logOrdered :=
  ⟨Nat.zero_le 64, fun k r h => by simp [holdInReset, State.reset, Fcu.reset] at h⟩

theorem holdInReset_keeps (s : State) : Keeps s (holdInReset s) where
  pending := rfl
  log _ := holdInReset_logOrdered s
  notices _ := Nat.zero_le 8
  responses _ := Nat.zero_le 4
  view _ := ⟨trivial, fun _ => rfl⟩
  rackTime _ := holdInReset_rackTimeRight s
  claims _ := holdInReset_claimsBounded s
  ids _ _ := ⟨rfl, rfl⟩

/-- The station as its reset ends, before a load starts (R183). -/
def State.woken (slot : BitVec 5) (code : BitVec 4) (s : State) : State :=
  { s with inReset := false, slot := slot, code := code
           bus := { s.bus.queueBeacon with beaconTimer := 250 } }

theorem endReset_eq (slot : BitVec 5) (code : BitVec 4) (s : State) :
    endReset slot code s = (s.woken slot code).tryLoad := rfl

/-- After the straps are read the end of a reset is quiet (R183). -/
theorem endReset_still (slot : BitVec 5) (code : BitVec 4) (s : State) :
    Still { s with slot := slot, code := code } (endReset slot code s) :=
  Still.trans (t := s.woken slot code) ⟨rfl, rfl, rfl, rfl, rfl, rfl, fun _ => rfl, id⟩
    (tryLoad_quiet _).toStill

theorem queueBeacon_classes (b : Bif) :
    b.queueBeacon.notices = b.notices ∧ b.queueBeacon.responses = b.responses := by
  unfold Bif.queueBeacon
  split <;> exact ⟨rfl, rfl⟩

/-- The view of a station that a reset holds is empty, and so in order for the slot that is read. -/
theorem endReset_keeps (slot : BitVec 5) (code : BitVec 4) {s : State} (hs : s.inReset = true) :
    Keeps s (endReset slot code s) := by
  obtain ⟨hn, hr⟩ := queueBeacon_classes s.bus
  refine Keeps.trans (t := s.woken slot code) ⟨rfl, id, fun h => ?_, fun h => ?_,
    fun h => ⟨?_, fun h => ?_⟩, id, id, id⟩ (tryLoad_quiet _).toKeeps
  · exact (congrArg List.length hn).le.trans h
  · exact (congrArg List.length hr).le.trans h
  · show peersOrdered slot.toNat s.bgu.peers
    rw [h.2 hs]
    trivial
  · cases h

/-! ### Every command -/

/-- A command other than the few that move an item is quiet. -/
theorem exec_quiet {c : Instr} {s t : State} (h : exec c s = .next t) :
    Quiet s t ∨ c = .powerOnReset ∨ c = .rackReset ∨ (∃ slot code, c = .resetEnd slot code) ∨
      (∃ f, frameOf c = some (kindBeacon, f)) ∨ c = .outputTick ∨ c = .rackTimeAdvance ∨
      (∃ answered, c = .loadCompletion answered) ∨ (∃ x, c = .fixturePresentChange x) ∨
      ∃ uv, c = .conversionCompletion uv := by
  cases hf : frameOf c with
  | some kf =>
    obtain ⟨k, f⟩ := kf
    by_cases hk : k = kindBeacon
    · exact .inr (.inr (.inr (.inr (.inl ⟨f, by rw [hk]⟩))))
    · have hlive := (exec_of_frameOf hf).symm.trans h
      refine .inl (live_of hlive (.refl s) fun hs => ?_)
      exact (anyFrame_quiet k f hs).resolve_right fun h => hk h.1
  | none =>
    have hquiet {f : State → State} (h : s.live f = .next t) (hf : Quiet s (f s)) : Quiet s t :=
      live_of h (.refl s) fun _ => hf
    have hrun {f : State → State} (h : s.live f = .next t) (hf : Moves s (f s)) : Quiet s t :=
      hquiet h hf.quiet
    cases c with
    | powerOnReset | rackReset | resetEnd _ _ | outputTick | rackTimeAdvance | loadCompletion _
    | fixturePresentChange _ | conversionCompletion _ => simp
    | attemptStart => exact .inl (hrun h (startAttempt_moves s))
    | arbitrationLoss => exact .inl (hquiet h (loseArbitration_quiet s))
    | busError => exact .inl (hquiet h (abortAttempt_quiet s))
    | transmitComplete => exact .inl (hquiet h (completeAttempt_quiet s))
    | beaconTimerExpiry => exact .inl (hrun h (beaconTimerExpires_moves s))
    | transmitSuccessTimerExpiry => exact .inl (hrun h (successTimerExpires_moves s))
    | pressTimerExpiry => exact .inl (hrun h (pressExpires_moves s))
    | powerGoodWaitExpiry => exact .inl (hrun h (powerGoodExpires_moves s))
    | durationTimerExpiry => exact .inl (hrun h (durationExpires_moves s))
    | reachTimerExpiry => exact .inl (hrun h (reachExpires_moves s))
    | offTimerExpiry => exact .inl (hrun h (offExpires_moves s))
    | onTimerExpiry => exact .inl (hrun h (onExpires_moves s))
    | blankingTimerExpiry => exact .inl (hrun h (blankingExpires_moves s))
    | outputLimitInputChange asserted =>
      cases h
      exact .inl (limitInputChanges_moves asserted s).quiet
    | outputLimitTimerExpiry => exact .inl (hrun h (limitExpires_moves s))
    | supplySenseChange present =>
      refine .inl (ite_next_of h (fun _ => ?_) fun _ => (senseChanges_moves present s).quiet)
      exact (Moves.board s s.rcu _ s.wck s.lanes s.lines s.fcu.groups s.fcu.mode).quiet
    | startSwitchClose =>
      refine .inl (ite_next_of h (fun _ => ?_) fun _ => (closeSwitch_moves s).quiet)
      exact (Moves.board s _ s.sou s.wck s.lanes s.lines s.fcu.groups s.fcu.mode).quiet
    | startSwitchRelease =>
      refine .inl (ite_next_of h (fun _ => ?_) fun _ => (releaseSwitch_moves s).quiet)
      exact (Moves.board s _ s.sou s.wck s.lanes s.lines s.fcu.groups s.fcu.mode).quiet
    | scanStart => exact .inl (hquiet h (startScan_quiet s))
    | codeGroupArrival i p => exact .inl (hrun h (groupArrives_moves i (groupOf p) s))
    | watchLineEdge i rising =>
      exact .inl (ite_next_of h (fun _ => (setLine_moves i _ s).quiet)
        fun _ => (lineEdge_moves i rising s).quiet)
    | heartbeatIntervalExpiry i => exact .inl (hrun h (heartbeatExpires_moves i s))
    | rateWindowExpiry i => exact .inl (hrun h (rateWindowExpires_moves i s))
    | claimWindowExpiry => exact .inl (hrun h (windowExpires_moves s))
    | retryIntervalExpiry => exact .inl (hrun h (retryExpires_moves s))
    | waitingLimitReached => exact .inl (hrun h (waitingLimit_moves s))
    | listeningIntervalEnd => exact .inl (hrun h (listeningEnds_moves s))
    | peerEntryStale slot => exact .inl (hquiet h (peerStale_quiet slot s))
    | peerEntryRemoval slot => exact .inl (hquiet h (peerRemoved_quiet slot s))
    | peerIntentLifetimeExpiry slot => exact .inl (hquiet h (peerIntentExpires_quiet slot s))
    | settleTimerExpiry => exact .inl (hrun h (settleExpires_moves s))
    | fixtureDebounceExpiry => exact .inl (hquiet h (debounceExpires_quiet s))
    | loadTimerExpiry answered => exact .inl (hquiet h (loadTimerExpires_quiet answered s))
    | closeTimerExpiry => exact .inl (hrun h (groupExpires_moves s))
    | memoryNoResponse answered => exact .inl (hquiet h (memorySilent_quiet answered s))
    -- The receptions, each of which has a frame.
    | _ => cases hf

/-- Every command keeps the books. -/
theorem exec_keeps {c : Instr} {s t : State} (h : exec c s = .next t) : Keeps s t := by
  rcases exec_quiet h with hq | rfl | rfl | ⟨slot, code, rfl⟩ | ⟨f, hf⟩ | rfl | rfl | ⟨n, rfl⟩ |
    ⟨x, rfl⟩ | ⟨uv, rfl⟩
  · exact hq.toKeeps
  · cases h
    exact holdInReset_keeps s
  · cases h
    exact holdInReset_keeps s
  · exact ite_next_of h (fun hs => endReset_keeps slot code hs) fun _ => .refl s
  · refine live_of ((exec_of_frameOf hf).symm.trans h) (.refl s) fun hs => ?_
    rcases anyFrame_quiet kindBeacon f hs with hq | ⟨-, hk, -⟩
    · exact hq.toKeeps
    · exact hk
  · exact live_of h (.refl s) fun _ => (tickTimers_keeps s).trans (outputTicks_quiet s).toKeeps
  · exact live_of h (.refl s) fun _ => rackAdvances_keeps s
  · exact live_of h (.refl s) fun _ => (loadCompletes_keeps n s).1
  · exact ite_next_of h (fun _ => (heldReading_keeps x s).1) fun _ => (fixtureChanges_keeps x s).1
  · refine live_of h (.refl s) fun _ => ?_
    obtain ⟨a, n, hq⟩ := completeConversion_quiet uv s
    exact Keeps.trans (t := { s with asc := a, free := n }) ⟨rfl, id, id, id, id, id, id, id⟩
      hq.toKeeps

/-- Every command has a next state. -/
theorem exec_next (c : Instr) (s : State) : ∃ t, exec c s = .next t := by
  have hlive (f : State → State) : ∃ t, s.live f = .next t := by
    unfold State.live
    split <;> exact ⟨_, rfl⟩
  have hboth (a b : State) : ∃ t, (if s.inReset then .next a else .next b :
      Host.Outcome State Fault Refusal) = .next t := by
    split <;> exact ⟨_, rfl⟩
  cases c with
  | powerOnReset | rackReset | outputLimitInputChange _ => exact ⟨_, rfl⟩
  | resetEnd _ _ | supplySenseChange _ | startSwitchClose | startSwitchRelease
  | watchLineEdge _ _ | fixturePresentChange _ => exact hboth _ _
  | _ => exact hlive _

/-- From one state to the other a command moves no item but its own: the clauses of O58 but the one on
the snapshot store. -/
def MovesOwnItems (c : Instr) (s t : State) : Prop :=
  (t.tmu.uptime ≠ s.tmu.uptime → c = .outputTick ∧ t.tmu.uptime = s.tmu.uptime + 1) ∧
  (t.tmu.rack ≠ s.tmu.rack → c = .rackTimeAdvance ∨ ∃ f, frameOf c = some (0x01, f)) ∧
  (t.slot ≠ s.slot ∨ t.code ≠ s.code → ∃ slot code, c = .resetEnd slot code) ∧
  (t.cfl.config ≠ s.cfl.config → ∃ answered, c = .loadCompletion answered) ∧
  (t.cfl.memory ≠ s.cfl.memory → ∃ fixture, c = .fixturePresentChange fixture) ∧
  (∀ i, (t.asc.points.get i).y ≠ (s.asc.points.get i).y →
    (∃ answered, c = .loadCompletion answered) ∨ ∃ uv, c = .conversionCompletion uv)

/-- What moves no item adds nothing to what a command moves. -/
theorem MovesOwnItems.still {c : Instr} {s t u : State} (h : MovesOwnItems c s t)
    (g : Still t u) : MovesOwnItems c s u := by
  unfold MovesOwnItems at h ⊢
  simpa only [g.uptime, g.rack, g.slot, g.code, g.config, g.memory, g.filtered] using h

theorem MovesOwnItems.refl (c : Instr) (s : State) : MovesOwnItems c s s := by
  simp [MovesOwnItems]

theorem exec_movesOwnItems {c : Instr} {s t : State} (h : exec c s = .next t)
    (hp : c ≠ .powerOnReset) (hr : c ≠ .rackReset) : MovesOwnItems c s t := by
  rcases exec_quiet h with hq | rfl | rfl | ⟨slot, code, rfl⟩ | ⟨f, hf⟩ | rfl | rfl | ⟨n, rfl⟩ |
    ⟨x, rfl⟩ | ⟨uv, rfl⟩
  · exact (MovesOwnItems.refl c s).still hq.toStill
  · exact absurd rfl hp
  · exact absurd rfl hr
  · exact ite_next_of h (fun _ => .still (by simp [MovesOwnItems]) (endReset_still slot code s))
      fun _ => .refl _ s
  · refine live_of ((exec_of_frameOf hf).symm.trans h) (.refl c s) fun hs => ?_
    rcases anyFrame_quiet kindBeacon f hs with hq | ⟨-, -, u, hu, hstill⟩
    · exact (MovesOwnItems.refl c s).still hq.toStill
    · refine .still ⟨fun hne => absurd hu hne, fun _ => .inr ⟨f, hf⟩, ?_⟩ hstill
      simp
  · refine live_of h (.refl _ s) fun _ => .still ?_ (outputTicks_quiet s).toStill
    simp [MovesOwnItems, State.tickTimers, Tmu.tick, Cfl.tick]
  · have hrack (r : RackTime) : MovesOwnItems .rackTimeAdvance s (s.atRack r) := by
      simp [MovesOwnItems, State.atRack]
    exact live_of h (.refl _ s) fun _ => rackAdvances_eq s ▸ hrack _
  · refine live_of h (.refl _ s) fun _ => ?_
    obtain ⟨-, c, a, hstill⟩ := loadCompletes_keeps n s
    exact .still (by simp [MovesOwnItems]) hstill
  · have hmem (m : List Byte) : MovesOwnItems (.fixturePresentChange x) s
        { s with cfl := { s.cfl with memory := m } } := by simp [MovesOwnItems]
    obtain ⟨-, m, hheld⟩ := heldReading_keeps x s
    obtain ⟨-, m', hlive⟩ := fixtureChanges_keeps x s
    exact ite_next_of h (fun _ => (hmem m).still hheld) fun _ => (hmem m').still hlive
  · refine live_of h (.refl _ s) fun _ => ?_
    obtain ⟨a, n, hq⟩ := completeConversion_quiet uv s
    exact .still (by simp [MovesOwnItems]) hq.toStill

/-! ### The statements -/

/-- Settles O1: no command's effect is a fault or a refusal, and every one keeps the books. -/
theorem everyCommandCompletesAndKeepsTheQueue :
    Obligations.EveryCommandCompletesAndKeepsTheQueue := by
  intro c s
  obtain ⟨t, h⟩ := exec_next c s
  exact ⟨t, h, (exec_keeps h).pending⟩

/-- Settles O57, by what every command keeps. -/
theorem everyCommandKeepsTheBooks : Obligations.EveryCommandKeepsTheBooks := by
  intro c s t h
  have hk := exec_keeps h
  exact ⟨fun hl ho => ⟨hk.log hl, hk.notices ho.1, hk.responses ho.2⟩, hk.view, hk.rackTime,
    hk.claims, hk.ids⟩

/-- Settles O58: a quiet command moves none of the items, and each of the others moves its own. -/
theorem itemsMoveByTheirCommandsOnly : Obligations.ItemsMoveByTheirCommandsOnly := by
  intro c s t h hp hr
  obtain ⟨huptime, hrack, hstraps, hconfig, hmemory, hfiltered⟩ := exec_movesOwnItems h hp hr
  refine ⟨huptime, hrack, hstraps, fun hne => ?_, hconfig, hmemory, hfiltered⟩
  by_contra hno
  exact hne (exec_snapshot_of_frameOf_ne h hp hr fun f hf => hno ⟨f, hf⟩)

end Sys2Proof.Machine
end

section
/-! SUPPORT. The promises on the board under every operation: what a refresh establishes, what an operation
that touches neither the board nor the flags keeps, and what the events of a run need of the state in
which they happen. After them the statement on the board. -/

namespace Sys2Proof.Machine

/-! ### Keeping the promises -/

/-- What follows the board-on and blanking flags stands as they say (R17, R109, R124). -/
def State.followsBoard (s : State) : Prop :=
  s.boardOnRight ∧ s.lanesFollowBoard ∧ s.linesFollowBoard

theorem State.BoardSafe.of {s : State} (o : s.outputsSafe) (f : s.followsBoard) (g : s.stagesRight)
    (p : s.powerOnRight) : s.BoardSafe := ⟨o, f.1, f.2.1, f.2.2, g, p⟩

/-- A refresh needs only what the flags do not say. -/
theorem refresh_boardSafe {s : State} (o : s.outputsSafe) (g : s.stagesRight)
    (p : s.powerOnRight) : s.refresh.BoardSafe := .of o (refresh_follows s) g p

/-- Lanes and lines that stand under flags that stand go on following them. -/
theorem State.BoardSafe.follow {s t : State} (h : s.BoardSafe)
    (hrun : t.rcu.run.active = s.rcu.run.active) (hphase : t.rcu.phase = .off ↔ s.rcu.phase = .off)
    (hon : t.rcu.boardOn = s.rcu.boardOn) (hblank : t.rcu.blanking = s.rcu.blanking)
    (htarget : t.sou.target0 = s.sou.target0)
    (hlanes : ∀ i, (t.lanes.get i).lock ≠ .off → s.rcu.boardOn = true)
    (hlines : ∀ i, (t.lines.get i).sup.allowed s.rcu.boardOn s.supervising) :
    t.followsBoard := by
  refine ⟨?_, ?_, ?_⟩
  · have hb := h.boardOn
    simp only [State.boardOnRight, State.boardOnNow, ne_eq] at hb ⊢
    simp only [hon, hrun, htarget, hphase, hb]
  · unfold State.lanesFollowBoard
    rwa [hon]
  · unfold State.linesFollowBoard State.supervising
    rwa [hon, hblank]

/-- A change that leaves the run, the outputs, the lanes and the lines alone keeps the promises where
the stages of the claim do. -/
theorem State.BoardSafe.claim {s : State} (h : s.BoardSafe) {g : Bgu} {b : Bif}
    (hi : g.intent ≠ none → s.rcu.run = .claiming)
    (hw : g.waitingSince ≠ none → s.rcu.run = .waiting) :
    State.BoardSafe { s with bgu := g, bus := b } :=
  ⟨h.outputs, h.boardOn, h.lanes, h.lines, ⟨hi, hw, h.stages.2.2⟩, h.powerOn⟩

/-- What else a change may touch: the free values, the clocks, the log, the scanner and the windows. -/
theorem State.BoardSafe.aside {s : State} (h : s.BoardSafe) (a : Asc) (w : Wck) (f : Fcu) (u : Tmu) (b : Bif)
    (n : Nat) :
    State.BoardSafe { s with asc := a, wck := w, fcu := f, tmu := u, bus := b, free := n } :=
  ⟨h.outputs, h.boardOn, h.lanes, h.lines, h.stages, h.powerOn⟩

/-- Of the Run Controller the promises read the run, the step, the phase and what stands with them. -/
theorem State.BoardSafe.rcu {s : State} (h : s.BoardSafe) {r : Rcu} (w : Wck) (hrun : r.run = s.rcu.run)
    (hstep : r.step = s.rcu.step) (hphase : r.phase = s.rcu.phase)
    (htaken : r.arrivalTaken = s.rcu.arrivalTaken)
    (hpending : r.powerOnPending = s.rcu.powerOnPending)
    (hblank : r.blanking = s.rcu.blanking) (hon : r.boardOn = s.rcu.boardOn) :
    State.BoardSafe { s with rcu := r, wck := w } := by
  refine .of ?_ (h.follow (by rw [hrun]) (by rw [hphase]) hon hblank rfl h.lanes h.lines) ?_ ?_
  · have := h.outputs
    unfold State.outputsSafe at this ⊢
    rwa [hrun]
  · have := h.stages
    unfold State.stagesRight at this ⊢
    rwa [hrun, htaken]
  · have := h.powerOn
    simp only [State.powerOnRight, State.theStep, State.stepAt, State.cfg] at this ⊢
    rwa [hrun, hphase, hpending, hstep, htaken]

/-- A phase other than OFF that is no power-on's may follow another. -/
theorem State.BoardSafe.phase {s : State} (h : s.BoardSafe) {r : Rcu} (w : Wck)
    (hrun : r.run = s.rcu.run) (htaken : r.arrivalTaken = s.rcu.arrivalTaken)
    (hblank : r.blanking = s.rcu.blanking) (hon : r.boardOn = s.rcu.boardOn)
    (hold : s.rcu.phase ≠ .off) (hnew : r.phase = .reaching ∨ r.phase = .timing ∨ r.phase = .on) :
    State.BoardSafe { s with rcu := r, wck := w } := by
  have hoff : r.phase ≠ .off := by rcases hnew with e | e | e <;> simp [e]
  refine .of ?_ (h.follow (by rw [hrun]) ⟨fun e => absurd e hoff, fun e => absurd e hold⟩ hon
    hblank rfl h.lanes h.lines) ?_ ?_
  · have := h.outputs
    unfold State.outputsSafe at this ⊢
    rwa [hrun]
  · have := h.stages
    unfold State.stagesRight at this ⊢
    rwa [hrun, htaken]
  · intro _ hp
    rcases hnew with e | e | e <;> simp [e] at hp

/-- In an active run the outputs may change where OUT0's target and whether it stands above 0 mV do
not. -/
theorem State.BoardSafe.sou {s : State} (h : s.BoardSafe) {u : Sou} (htarget : u.target0 = s.sou.target0)
    (hlevel : 0 < s.sou.level0 → 0 < s.sou.target0 → 0 < u.level0)
    (hout : s.rcu.run.active = false →
      u.target0 = 0 ∧ u.level0 = 0 ∧ u.pressed = false ∧ u.pressTimer = none) :
    State.BoardSafe { s with sou := u } := by
  refine .of hout (h.follow rfl Iff.rfl rfl rfl htarget h.lanes h.lines) h.stages ?_
  intro hr hp hpend
  obtain ⟨hset, htaken⟩ := h.powerOn hr hp hpend
  refine ⟨hset, fun ht => ?_⟩
  obtain ⟨h0, h1⟩ := htaken ht
  exact ⟨htarget ▸ h0, hlevel h1 h0⟩

/-- Lines may change within what the flags allow. -/
theorem State.BoardSafe.withLines {s : State} (h : s.BoardSafe) {l : Quad Line}
    (hl : ∀ i, (l.get i).sup.allowed s.rcu.boardOn s.supervising) :
    State.BoardSafe { s with lines := l } := ⟨h.outputs, h.boardOn, h.lanes, hl, h.stages, h.powerOn⟩

theorem State.BoardSafe.setLine {s : State} (h : s.BoardSafe) {i : Fin 4} {l : Line}
    (hl : l.sup.allowed s.rcu.boardOn s.supervising) : (s.setLine i l).BoardSafe := by
  refine h.withLines fun j => ?_
  by_cases hj : j = i
  · rwa [hj, Quad.get_set_self]
  · rw [Quad.get_set_of_ne _ _ hj]
    exact h.lines j

theorem State.BoardSafe.setLane {s : State} (h : s.BoardSafe) {i : Fin 4} {l : Lane}
    (hl : l.lock ≠ .off → s.rcu.boardOn = true) : (s.setLane i l).BoardSafe := by
  refine ⟨h.outputs, h.boardOn, fun j => ?_, h.lines, h.stages, h.powerOn⟩
  by_cases hj : j = i
  · rwa [hj, State.setLane, Quad.get_set_self]
  · rw [State.setLane, Quad.get_set_of_ne _ _ hj]
    exact h.lanes j

theorem LogOnly.boardSafe {s t : State} (h : LogOnly s t) (hs : s.BoardSafe) : t.BoardSafe := by
  obtain ⟨f, n, d, rfl⟩ := h
  exact hs.aside ..

/-- Outside an active run nothing is claimed for, and the board is off. -/
theorem State.BoardSafe.inactive {s : State} (h : s.BoardSafe) (hr : s.rcu.run.active = false) :
    s.bgu.intent = none ∧ s.bgu.waitingSince = none ∧ s.rcu.boardOn = false := by
  refine ⟨?_, ?_, ?_⟩
  · by_contra hi
    simp [h.stages.1 hi, RunState.active] at hr
  · by_contra hw
    simp [h.stages.2.1 hw, RunState.active] at hr
  · rw [h.boardOn, State.boardOnNow, hr]
    rfl

/-- In RUNNING and PAUSED no claim is asked, and the configuration is VALID. -/
theorem State.BoardSafe.inStep {s : State} (h : s.BoardSafe)
    (hr : s.rcu.run = .running ∨ s.rcu.run = .paused) :
    s.bgu.intent = none ∧ s.bgu.waitingSince = none ∧ s.cfl.status = .valid := by
  obtain ⟨hi, hw, -, hv⟩ := h.stages
  refine ⟨?_, ?_, hv (by rcases hr with e | e <;> rw [e] <;> rfl)⟩
  · by_contra hne
    rw [hi hne] at hr
    simp at hr
  · by_contra hne
    rw [hw hne] at hr
    simp at hr

/-! ### The run end and isolation -/

/-- A run end leaves every promise kept, whatever state it finds (R28). -/
theorem runEnd_boardSafe (v : Verdict) (c : EndCause) (s : State) : (s.runEnd v c).BoardSafe := by
  obtain ⟨o, b, bn, ns, nd, lanes, lines, e, -, -, hlanes, hlines⟩ := runEnd_spec v c s
  obtain ⟨u1, u2, u3, u4, -⟩ := runEnd_outputs s.cfg c s.sou
  rw [e]
  refine ⟨fun _ => ⟨u1, u2, u3, u4⟩, ?_, fun i hi => ?_, fun i => ?_, ?_, ?_⟩
  · simp [State.boardOnRight, State.boardOnNow, RunState.active]
  · exact absurd (hlanes i ▸ sync_off _ _) hi
  · show (lines.get i).sup.allowed false false
    rw [hlines i]
    exact sync_allowed ..
  · simp [State.stagesRight, RunState.active]
  · simp [State.powerOnRight]

theorem finishCompletion_boardSafe (s : State) : s.finishCompletion.BoardSafe := by
  unfold State.finishCompletion
  (repeat' split) <;> exact runEnd_boardSafe _ _ s

theorem completeRun_boardSafe (s : State) : s.completeRun.BoardSafe :=
  finishCompletion_boardSafe _

theorem writeInRun_boardSafe (r : Record) {s : State} (h : s.BoardSafe) :
    (s.writeInRun r).BoardSafe := by
  simp only [State.writeInRun]
  split
  · exact runEnd_boardSafe ..
  · exact (writeRecord_logOnly r s).boardSafe h

/-- So does the entry to ISOLATED (R30). -/
theorem enterIsolated_boardSafe (ms : Nat) (s : State) : (s.enterIsolated ms).BoardSafe := by
  refine refresh_boardSafe (fun _ => ⟨rfl, rfl, rfl, rfl⟩) ⟨fun h => absurd rfl h,
    fun h => absurd rfl h, ?_, fun h => by cases h⟩ ?_
  · rintro (h | h) <;> cases h
  · rintro (h | h) <;> cases h

theorem leaveIsolated_boardSafe {s : State} (h : s.BoardSafe) (hr : s.rcu.run = .isolated) :
    s.leaveIsolated.BoardSafe := by
  have hact : s.rcu.run.active = false := by rw [hr]; rfl
  obtain ⟨hi, hw, hon⟩ := h.inactive hact
  unfold State.leaveIsolated
  split
  · refine .of (fun _ => h.outputs hact) (h.follow hact.symm Iff.rfl rfl rfl rfl h.lanes h.lines)
      ⟨fun e => absurd hi e, fun e => absurd hw e, by simp, by simp [RunState.active]⟩ (by
        simp [State.powerOnRight])
  · refine .of (fun _ => h.outputs hact) ⟨?_, h.lanes, h.lines⟩
      ⟨fun e => absurd hi e, fun e => absurd hw e, by simp, by simp [RunState.active]⟩ (by
        simp [State.powerOnRight])
    simpa [State.boardOnRight, State.boardOnNow, RunState.active] using hon

/-! ### Arrivals (R10, R11, R15, R18) -/

theorem clearBlanking_boardSafe {s : State} (h : s.BoardSafe) : s.clearBlanking.BoardSafe :=
  refresh_boardSafe h.outputs h.stages h.powerOn

theorem startBlanking_boardSafe {s : State} (h : s.BoardSafe) : s.startBlanking.BoardSafe := by
  unfold State.startBlanking
  split
  · exact clearBlanking_boardSafe h
  · exact h.rcu s.wck rfl rfl rfl rfl rfl rfl rfl

/-- The start of blanking leaves the run's position alone (R18). -/
theorem startBlanking_rcu (s : State) : s.startBlanking.rcu.run = s.rcu.run ∧
    s.startBlanking.rcu.phase = s.rcu.phase ∧
    s.startBlanking.rcu.arrivalTaken = s.rcu.arrivalTaken ∧
    s.startBlanking.rcu.powerOnPending = s.rcu.powerOnPending := by
  unfold State.startBlanking
  split <;> exact ⟨rfl, rfl, rfl, rfl⟩

theorem advancePhase_boardSafe {s : State} (h : s.BoardSafe) : s.advancePhase.BoardSafe := by
  unfold State.advancePhase
  split
  case h_1 hp =>
    have hoff : s.rcu.phase ≠ .off := by simp [hp]
    split
    · exact h.phase _ rfl rfl rfl rfl hoff (.inl rfl)
    · exact h.phase s.wck rfl rfl rfl rfl hoff (.inr (.inl rfl))
  case h_2 hp => exact h.phase s.wck rfl rfl rfl rfl (by simp [hp]) (.inr (.inr rfl))
  all_goals exact h

/-- Once the arrival of a power-on has been taken the board is on (R11, R17). -/
theorem State.BoardSafe.powered {s : State} (h : s.BoardSafe)
    (hr : s.rcu.run = .running ∨ s.rcu.run = .paused)
    (hp : s.rcu.phase = .settling ∨ s.rcu.phase = .powering) (hpend : s.rcu.powerOnPending = true)
    (ht : s.rcu.arrivalTaken = true) : s.rcu.boardOn = true := by
  obtain ⟨htarget, -⟩ := (h.powerOn hr hp hpend).2 ht
  have hact : s.rcu.run.active = true := by rcases hr with e | e <;> rw [e] <;> rfl
  have hoff : s.rcu.phase ≠ .off := by rcases hp with e | e <;> simp [e]
  rw [h.boardOn, State.boardOnNow, hact]
  simp [htarget, hoff]

theorem startWait_boardSafe {s : State} (h : s.BoardSafe) (hon : s.rcu.boardOn = true) (i : Fin 4) :
    (s.startWait i).BoardSafe := by
  refine h.setLine (i := i) ?_
  rw [hon]
  unfold Line.startWait
  split <;> exact fun e => by cases e

theorem press_boardSafe (ms : Nat) {s : State} (h : s.BoardSafe) (hr : s.rcu.run = .running) :
    State.BoardSafe { s with sou := s.sou.press ms } := by
  unfold Sou.press
  split
  · exact h
  · exact h.sou rfl (fun hl _ => hl) fun e => by simp [hr, RunState.active] at e

theorem arrivalSequence_boardSafe {s : State} (h : s.BoardSafe) (hr : s.rcu.run = .running)
    (hp : s.rcu.phase = .settling ∨ s.rcu.phase = .powering)
    (ht : s.rcu.arrivalTaken = true) : s.arrivalSequence.BoardSafe := by
  unfold State.arrivalSequence State.powerOnArrival
  split
  · next hpend =>
    have hon := h.powered (.inl hr) hp hpend ht
    split
    · exact press_boardSafe _ h hr
    · split
      · exact advancePhase_boardSafe h
      · next i _ =>
        split
        · exact advancePhase_boardSafe (startWait_boardSafe h hon i)
        · exact startWait_boardSafe h hon i
  · exact advancePhase_boardSafe h

theorem commitPending_boardSafe {s : State} (h : s.BoardSafe) : s.commitPending.BoardSafe := by
  unfold State.commitPending
  split
  · exact h
  · next w _ =>
    obtain ⟨b, bn, e⟩ := commitClaim_spec w { s with bgu := { s.bgu with pendingLower := none } }
    rw [e]
    exact h.claim h.stages.1 h.stages.2.1

/-- A commit leaves the Run Controller alone (R66). -/
theorem commitPending_rcu (s : State) : s.commitPending.rcu = s.rcu := by
  unfold State.commitPending
  split <;> rfl

/-- An arrival finds OUT0 on the phase level, which is above 0 mV where a power-on is pending (R10). -/
theorem takeArrival_boardSafe {s : State} (h : s.BoardSafe) (hl : s.sou.level0 = s.sou.target0) :
    s.takeArrival.BoardSafe := by
  unfold State.takeArrival
  split
  case isFalse => exact h
  case isTrue ha =>
    obtain ⟨hr, -, hlevel⟩ := ha
    have htaken : State.BoardSafe { s with rcu := { s.rcu with arrivalTaken := true } } := by
      refine .of h.outputs (h.follow rfl Iff.rfl rfl rfl rfl h.lanes h.lines)
        ⟨h.stages.1, h.stages.2.1, by simp [hr], h.stages.2.2.2⟩ fun _ hp hpend => ?_
      have hset := (h.powerOn (.inl hr) hp hpend).1
      have hpos : 0 < s.sou.level0 := by
        rcases hp with e | e <;> simp only [State.phaseLevel] at hlevel e <;> rw [e] at hlevel <;>
          exact Option.some.inj hlevel ▸ hset
      exact ⟨hset, fun _ => ⟨hl ▸ hpos, hpos⟩⟩
    have hpend := commitPending_boardSafe htaken
    have hrcu := commitPending_rcu { s with rcu := { s.rcu with arrivalTaken := true } }
    unfold State.arrive
    dsimp only
    generalize State.commitPending { s with rcu := { s.rcu with arrivalTaken := true } } = x
      at hpend hrcu ⊢
    obtain ⟨brun, bphase, btaken, -⟩ := startBlanking_rcu x
    have hblank := startBlanking_boardSafe hpend
    have hrun : x.startBlanking.rcu.run = .running := by rw [brun, hrcu]; exact hr
    have htk : x.startBlanking.rcu.arrivalTaken = true := by rw [btaken, hrcu]
    split
    case h_1 hp => exact arrivalSequence_boardSafe hblank hrun (.inl (bphase.trans hp)) htk
    case h_2 hp =>
      exact arrivalSequence_boardSafe (hblank.rcu _ rfl rfl rfl rfl rfl rfl rfl) hrun
        (.inr (bphase.trans hp)) htk
    all_goals exact hpend

theorem commandLanding_boardSafe {s : State} (h : s.BoardSafe) : s.commandLanding.BoardSafe := by
  unfold State.commandLanding
  split
  · next hl => exact takeArrival_boardSafe h hl
  · exact h

/-! ### The starts of the phases and of the steps (R7, R9, R14, R15) -/

theorem enterOff_boardSafe {s : State} (g : s.stagesRight) : s.enterOff.BoardSafe := by
  have hoff : State.BoardSafe (State.refresh { s with
      sou := s.sou.forceZero
      rcu := { s.rcu with phase := .off, arrivalTaken := false, heldOn := false } }) :=
    refresh_boardSafe (fun _ => ⟨rfl, rfl, rfl, rfl⟩) ⟨g.1, g.2.1, fun _ => rfl, g.2.2.2⟩
      fun _ hp => by simp at hp
  exact takeArrival_boardSafe (hoff.rcu _ rfl rfl rfl rfl rfl rfl rfl) rfl

theorem enterPowering_boardSafe {s : State} (g : s.stagesRight) (hr : s.rcu.run = .running) :
    s.enterPowering.BoardSafe := by
  refine commandLanding_boardSafe (refresh_boardSafe (fun e => ?_) ⟨g.1, g.2.1, fun _ => rfl,
    g.2.2.2⟩ fun _ _ hpend => ⟨of_decide_eq_true hpend, fun ht => by cases ht⟩)
  have hact : s.rcu.run.active = false := e
  simp [hr, RunState.active] at hact

/-- The state in which a step starts: its claim is settled, and it has taken no arrival (R7, R9). -/
structure State.EntersStep (s : State) : Prop where
  intent : s.bgu.intent = none
  waiting : s.bgu.waitingSince = none
  valid : s.cfl.status = .valid
  taken : s.rcu.arrivalTaken = false

theorem startSettling_boardSafe {s : State} (h : s.EntersStep) : s.startSettling.BoardSafe := by
  refine commandLanding_boardSafe ?_
  dsimp only
  generalize hx : State.refresh _ = x
  have hset : x.BoardSafe := by
    rw [← hx]
    refine refresh_boardSafe (fun e => by cases e) ⟨fun e => absurd h.intent e,
      fun e => absurd h.waiting e, fun _ => h.taken, fun _ => h.valid⟩ fun _ _ hpend => ⟨?_, ?_⟩
    · exact of_decide_eq_true (Bool.and_eq_true_iff.mp hpend).2
    · exact fun ht => by cases h.taken.symm.trans ht
  split
  · next hon =>
    have hon : x.rcu.boardOn = true := (Bool.and_eq_true_iff.mp hon).1
    refine hset.withLines fun i => ?_
    have hi := hset.lines i
    rw [hon] at hi ⊢
    rw [Quad.get_map]
    unfold Line.joinPowered
    split
    · split <;> exact fun e => by cases e
    · exact hi
  · exact hset

theorem startStep_boardSafe {s : State} (h : s.EntersStep) : s.startStep.BoardSafe := by
  have hcycle : s.startCycle.BoardSafe :=
    enterOff_boardSafe ⟨fun e => absurd h.intent e, fun e => absurd h.waiting e,
      fun _ => h.taken, fun _ => h.valid⟩
  unfold State.startStep
  split
  · exact hcycle
  · exact startSettling_boardSafe h
  · exact startSettling_boardSafe h

theorem enterStep_boardSafe (n : Nat) {s : State} (hi : s.bgu.intent = none)
    (hv : s.cfl.status = .valid) : (s.enterStep n).BoardSafe := by
  rcases Nat.lt_trichotomy s.bgu.committed (s.stepAt n).claimW with h | h | h
  · rw [enterStep_asks h]
    have hclaiming : State.BoardSafe (State.refresh { s.positioned n with
        rcu := { (s.positioned n).rcu with run := .claiming, phase := .none } }) :=
      refresh_boardSafe (fun e => by cases e) ⟨fun e => absurd hi e, fun e => absurd rfl e,
        fun _ => rfl, fun _ => hv⟩ (by simp [State.powerOnRight])
    obtain ⟨i, wd, b, bn, e, -⟩ := askClaim_spec (s.stepAt n).claimW (State.refresh
      { s.positioned n with
        rcu := { (s.positioned n).rcu with run := .claiming, phase := .none } })
    rw [e]
    exact hclaiming.claim (fun _ => rfl) fun hw => absurd rfl hw
  · rw [enterStep_starts h.symm]
    exact startStep_boardSafe ⟨hi, rfl, hv, rfl⟩
  · rw [enterStep_lowers h]
    exact startStep_boardSafe ⟨hi, rfl, hv, rfl⟩

theorem endStep_boardSafe {s : State} (hi : s.bgu.intent = none) (hv : s.cfl.status = .valid) :
    s.endStep.BoardSafe := by
  simp only [State.endStep]
  split
  · exact completeRun_boardSafe _
  · exact enterStep_boardSafe _ hi hv

theorem endIteration_boardSafe {s : State} (h : s.BoardSafe) (hr : s.rcu.run = .running) :
    s.endIteration.BoardSafe := by
  obtain ⟨hi, -, hv⟩ := h.inStep (.inl hr)
  unfold State.endIteration
  split
  · exact enterOff_boardSafe h.stages
  · exact endStep_boardSafe hi hv

theorem advancePhase_run (s : State) : s.advancePhase.rcu.run = s.rcu.run :=
  (advancePhase_kept s).run

theorem powerOnComplete_boardSafe {s : State} (h : s.BoardSafe)
    (hr : s.rcu.run = .running ∨ s.rcu.run = .paused) : s.powerOnComplete.BoardSafe := by
  simp only [State.powerOnComplete]
  split
  · exact h.rcu s.wck rfl rfl rfl rfl rfl rfl rfl
  · next hp =>
    have hadv := advancePhase_boardSafe h
    split
    · exact endIteration_boardSafe hadv ((advancePhase_run s).trans (hr.resolve_right hp))
    · exact hadv

theorem reachMet_boardSafe {s : State} (h : s.BoardSafe) : s.reachMet.BoardSafe := by
  unfold State.reachMet
  (repeat' split)
  · exact h.rcu s.wck rfl rfl rfl rfl rfl rfl rfl
  · next hp => exact h.phase s.wck rfl rfl rfl rfl (by simp [hp]) (.inr (.inl rfl))
  · exact h

/-! ### The taking of a raise -/

theorem captureRaise_boardSafe (r : Record) {s : State} (h : s.BoardSafe) :
    (s.captureRaise r).BoardSafe := by
  unfold State.captureRaise
  split
  · exact writeInRun_boardSafe r h
  · exact h.aside ..

theorem nextStepAction_boardSafe {s : State} (hv : s.cfl.status = .valid) :
    s.nextStepAction.BoardSafe := by
  obtain ⟨w, b, bn, e⟩ := withdrawIntent_spec s
  simp only [State.nextStepAction, e]
  exact endStep_boardSafe rfl hv

theorem raiseSeeing_boardSafe (asc : Asc) (kind : FaultKind) (points : List Nat) (value : Int)
    {s : State} (h : s.BoardSafe) : (s.raiseSeeing asc kind points value).BoardSafe := by
  simp only [State.raiseSeeing]
  split
  · next hact =>
    split
    · refine captureRaise_boardSafe _ ?_
      unfold State.goOnAction
      split
      · next hg => exact h.phase s.wck rfl rfl rfl rfl (by simp [hg.2]) (.inr (.inl rfl))
      · exact h
    · split
      · exact finishCompletion_boardSafe _
      · exact captureRaise_boardSafe _ (nextStepAction_boardSafe (h.stages.2.2.2 hact))
    · exact runEnd_boardSafe ..
    · exact runEnd_boardSafe ..
  · exact h

theorem raise_boardSafe (kind : FaultKind) (points : List Nat) (value : Int) {s : State}
    (h : s.BoardSafe) : (s.raise kind points value).BoardSafe := raiseSeeing_boardSafe _ _ _ _ h

end Sys2Proof.Machine
end

section
/-! SUPPORT. The promises on the board under every command, and the statement on them. -/

namespace Sys2Proof.Machine

/-! ### The claim's events (R54 to R63) -/

theorem beginRetry_boardSafe {s : State} (h : s.BoardSafe) (hw : s.bgu.waitingSince.isSome = true) :
    s.beginRetry.BoardSafe := by
  have hrun : s.rcu.run = .waiting := h.stages.2.1 (Option.isSome_iff_ne_none.mp hw)
  have hact : s.rcu.run.active = true := by rw [hrun]; rfl
  have hretry : State.BoardSafe { s with
      bgu := { s.bgu with waitingSince := .none, accumulator := min s.bgu.accumulator 599999 }
      rcu := { s.rcu with run := .claiming } } :=
    .of (fun e => by cases e)
      (h.follow hact.symm Iff.rfl rfl rfl rfl h.lanes h.lines)
      ⟨fun _ => rfl, fun e => absurd rfl e, fun _ => h.stages.2.2.1 (.inr hrun),
        fun _ => h.stages.2.2.2 hact⟩ (by simp [State.powerOnRight])
  unfold State.beginRetry
  dsimp only
  generalize State.theStep _ = st
  obtain ⟨i, wd, b, bn, e, -⟩ := askClaim_spec st.claimW { s with
      bgu := { s.bgu with waitingSince := .none, accumulator := min s.bgu.accumulator 599999 }
      rcu := { s.rcu with run := .claiming } }
  rw [e]
  exact hretry.claim (fun _ => rfl) fun e => absurd rfl e

theorem retryCause_boardSafe {s : State} (h : s.BoardSafe) : s.retryCause.BoardSafe := by
  unfold State.retryCause
  split
  · next hw => exact beginRetry_boardSafe h hw
  · exact h

theorem retryExpires_boardSafe {s : State} (h : s.BoardSafe) : (retryExpires s).BoardSafe := by
  unfold retryExpires
  split
  · exact h
  · next u hu =>
    split
    · exact beginRetry_boardSafe h (by rw [hu]; rfl)
    · exact h

theorem promoteIntent_boardSafe {s : State} (h : s.BoardSafe) : s.promoteIntent.BoardSafe := by
  unfold State.promoteIntent
  split
  · next w hi =>
    split
    · exact h.claim (fun _ => h.stages.1 (by simp [hi])) h.stages.2.1
    · exact h
  all_goals exact h

theorem becomeSettled_boardSafe {s : State} (h : s.BoardSafe) : s.becomeSettled.BoardSafe := by
  unfold State.becomeSettled
  split
  · exact h
  · exact promoteIntent_boardSafe (h.aside s.asc s.wck s.fcu _ s.bus s.free)

theorem openWindow_boardSafe (stamp : RackTime) {s : State} (h : s.BoardSafe) :
    (s.openWindow stamp).BoardSafe := by
  unfold State.openWindow
  split
  · next w hi => exact h.claim (b := s.bus) (fun _ => h.stages.1 (by simp [hi])) h.stages.2.1
  all_goals exact h

/-- The end of the claim window finds the run CLAIMING (R59 to R61). -/
theorem windowExpires_boardSafe {s : State} (h : s.BoardSafe) : (windowExpires s).BoardSafe := by
  unfold windowExpires
  split
  · next w time hi =>
    have hrun : s.rcu.run = .claiming := h.stages.1 (by simp [hi])
    have hact : s.rcu.run.active = true := by rw [hrun]; rfl
    have htaken := h.stages.2.2.1 (.inl hrun)
    have hvalid := h.stages.2.2.2 hact
    have hwait : s.bgu.waitingSince = none := by
      by_contra hw
      simp [h.stages.2.1 hw] at hrun
    split
    · split
      · simp only [State.commitWindow]
        rw [if_pos (by exact hrun)]
        exact startStep_boardSafe ⟨rfl, hwait, hvalid, htaken⟩
      · exact .of (fun e => by cases e)
          (h.follow hact.symm Iff.rfl rfl rfl rfl h.lanes h.lines)
          ⟨fun e => absurd rfl e, fun _ => rfl, fun _ => htaken, fun _ => hvalid⟩
          (by simp [State.powerOnRight, State.refuseWindow, State.queueCommit])
    · exact h
  all_goals exact h

theorem waitingLimit_boardSafe {s : State} (h : s.BoardSafe) : (waitingLimit s).BoardSafe := by
  unfold waitingLimit
  split
  · exact raise_boardSafe _ _ _ h
  · exact h

/-- A change of the peer view alone touches none of the promises. -/
theorem State.BoardSafe.peers {s : State} (h : s.BoardSafe) (l : List Peer) :
    State.BoardSafe { s with bgu := { s.bgu with peers := l } } :=
  h.claim (b := s.bus) h.stages.1 h.stages.2.1

theorem peerRemoved_boardSafe (slot : BitVec 5) {s : State} (h : s.BoardSafe) :
    (peerRemoved slot s).BoardSafe := by
  unfold peerRemoved
  split
  · exact retryCause_boardSafe (h.peers _)
  · exact h

theorem hearPeer_boardSafe (f : RxFrame) (act : Peer → Peer) {s : State} (h : s.BoardSafe) :
    (s.hearPeer f act).BoardSafe := by
  simp only [State.hearPeer]
  (repeat' split)
  · exact retryCause_boardSafe (h.peers _)
  · exact h.peers _
  · exact h

/-! ### The requests and the receptions (R20 to R24, R160) -/

theorem startRun_boardSafe {s : State} (h : s.BoardSafe) (hr : s.rcu.run = .idle)
    (hv : s.cfl.status = .valid) : s.startRun.BoardSafe := by
  have hidle : s.rcu.run.active = false := by rw [hr]; rfl
  have hentered : (s.clearHistory.enterStep 0).BoardSafe :=
    enterStep_boardSafe 0 (h.inactive hidle).1 hv
  simp only [State.startRun]
  split
  · exact hentered
  · exact raise_boardSafe _ _ _ hentered

/-- An accepted START finds the run in IDLE and the configuration VALID (R20). -/
theorem judgeStart_ok {s : State} (h : s.judgeStart = .ok) :
    s.rcu.run = .idle ∧ s.cfl.status = .valid := by
  unfold State.judgeStart at h
  split_ifs at h with h1 h2 h3
  exact ⟨not_not.mp h1, by simpa using (not_or.mp h3).1⟩

theorem takeStart_boardSafe {s : State} (h : s.BoardSafe) : s.takeStart.after.BoardSafe := by
  rw [takeStart_after]
  split
  · next hok => exact startRun_boardSafe h (judgeStart_ok hok).1 (judgeStart_ok hok).2
  · exact h

/-- The limit of OUT0 is above 0 mV where a set-point is (R4, R33). -/
theorem limit0_pos_of_setPoint {c : LoadedConfig} {t : StepRec} (h : 0 < setPoint c t) :
    0 < limit0 c := by
  unfold setPoint at h
  unfold limit0
  omega

/-- OUT0 holds a level above 0 mV (R37). -/
theorem takePause_boardSafe {s : State} (h : s.BoardSafe) : s.takePause.after.BoardSafe := by
  unfold State.takePause
  split
  case h_1 hr =>
    obtain ⟨hi, hw, hv⟩ := h.inStep (.inl hr)
    refine refresh_boardSafe (fun e => by cases e) ⟨fun e => absurd hi e, fun e => absurd hw e,
      by simp, fun _ => hv⟩ fun _ hp hpend => ?_
    obtain ⟨hset, htaken⟩ := h.powerOn (.inl hr) hp hpend
    refine ⟨hset, fun ht => ?_⟩
    have hlevel := (htaken ht).2
    have hlimit := limit0_pos_of_setPoint hset
    exact ⟨lt_min hlevel hlimit, lt_min hlevel hlimit⟩
  all_goals exact h

/-- The targets that a RESUME commands in a power-on are those of its set-point (R22, R37). -/
theorem resumed_boardSafe {s : State} (h : s.BoardSafe) (hr : s.rcu.run = .paused) :
    (State.refresh { s with
      sou := s.sou.atSlew s.cfg (s.phaseLevel.getD 0) s.theStep.standbyMv s.theStep.fanPct
        s.theStep.slew
      rcu := { s.rcu with run := .running } }).BoardSafe := by
  obtain ⟨hi, hw, hv⟩ := h.inStep (.inr hr)
  refine refresh_boardSafe (fun e => by cases e) ⟨fun e => absurd hi e, fun e => absurd hw e,
    by simp, fun _ => hv⟩ fun _ hp hpend => ?_
  obtain ⟨hset, htaken⟩ := h.powerOn (.inr hr) hp hpend
  refine ⟨hset, fun ht => ?_⟩
  have hlevel := (htaken ht).2
  have hphase : s.phaseLevel = some (setPoint s.cfg s.theStep) := by
    rcases hp with e | e <;> simp only at e <;> simp [State.phaseLevel, e]
  have hlimit := limit0_pos_of_setPoint hset
  simp only [Sou.atSlew, Sou.syncLimit_target0, Sou.syncLimit_level0, hphase, Option.getD_some]
  refine ⟨lt_min hset hlimit, ?_⟩
  split
  · exact lt_min hset hlimit
  · exact hlevel

theorem takeResume_boardSafe {s : State} (h : s.BoardSafe) : s.takeResume.after.BoardSafe := by
  have hpower {x : State} (hx : x.BoardSafe) (hr : x.rcu.run = .running) :
      x.resumePowerOn.BoardSafe := by
    unfold State.resumePowerOn
    split
    · exact powerOnComplete_boardSafe (hx.rcu x.wck rfl rfl rfl rfl rfl rfl rfl) (.inl hr)
    · exact hx
  have hreach {x : State} (hx : x.BoardSafe) : x.resumeReach.BoardSafe := by
    unfold State.resumeReach
    split
    · exact reachMet_boardSafe (hx.rcu x.wck rfl rfl rfl rfl rfl rfl rfl)
    · exact hx
  unfold State.takeResume
  split
  case h_1 hr =>
    exact hreach (hpower (commandLanding_boardSafe (resumed_boardSafe h hr))
      ((commandLanding_kept _).run.trans rfl))
  all_goals exact h

theorem takeClear_boardSafe {s : State} (h : s.BoardSafe) : s.takeClear.after.BoardSafe := by
  unfold State.takeClear
  split
  case h_1 hr =>
    have hended : s.rcu.run.active = false := by rw [hr]; rfl
    obtain ⟨hi, hw, -⟩ := h.inactive hended
    exact refresh_boardSafe (fun _ => h.outputs hended) ⟨fun e => absurd hi e,
      fun e => absurd hw e, by simp, by simp [RunState.active]⟩ (by simp [State.powerOnRight])
  all_goals exact h

theorem takeAbort_boardSafe {s : State} (h : s.BoardSafe) : s.takeAbort.after.BoardSafe := by
  unfold State.takeAbort
  split
  · exact runEnd_boardSafe ..
  · exact h

/-- An answer changes the outbox and the free values. -/
theorem respond_boardSafe (k : Byte) (f : RxFrame) (code : ResponseCode) (data : List Byte)
    {s : State} (h : s.BoardSafe) : (s.respond k f code data).BoardSafe := by
  unfold State.respond
  split
  · exact h.aside s.asc s.wck s.fcu s.tmu _ _
  · exact h.aside s.asc s.wck s.fcu s.tmu _ s.free

theorem control_boardSafe {k : Byte} {act : State → Answer} (hk : Controls k act) {s : State}
    (h : s.BoardSafe) : (act s).after.BoardSafe := by
  cases hk
  case start => exact takeStart_boardSafe h
  case pause => exact takePause_boardSafe h
  case resume => exact takeResume_boardSafe h
  case abort => exact takeAbort_boardSafe h
  case clear => exact takeClear_boardSafe h
  case snapshot => exact h.aside s.asc s.wck s.fcu s.tmu _ _

theorem noteSource_boardSafe (f : RxFrame) {s : State} (h : s.BoardSafe) :
    (s.noteSource f).BoardSafe := by
  unfold State.noteSource
  split
  · exact h.claim (b := s.bus) h.stages.1 h.stages.2.1
  · exact h

theorem anyFrame_boardSafe (k : Byte) (f : RxFrame) {s : State} (h : s.BoardSafe) :
    (anyFrame k f s).BoardSafe := by
  obtain ⟨deliver, hd, e⟩ := anyFrame_delivers k f
  rw [e]
  refine hear_of (P := State.BoardSafe) h ?_
  have hn := noteSource_boardSafe f h
  generalize s.noteSource f = x at hn ⊢
  have hdrop : x.dropRequest.BoardSafe := hn.aside x.asc x.wck x.fcu x.tmu _ x.free
  cases hd
  case beacon =>
    unfold State.takeBeacon
    split
    · have hheard := hearPeer_boardSafe f (Peer.takeBeacon f.payload) hn
      exact becomeSettled_boardSafe (hheard.aside (State.asc _) (State.wck _) (State.fcu _) _
        (State.bus _) (State.free _))
    · exact hn
  case intent =>
    unfold State.takeIntent
    split
    · exact hearPeer_boardSafe f _ hn
    · exact hn
  case commit =>
    unfold State.takeCommit
    split
    · exact hearPeer_boardSafe f _ hn
    · exact hn
  case control act hk =>
    have hact := control_boardSafe hk hn
    unfold State.controlRequest
    dsimp only
    (repeat' split)
    · exact hdrop
    · exact respond_boardSafe _ _ _ _ hn
    · exact respond_boardSafe _ _ _ _ hn
    · exact respond_boardSafe _ _ _ _ hact
    · exact hact
    · exact hn
  case read act hk =>
    unfold State.readRequest
    dsimp only
    (repeat' split)
    · exact hdrop
    · exact respond_boardSafe _ _ _ _ hn
    · rw [(hk _ x).1]
      exact respond_boardSafe _ _ _ _ hn
    · exact hn
  case other =>
    unfold State.takeOther State.unknownRequest
    (repeat' split)
    · exact hn
    · exact hdrop
    · exact respond_boardSafe _ _ _ _ hn
    · exact hn

theorem closeSwitch_boardSafe {s : State} (h : s.BoardSafe) : (closeSwitch s).BoardSafe := by
  unfold closeSwitch
  split
  · exact h
  · exact h.rcu s.wck rfl rfl rfl rfl rfl rfl rfl

theorem releaseSwitch_boardSafe {s : State} (h : s.BoardSafe) : (releaseSwitch s).BoardSafe := by
  have hopen : s.switchOpen.BoardSafe := h.rcu s.wck rfl rfl rfl rfl rfl rfl rfl
  cases hu : s.rcu.switchClosed with
  | none =>
    simp only [releaseSwitch, hu]
    exact h
  | some u =>
    rcases Nat.lt_or_ge (elapsed s.tmu.uptime u) 3000 with hms | hms
    · rw [releaseSwitch_short hu hms]
      exact takeStart_boardSafe hopen
    · rw [releaseSwitch_long hu hms]
      exact takeClear_boardSafe hopen

/-! ### The bus (R161 to R165) -/

theorem tryLoad_boardSafe {s : State} (h : s.BoardSafe) : s.tryLoad.BoardSafe := by
  unfold State.tryLoad
  split
  · next hl =>
    have hact : s.rcu.run.active = false := by rcases hl.2.2 with e | e <;> rw [e] <;> rfl
    exact ⟨h.outputs, h.boardOn, h.lanes, h.lines, ⟨h.stages.1, h.stages.2.1, h.stages.2.2.1,
      fun e => by cases hact.symm.trans e⟩, h.powerOn⟩
  · exact h

theorem completeAttempt_boardSafe {s : State} (h : s.BoardSafe) :
    (completeAttempt s).BoardSafe := by
  have hrecover {x : State} (hx : x.BoardSafe) : x.recover.BoardSafe := by
    simp only [State.recover]
    split
    · have hb := hx.aside x.asc x.wck x.fcu x.tmu { x.bus with isolated := false } x.free
      split
      · next hr => exact tryLoad_boardSafe (leaveIsolated_boardSafe hb hr)
      · exact tryLoad_boardSafe hb
    · exact hx
  simp only [completeAttempt]
  split
  · exact h
  · have hfreed (b : Bif) := h.aside s.asc s.wck s.fcu s.tmu b s.free
    split
    · exact hrecover (openWindow_boardSafe _ (hfreed _))
    · exact hrecover (hfreed _)

theorem bus_boardSafe {s : State} (h : s.BoardSafe) :
    (startAttempt s).BoardSafe ∧ (loseArbitration s).BoardSafe ∧ (abortAttempt s).BoardSafe ∧
      (beaconTimerExpires s).BoardSafe := by
  have hbus (b : Bif) : State.BoardSafe { s with bus := b } :=
    h.aside s.asc s.wck s.fcu s.tmu b s.free
  refine ⟨?_, ?_, ?_, ?_⟩
  · unfold startAttempt
    (repeat' split)
    · exact h
    · exact h
    · exact hbus _
  · unfold loseArbitration
    split
    · exact h
    · exact hbus _
  · unfold abortAttempt
    dsimp only
    (repeat' split)
    · exact h
    · exact hbus _
    · exact hbus _
    · exact hbus _
  · unfold beaconTimerExpires
    split
    · exact hbus _
    · exact h

theorem successTimerExpires_boardSafe {s : State} (h : s.BoardSafe) :
    (successTimerExpires s).BoardSafe := by
  unfold successTimerExpires
  split
  · exact enterIsolated_boardSafe _ _
  · exact h

/-! ### The millisecond boundary (R35, R152) -/

@[simp] theorem Rcu.tick_run (r : Rcu) : r.tick.run = r.run := by unfold Rcu.tick; split <;> rfl
@[simp] theorem Rcu.tick_step (r : Rcu) : r.tick.step = r.step := by unfold Rcu.tick; split <;> rfl
@[simp] theorem Rcu.tick_phase (r : Rcu) : r.tick.phase = r.phase := by
  unfold Rcu.tick; split <;> rfl
@[simp] theorem Rcu.tick_arrivalTaken (r : Rcu) : r.tick.arrivalTaken = r.arrivalTaken := by
  unfold Rcu.tick; split <;> rfl
@[simp] theorem Rcu.tick_powerOnPending (r : Rcu) : r.tick.powerOnPending = r.powerOnPending := by
  unfold Rcu.tick; split <;> rfl
@[simp] theorem Rcu.tick_blanking (r : Rcu) : r.tick.blanking = r.blanking := by
  unfold Rcu.tick; split <;> rfl
@[simp] theorem Rcu.tick_boardOn (r : Rcu) : r.tick.boardOn = r.boardOn := by
  unfold Rcu.tick; split <;> rfl
@[simp] theorem Line.tick_sup (paused : Bool) (l : Line) : (l.tick paused).sup = l.sup := by
  unfold Line.tick; split <;> rfl

theorem tick_sou_boardSafe {s : State} (h : s.BoardSafe) :
    State.BoardSafe { s with sou := s.sou.tick } := by
  refine h.sou rfl (fun hl ht => ?_) fun hact => ?_
  · exact (lt_min hl ht).trans_le (approach_between s.sou.level0 s.sou.target0 s.sou.slew).1
  · obtain ⟨h1, h2, h3, h4⟩ := h.outputs hact
    refine ⟨h1, ?_, h3, ?_⟩
    · show approach s.sou.level0 s.sou.target0 s.sou.slew = 0
      rw [h1, h2]
      rfl
    · show s.sou.pressTimer.tick = none
      rw [h4]
      rfl

theorem outputTicks_boardSafe {s : State} (h : s.BoardSafe) : (outputTicks s).BoardSafe := by
  have hsou := tick_sou_boardSafe h
  have hrcu : State.BoardSafe { s with sou := s.sou.tick, rcu := s.rcu.tick } :=
    hsou.rcu s.wck (Rcu.tick_run _) (Rcu.tick_step _) (Rcu.tick_phase _) (Rcu.tick_arrivalTaken _)
      (Rcu.tick_powerOnPending _) (Rcu.tick_blanking _) (Rcu.tick_boardOn _)
  have htick : s.tickTimers.BoardSafe := by
    refine ⟨hrcu.outputs, hrcu.boardOn, hrcu.lanes, fun i => ?_, hrcu.stages, hrcu.powerOn⟩
    have hi := hrcu.lines i
    simp only [State.tickTimers, Quad.get_map, Line.tick_sup]
    exact hi
  have hread : s.tickTimers.readIds.BoardSafe := by
    obtain ⟨f, k, m, n, e, -⟩ := readIds_spec s.tickTimers
    rw [e]
    exact ⟨htick.outputs, htick.boardOn, htick.lanes, htick.lines, htick.stages, htick.powerOn⟩
  simp only [outputTicks]
  split
  · next hl =>
    refine takeArrival_boardSafe hread ?_
    obtain ⟨f, k, m, n, e, -⟩ := readIds_spec s.tickTimers
    rw [e]
    exact of_decide_eq_true (Bool.and_eq_true_iff.mp hl).2
  · exact hread

/-! ### The step timers and the button (R13 to R18, R42) -/

/-- The power-on sequence in progress has had its arrival: the board is on. -/
theorem poweringOn_spec {s : State} (h : s.poweringOn = true) :
    (s.rcu.run = .running ∨ s.rcu.run = .paused) ∧
      (s.rcu.phase = .settling ∨ s.rcu.phase = .powering) ∧ s.rcu.powerOnPending = true ∧
      s.rcu.arrivalTaken = true := by
  simpa [State.poweringOn, and_assoc] using h

theorem pressExpires_boardSafe {s : State} (h : s.BoardSafe) : (pressExpires s).BoardSafe := by
  have hended {x : State} (hx : x.BoardSafe) : x.pressEnded.BoardSafe := by
    unfold State.pressEnded
    split
    · next hp =>
      obtain ⟨hr, hphase, hpend, ht⟩ := poweringOn_spec hp.1
      have hon := hx.powered hr hphase hpend ht
      split
      · exact powerOnComplete_boardSafe hx hr
      · next i _ =>
        split
        · exact powerOnComplete_boardSafe (startWait_boardSafe hx hon i) hr
        · exact startWait_boardSafe hx hon i
    · exact hx
  unfold pressExpires
  split
  · refine hended (h.sou rfl (fun hl _ => hl) fun hact => ?_)
    obtain ⟨h1, h2, -, -⟩ := h.outputs hact
    exact ⟨h1, h2, rfl, rfl⟩
  · exact h

/-- A step timer that is due runs in RUNNING (R21). -/
theorem stepTimerDue_running {t : Timer} {s : State} (h : s.stepTimerDue t = true) :
    s.rcu.run = .running := of_decide_eq_true (Bool.and_eq_true_iff.mp h).1

theorem durationExpires_boardSafe {s : State} (h : s.BoardSafe) :
    (durationExpires s).BoardSafe := by
  unfold durationExpires
  split
  · next hd =>
    obtain ⟨hi, -, hv⟩ := h.inStep (.inl (stepTimerDue_running hd))
    exact endStep_boardSafe hi hv
  · exact h

theorem reachExpires_boardSafe {s : State} (h : s.BoardSafe) : (reachExpires s).BoardSafe := by
  simp only [reachExpires]
  split
  · exact raise_boardSafe _ _ _ (h.rcu _ rfl rfl rfl rfl rfl rfl rfl)
  · exact h

theorem offExpires_boardSafe {s : State} (h : s.BoardSafe) : (offExpires s).BoardSafe := by
  unfold offExpires
  split
  · next hd => exact enterPowering_boardSafe h.stages (stepTimerDue_running hd)
  · exact h

theorem onExpires_boardSafe {s : State} (h : s.BoardSafe) : (onExpires s).BoardSafe := by
  unfold onExpires
  split
  · next hd =>
    split
    · exact endIteration_boardSafe (h.rcu s.wck rfl rfl rfl rfl rfl rfl rfl)
        (stepTimerDue_running hd)
    · exact h.rcu s.wck rfl rfl rfl rfl rfl rfl rfl
  · exact h

theorem blankingExpires_boardSafe {s : State} (h : s.BoardSafe) :
    (blankingExpires s).BoardSafe := by
  unfold blankingExpires
  split
  · exact clearBlanking_boardSafe h
  · exact h

theorem groupExpires_boardSafe {s : State} (h : s.BoardSafe) : (groupExpires s).BoardSafe := by
  unfold groupExpires
  (repeat' split)
  · exact h
  · exact writeInRun_boardSafe _ (h.aside s.asc s.wck _ s.tmu s.bus s.free)
  · exact h

/-! ### The supply's inputs (R43 to R45) -/

/-- The inputs of the Supply Output Unit and its output-limit timer touch none of the promises. -/
theorem State.BoardSafe.inputs {s : State} (h : s.BoardSafe) {u : Sou}
    (ht : u.target0 = s.sou.target0) (hl : u.level0 = s.sou.level0)
    (hp : u.pressed = s.sou.pressed) (hm : u.pressTimer = s.sou.pressTimer) :
    State.BoardSafe { s with sou := u } := by
  refine h.sou ht (fun h0 _ => hl ▸ h0) fun hact => ?_
  rw [ht, hl, hp, hm]
  exact h.outputs hact

theorem limitExpires_boardSafe {s : State} (h : s.BoardSafe) : (limitExpires s).BoardSafe := by
  unfold limitExpires
  split
  · exact raise_boardSafe _ _ _ (h.inputs rfl rfl rfl rfl)
  · exact h

theorem senseChanges_boardSafe (present : Bool) {s : State} (h : s.BoardSafe) :
    (senseChanges present s).BoardSafe := by
  have hsense : State.BoardSafe { s with sou := { s.sou with sensePresent := present } } :=
    h.inputs rfl rfl rfl rfl
  simp only [senseChanges]
  (repeat' split)
  · exact raise_boardSafe _ _ _ hsense
  · exact hsense.inputs (u := Sou.zero12 _) rfl rfl rfl rfl
  · exact hsense
  · exact hsense

/-! ### The scanner (Chapters 4 and 5) -/

theorem judgeOverdraw_boardSafe (seen : Asc) {s : State} (h : s.BoardSafe) :
    (s.judgeOverdraw seen).BoardSafe := by
  have hcount {g : Bgu} (hi : g.intent = s.bgu.intent) (hw : g.waitingSince = s.bgu.waitingSince) :
      State.BoardSafe { s with bgu := g } :=
    h.claim (b := s.bus) (hi ▸ h.stages.1) (hw ▸ h.stages.2.1)
  unfold State.judgeOverdraw
  (repeat' split)
  · exact hcount rfl rfl
  · exact raiseSeeing_boardSafe _ _ _ _ (hcount rfl rfl)
  · exact hcount rfl rfl
  · exact hcount rfl rfl

theorem completeScan_boardSafe (seen : Asc) (next : Uptime) {s : State} (h : s.BoardSafe) :
    (s.completeScan seen next).BoardSafe :=
  judgeOverdraw_boardSafe seen (h.aside _ s.wck s.fcu s.tmu s.bus s.free)

theorem beginScan_boardSafe (next : Uptime) {s : State} (h : s.BoardSafe) :
    (s.beginScan next).BoardSafe := by
  unfold State.beginScan
  split
  · exact h.aside _ s.wck s.fcu s.tmu s.bus s.free
  · exact completeScan_boardSafe _ _ h

theorem startScan_boardSafe {s : State} (h : s.BoardSafe) : (startScan s).BoardSafe := by
  unfold startScan
  (repeat' split)
  · exact beginScan_boardSafe _ h
  all_goals exact h

theorem windowSample_boardSafe (seen : Asc) (i : Fin 8) (y : Int) {s : State} (h : s.BoardSafe) :
    (s.windowSample seen i y).BoardSafe := by
  have hjudged (w : Wck) : State.BoardSafe { s with wck := w } :=
    h.aside s.asc w s.fcu s.tmu s.bus s.free
  simp only [State.windowSample]
  split
  · split
    · exact raiseSeeing_boardSafe _ _ _ _ (hjudged _)
    · exact hjudged _
  · exact h

theorem reachSample_boardSafe (i : Fin 8) (y : Int) {s : State} (h : s.BoardSafe) :
    (s.reachSample i y).BoardSafe := by
  unfold State.reachSample
  (repeat' split)
  · exact h
  · exact reachMet_boardSafe (h.aside s.asc _ s.fcu s.tmu s.bus s.free)
  · exact h

theorem takeSample_boardSafe (seen : Asc) (i : Fin 8) (y : Int) {s : State} (h : s.BoardSafe) :
    (s.takeSample seen i y).BoardSafe := by
  have hfree := h.aside s.asc s.wck s.fcu s.tmu s.bus (s.free + 1)
  simp only [State.takeSample]
  (repeat' split)
  · exact windowSample_boardSafe _ _ _ (reachSample_boardSafe _ _ hfree)
  · exact reachSample_boardSafe _ _ (windowSample_boardSafe _ _ _ hfree)
  · exact windowSample_boardSafe _ _ _ h

theorem completeConversion_boardSafe (uv : Int) {s : State} (h : s.BoardSafe) :
    (completeConversion uv s).BoardSafe := by
  simp only [completeConversion]
  split
  · have hsample (seen a : Asc) (i : Fin 8) (y : Int) :=
      takeSample_boardSafe seen i y (h.aside a s.wck s.fcu s.tmu s.bus (s.free + 1))
    split
    · exact State.BoardSafe.aside (hsample _ _ _ _) _ (State.wck _) (State.fcu _) (State.tmu _)
        (State.bus _) (State.free _)
    · exact completeScan_boardSafe _ _ (hsample _ _ _ _)
  · exact h
  · exact h

/-! ### The fixture and its load (Chapter 11) -/

/-- Outside an active run the configuration's status is free, and lines may take their first states. -/
theorem State.BoardSafe.unloaded {s : State} (h : s.BoardSafe) (hact : s.rcu.run.active = false)
    (c : Cfl) (a : Asc) {l : Quad Line}
    (hl : ∀ i, (l.get i).sup.allowed false false) :
    State.BoardSafe { s with cfl := c, asc := a, lines := l } := by
  have hon := (h.inactive hact).2.2
  refine ⟨h.outputs, h.boardOn, h.lanes, fun i => ?_, ⟨h.stages.1, h.stages.2.1, h.stages.2.2.1,
    fun e => by cases hact.symm.trans e⟩, fun hr => ?_⟩
  · simp only [State.supervising, hon]
    exact hl i
  · exact absurd hact (by rcases hr with e | e <;> simp only at e <;> rw [e] <;> decide)

theorem Role.first_allowed (r : Role) : r.first.allowed false false := by
  cases r <;> simp [Role.first, Supervision.allowed]

/-- In an active run the configuration is VALID, so a load finds none (R177). -/
theorem State.BoardSafe.notActive {s : State} (h : s.BoardSafe) (hv : s.cfl.status ≠ .valid) :
    s.rcu.run.active = false := by
  by_contra hact
  exact hv (h.stages.2.2.2 (by simpa using hact))

theorem State.BoardSafe.linesOff {s : State} (h : s.BoardSafe) (hact : s.rcu.run.active = false)
    (i : Fin 4) : (s.lines.get i).sup.allowed false false := by
  have hi := h.lines i
  simpa only [State.supervising, (h.inactive hact).2.2, Bool.false_and] using hi

theorem failLoad_boardSafe (r : Reason) (b : List Byte) {s : State} (h : s.BoardSafe)
    (hl : s.cfl.status = .loading) : ((s.takeIds b).failLoad r).BoardSafe := by
  have hact := h.notActive (by simp [hl])
  obtain ⟨m, n, e⟩ := takeIds_spec b s
  rw [e]
  exact h.unloaded hact _ s.asc (h.linesOff hact)

theorem loadCompletes_boardSafe (answered : Nat) {s : State} (h : s.BoardSafe) :
    (loadCompletes answered s).BoardSafe := by
  simp only [loadCompletes]
  split
  · next hl =>
    split
    · exact failLoad_boardSafe _ _ h hl
    · obtain ⟨m, n, e⟩ := takeIds_spec (s.cfl.bytesRead answered) s
      rw [e, completeLoad_eq]
      refine beginScan_boardSafe _ (h.unloaded (h.notActive (by simp [hl])) _ _ fun i => ?_)
      rw [Quad.get_mapIdx]
      exact Role.first_allowed _
  · exact h

theorem loadStops_boardSafe (answered : Nat) {s : State} (h : s.BoardSafe) :
    (loadTimerExpires answered s).BoardSafe ∧ (memorySilent answered s).BoardSafe := by
  unfold loadTimerExpires memorySilent loadStops
  refine ⟨?_, ?_⟩
  · split
    · next hl => exact failLoad_boardSafe _ _ h hl.1
    · exact h
  · split
    · next hl => exact failLoad_boardSafe _ _ h hl
    · exact h

/-- A raise of a kind that forces ABORT ends an active run (R27). -/
theorem raise_abort_run {kind : FaultKind} (hk : kind.forced = some .abort) (points : List Nat)
    (value : Int) {s : State} (h : s.rcu.run.active = true) :
    (s.raise kind points value).rcu.run = .ended := by
  simp only [State.raise, State.raiseSeeing, h, if_true, State.policyOf, hk, Option.getD_some]
  rfl

theorem fixtureChanges_boardSafe (x : Option (List Byte)) {s : State} (h : s.BoardSafe) :
    (fixtureChanges x s).BoardSafe := by
  have hline (c : Cfl) (hc : c.status = s.cfl.status) (hg : c.config = s.cfl.config) :
      State.BoardSafe { s with cfl := c } := by
    refine ⟨h.outputs, h.boardOn, h.lanes, h.lines, ⟨h.stages.1, h.stages.2.1, h.stages.2.2.1,
      fun e => hc.trans (h.stages.2.2.2 e)⟩, ?_⟩
    have := h.powerOn
    simp only [State.powerOnRight, State.theStep, State.stepAt, State.cfg] at this ⊢
    rwa [hg]
  unfold fixtureChanges
  split
  case h_1 => exact hline _ rfl rfl
  case h_2 => exact hline _ rfl rfl
  case h_3 =>
    unfold State.removeFixture State.unloadFixture
    dsimp only
    split
    · next hact =>
      refine (raise_boardSafe .fixtureRemoved [] _ h).unloaded ?_ _ _ fun i => ?_
      · rw [raise_abort_run rfl _ _ hact]
        rfl
      · rw [Quad.get_map]
        trivial
    · next hact =>
      refine h.unloaded (by simpa using hact) _ _ fun i => ?_
      rw [Quad.get_map]
      trivial
  all_goals exact h

theorem debounceExpires_boardSafe {s : State} (h : s.BoardSafe) :
    (debounceExpires s).BoardSafe := by
  unfold debounceExpires
  split
  · exact tryLoad_boardSafe ⟨h.outputs, h.boardOn, h.lanes, h.lines, h.stages, h.powerOn⟩
  · exact h

/-! ### The lanes (Chapter 6) -/

/-- A lane out of OFF stands on a board that is on, so it may go to any lock state. -/
theorem State.BoardSafe.laneOn {s : State} (h : s.BoardSafe) {i : Fin 4} {l : Lane}
    (hl : l.lock ≠ .off → (s.lanes.get i).lock ≠ .off) : (s.setLane i l).BoardSafe :=
  h.setLane fun hne => h.lanes i (hl hne)

theorem setCounter_lock (k : ErrorKind) (e : ErrorCounter) (l : Lane) :
    (l.setCounter k e).lock = l.lock := by cases k <;> rfl

theorem countError_boardSafe (i : Fin 4) (k : ErrorKind) {s : State} (h : s.BoardSafe) :
    (s.countError i k).BoardSafe := by
  have hcounter {x : State} (hx : x.BoardSafe) (e : ErrorCounter) :
      (x.setLane i ((x.lanes.get i).setCounter k e)).BoardSafe :=
    hx.laneOn fun hne => by rwa [setCounter_lock] at hne
  simp only [State.countError]
  split
  · have hraised (e : ErrorCounter) (v : Int) :
        (if (s.setLane i ((s.lanes.get i).setCounter k e)).laneRaises i then
          (s.setLane i ((s.lanes.get i).setCounter k e)).raise .laneErrors [8 + i.val] v
        else s.setLane i ((s.lanes.get i).setCounter k e)).BoardSafe := by
      split
      · exact raise_boardSafe _ _ _ (hcounter h e)
      · exact hcounter h e
    split
    · exact hcounter (hraised _ _) _
    · exact hraised _ _
  · exact hcounter h _

theorem countIf_boardSafe (b : Bool) (i : Fin 4) (k : ErrorKind) {s : State} (h : s.BoardSafe) :
    (s.countIf b i k).BoardSafe := by
  unfold State.countIf
  split
  · exact countError_boardSafe i k h
  · exact h

theorem loseLock_boardSafe (i : Fin 4) {s : State} (h : s.BoardSafe) :
    (s.loseLock i).BoardSafe := by
  have hlost (n : Nat) : (s.setLane i { s.lanes.get i with lockLosses := n }).BoardSafe :=
    h.laneOn id
  simp only [State.loseLock]
  split
  · exact raise_boardSafe _ _ _ (hlost _)
  · exact hlost _

theorem changeLock_boardSafe (i : Fin 4) {before : Lock} (dest : Lock) (hb : before ≠ .off)
    {s : State} (h : s.BoardSafe) : (s.changeLock i before dest).BoardSafe := by
  simp only [State.changeLock]
  split
  · next he =>
    have hentered : (s.setLane i ((s.lanes.get i).enter dest)).BoardSafe :=
      h.laneOn fun _ => he ▸ hb
    split
    · exact loseLock_boardSafe i hentered
    · exact hentered
  · exact h

theorem receive_lock (g : CodeGroup) (l : Lane) : (l.receive g).lock = l.lock := by
  unfold Lane.receive
  cases h : l.lock <;> simp [h]

theorem groupArrives_boardSafe (i : Fin 4) (g : CodeGroup) {s : State} (h : s.BoardSafe) :
    (groupArrives i g s).BoardSafe := by
  simp only [groupArrives]
  split
  · exact h
  · next hoff =>
    have hcounted := countIf_boardSafe ((s.lanes.get i).errs .mark g) i .mark
      (countIf_boardSafe ((s.lanes.get i).errs .code g) i .code
        (countIf_boardSafe ((s.lanes.get i).errs .sign g) i .sign
          (h.laneOn (i := i) (l := (s.lanes.get i).receive g) fun _ => hoff)))
    split
    · exact hcounted
    · exact changeLock_boardSafe i _ hoff hcounted

/-! ### The watch lines (Chapter 7) -/

theorem raiseLine_boardSafe (i : Fin 4) (kind : FaultKind) (value : Int) {s : State}
    (h : s.BoardSafe) : (s.raiseLine i kind value).BoardSafe := by
  unfold State.raiseLine
  split
  · exact raise_boardSafe _ _ _ h
  · exact h

theorem waitEnded_boardSafe {s : State} (h : s.BoardSafe) : s.waitEnded.BoardSafe := by
  unfold State.waitEnded
  split
  · next hp => exact powerOnComplete_boardSafe h (poweringOn_spec hp).1
  · exact h

theorem superviseRise_boardSafe (i : Fin 4) {s : State} (h : s.BoardSafe) :
    (s.superviseRise i).BoardSafe := by
  have hi := h.lines i
  simp only [State.superviseRise]
  split <;> rename_i hsup <;> rw [hsup] at hi
  case h_3 => exact h.setLine (by simpa [hsup] using hi)
  case h_4 => exact h.setLine (by simpa [Supervision.allowed] using hi)
  case h_6 => exact h.setLine (by simpa [hsup] using hi)
  case h_8 => exact waitEnded_boardSafe (h.setLine fun hon => by cases hi hon)
  case h_10 => exact h.setLine fun hon => by cases hi hon
  case h_12 => exact h.setLine fun _ => rfl
  all_goals exact h

theorem superviseFall_boardSafe (i : Fin 4) {s : State} (h : s.BoardSafe) :
    (s.superviseFall i).BoardSafe := by
  have hi := h.lines i
  simp only [State.superviseFall]
  split <;> rename_i hsup <;> rw [hsup] at hi
  case h_6 =>
    exact raiseLine_boardSafe _ _ _ (h.setLine fun hon => by cases hi hon)
  case h_9 =>
    split
    · next hsv =>
      exact raiseLine_boardSafe _ _ _ (h.setLine fun hf => by cases hsv.symm.trans hf)
    · exact h
  all_goals exact h

/-- An edge is stamped whatever the supervision (R123). -/
theorem edge_sup (rising : Bool) (rack : RackTime) (now : Uptime) (l : Line) :
    (l.edge rising rack now).sup = l.sup := by
  unfold Line.edge
  split <;> rfl

theorem lineEdge_boardSafe (i : Fin 4) (rising : Bool) {s : State} (h : s.BoardSafe) :
    (lineEdge i rising s).BoardSafe := by
  have hedge : (s.setLine i ((s.lines.get i).edge rising s.tmu.rack s.tmu.uptime)).BoardSafe :=
    h.setLine (by rw [edge_sup]; exact h.lines i)
  simp only [lineEdge]
  (repeat' split)
  · exact h
  · exact superviseRise_boardSafe i hedge
  · exact superviseFall_boardSafe i hedge

theorem heartbeatExpires_boardSafe (i : Fin 4) {s : State} (h : s.BoardSafe) :
    (heartbeatExpires i s).BoardSafe := by
  have hi := h.lines i
  simp only [heartbeatExpires]
  split
  · next hh =>
    rw [hh.1] at hi
    exact raiseLine_boardSafe _ _ _ (h.setLine (by simpa [Supervision.allowed] using hi))
  · exact h

theorem rateWindowExpires_boardSafe (i : Fin 4) {s : State} (h : s.BoardSafe) :
    (rateWindowExpires i s).BoardSafe := by
  have hi := h.lines i
  simp only [rateWindowExpires]
  split
  case h_1 hsup =>
    rw [hsup] at hi
    (repeat' split)
    · exact raiseLine_boardSafe _ _ _ (h.setLine hi)
    · exact h.setLine hi
    · exact h
  all_goals exact h

theorem powerGoodExpires_boardSafe {s : State} (h : s.BoardSafe) :
    (powerGoodExpires s).BoardSafe := by
  simp only [powerGoodExpires]
  split
  · exact h
  · next i _ =>
    split
    · next hw =>
      have hi := h.lines i
      rw [hw.1] at hi
      exact waitEnded_boardSafe (raiseLine_boardSafe _ _ _ (h.setLine fun hon => by cases hi hon))
    · exact h

/-! ### The resets and every command -/

/-- The station that a reset holds keeps every promise (R175). -/
theorem reset_boardSafe {s : State} (hr : s.rcu.run = .idle) (hon : s.rcu.boardOn = false)
    (hs : s.sou.target0 = 0 ∧ s.sou.level0 = 0 ∧ s.sou.pressed = false ∧ s.sou.pressTimer = none)
    (hi : s.bgu.intent = none) (hw : s.bgu.waitingSince = none)
    (hlanes : ∀ i, (s.lanes.get i).lock = .off) (hlines : ∀ i, (s.lines.get i).sup = .unused) :
    s.BoardSafe where
  outputs _ := hs
  boardOn := by simp [State.boardOnRight, State.boardOnNow, hon, hr, RunState.active]
  lanes i hne := absurd (hlanes i) hne
  lines i := by rw [hlines i]; trivial
  stages := by simp [State.stagesRight, hi, hw, hr, RunState.active]
  powerOn := by simp [State.powerOnRight, hr]

theorem holdInReset_boardSafe (s : State) : (holdInReset s).BoardSafe :=
  reset_boardSafe rfl rfl ⟨rfl, rfl, rfl, rfl⟩ rfl rfl
    (fun i => by simp [holdInReset, State.reset, Lane.reset])
    (fun i => by simp [holdInReset, Line.reset])

theorem endReset_boardSafe (slot : BitVec 5) (code : BitVec 4) {s : State} (h : s.BoardSafe) :
    (endReset slot code s).BoardSafe :=
  tryLoad_boardSafe ⟨h.outputs, h.boardOn, h.lanes, h.lines, h.stages, h.powerOn⟩

/-- Settles O56: each command by the operation that it is. -/
theorem everyCommandKeepsTheBoardSafe : Obligations.EveryCommandKeepsTheBoardSafe := by
  intro c s t h hexec
  have hlive {f : State → State} (he : s.live f = .next t) (hf : (f s).BoardSafe) :
      t.BoardSafe := live_of he h fun _ => hf
  cases hf : frameOf c with
  | some kf => exact hlive ((exec_of_frameOf hf).symm.trans hexec) (anyFrame_boardSafe kf.1 kf.2 h)
  | none =>
    cases c with
    | powerOnReset | rackReset =>
      cases hexec
      exact holdInReset_boardSafe s
    | resetEnd slot code => exact ite_next_of hexec (fun _ => endReset_boardSafe slot code h) fun _ => h
    | attemptStart => exact hlive hexec (bus_boardSafe h).1
    | arbitrationLoss => exact hlive hexec (bus_boardSafe h).2.1
    | busError => exact hlive hexec (bus_boardSafe h).2.2.1
    | beaconTimerExpiry => exact hlive hexec (bus_boardSafe h).2.2.2
    | transmitComplete => exact hlive hexec (completeAttempt_boardSafe h)
    | transmitSuccessTimerExpiry => exact hlive hexec (successTimerExpires_boardSafe h)
    | outputTick => exact hlive hexec (outputTicks_boardSafe h)
    | pressTimerExpiry => exact hlive hexec (pressExpires_boardSafe h)
    | powerGoodWaitExpiry => exact hlive hexec (powerGoodExpires_boardSafe h)
    | durationTimerExpiry => exact hlive hexec (durationExpires_boardSafe h)
    | reachTimerExpiry => exact hlive hexec (reachExpires_boardSafe h)
    | offTimerExpiry => exact hlive hexec (offExpires_boardSafe h)
    | onTimerExpiry => exact hlive hexec (onExpires_boardSafe h)
    | blankingTimerExpiry => exact hlive hexec (blankingExpires_boardSafe h)
    | outputLimitInputChange asserted =>
      cases hexec
      exact h.inputs (u := Sou.syncLimit _) rfl rfl rfl rfl
    | outputLimitTimerExpiry => exact hlive hexec (limitExpires_boardSafe h)
    | supplySenseChange present =>
      exact ite_next_of hexec (fun _ => h.inputs rfl rfl rfl rfl)
        fun _ => senseChanges_boardSafe present h
    | startSwitchClose =>
      exact ite_next_of hexec (fun _ => h.rcu s.wck rfl rfl rfl rfl rfl rfl rfl)
        fun _ => closeSwitch_boardSafe h
    | startSwitchRelease =>
      exact ite_next_of hexec (fun _ => h.rcu s.wck rfl rfl rfl rfl rfl rfl rfl)
        fun _ => releaseSwitch_boardSafe h
    | scanStart => exact hlive hexec (startScan_boardSafe h)
    | conversionCompletion uv => exact hlive hexec (completeConversion_boardSafe uv h)
    | codeGroupArrival i p => exact hlive hexec (groupArrives_boardSafe i (groupOf p) h)
    | watchLineEdge i rising =>
      exact ite_next_of hexec (fun _ => h.setLine (i := i) (h.lines i))
        fun _ => lineEdge_boardSafe i rising h
    | heartbeatIntervalExpiry i => exact hlive hexec (heartbeatExpires_boardSafe i h)
    | rateWindowExpiry i => exact hlive hexec (rateWindowExpires_boardSafe i h)
    | claimWindowExpiry => exact hlive hexec (windowExpires_boardSafe h)
    | retryIntervalExpiry => exact hlive hexec (retryExpires_boardSafe h)
    | waitingLimitReached => exact hlive hexec (waitingLimit_boardSafe h)
    | listeningIntervalEnd =>
      refine hlive hexec ?_
      unfold listeningEnds
      split
      · exact promoteIntent_boardSafe h
      · exact h
    | peerEntryStale slot => exact hlive hexec (h.peers _)
    | peerEntryRemoval slot => exact hlive hexec (peerRemoved_boardSafe slot h)
    | peerIntentLifetimeExpiry slot => exact hlive hexec (h.peers _)
    | settleTimerExpiry =>
      refine hlive hexec ?_
      unfold settleExpires
      split
      · exact becomeSettled_boardSafe (h.aside s.asc s.wck s.fcu _ s.bus s.free)
      · exact h
    | fixturePresentChange x =>
      refine ite_next_of hexec (fun _ => ?_) fun _ => fixtureChanges_boardSafe x h
      cases x <;> exact ⟨h.outputs, h.boardOn, h.lanes, h.lines, h.stages, h.powerOn⟩
    | fixtureDebounceExpiry => exact hlive hexec (debounceExpires_boardSafe h)
    | loadCompletion answered => exact hlive hexec (loadCompletes_boardSafe answered h)
    | loadTimerExpiry answered => exact hlive hexec (loadStops_boardSafe answered h).1
    | memoryNoResponse answered => exact hlive hexec (loadStops_boardSafe answered h).2
    | closeTimerExpiry => exact hlive hexec (groupExpires_boardSafe h)
    | rackTimeAdvance =>
      refine hlive hexec ?_
      rw [rackAdvances_eq]
      exact h.aside s.asc s.wck s.fcu _ s.bus s.free
    -- The receptions, each of which has a frame.
    | _ => cases hf

/-- Settles O60. -/
theorem resetStateKeepsEveryPromise : Obligations.ResetStateKeepsEveryPromise := by
  have hk := holdInReset_keeps State.reset
  refine ⟨reset_boardSafe rfl rfl ⟨rfl, rfl, rfl, rfl⟩ rfl rfl
      (fun i => by simp [State.reset, Lane.reset]) (fun i => by simp [State.reset, Line.reset]),
    holdInReset_logOrdered .reset, ⟨Nat.zero_le 8, Nat.zero_le 4⟩, ⟨trivial, fun _ => rfl⟩,
    holdInReset_rackTimeRight .reset, holdInReset_claimsBounded .reset, fun _ => ⟨rfl, rfl⟩, rfl, rfl⟩

end Sys2Proof.Machine
end

section
/-! SUPPORT. A run that goes on or has released its claim: what a run end and entry to ISOLATED
release, and that every operation that finds an active run leaves it active or has released it. After
them the statement on leaving a run. -/

namespace Sys2Proof.Machine

/-! ### The released state -/

/-- What a run that is over has released (R65, R66): the claim, OUT0, the board and the lanes. -/
structure State.Released (s : State) : Prop where
  inactive : s.rcu.run.active = false
  claim : s.bgu.committed = 0 ∧ s.bgu.intent = none ∧ s.bgu.window = none ∧ s.bgu.waitingSince = none
  out0 : s.sou.target0 = 0 ∧ s.sou.level0 = 0 ∧ s.sou.pressed = false
  board : s.rcu.boardOn = false
  lanes : ∀ i, (s.lanes.get i).lock = .off

/-- The run goes on, or what it held is released. -/
def State.OnOrReleased (s : State) : Prop := s.rcu.run.active = true ∨ s.Released

/-- A run that goes on or is released does so after a change of nothing that it holds. -/
theorem State.OnOrReleased.of {s t : State} (h : s.OnOrReleased)
    (hrcu : t.rcu.run = s.rcu.run ∧ t.rcu.boardOn = s.rcu.boardOn)
    (hsou : t.sou.target0 = s.sou.target0 ∧ t.sou.level0 = s.sou.level0 ∧
      t.sou.pressed = s.sou.pressed)
    (hbgu : t.bgu.committed = s.bgu.committed ∧ t.bgu.intent = s.bgu.intent ∧
      t.bgu.window = s.bgu.window ∧ t.bgu.waitingSince = s.bgu.waitingSince)
    (hlanes : ∀ i, (t.lanes.get i).lock = (s.lanes.get i).lock) : t.OnOrReleased := by
  obtain ⟨hrun, hboard⟩ := hrcu
  rcases h with h | h
  · exact .inl (hrun ▸ h)
  · exact .inr
      { inactive := by rw [hrun, h.inactive]
        claim := by simpa only [hbgu] using h.claim
        out0 := by simpa only [hsou] using h.out0
        board := hboard.trans h.board
        lanes := fun i => (hlanes i).trans (h.lanes i) }

/-- A change of the log, the lines, the scanner, the outbox and the fixture is none of what a run
holds. -/
theorem State.OnOrReleased.aside {s : State} (h : s.OnOrReleased) (w : Wck) (l : Quad Line) (a : Asc)
    (f : Fcu) (b : Bif) (c : Cfl) (u : Tmu) (n : Nat) :
    State.OnOrReleased { s with
      wck := w, lines := l, asc := a, fcu := f, bus := b, cfl := c, tmu := u, free := n } :=
  h.of ⟨rfl, rfl⟩ ⟨rfl, rfl, rfl⟩ ⟨rfl, rfl, rfl, rfl⟩ fun _ => rfl

theorem runEnd_released (v : Verdict) (c : EndCause) (s : State) : (s.runEnd v c).Released := by
  obtain ⟨o, b, bn, ns, nd, lanes, lines, e, -, -, hlanes, -⟩ := runEnd_spec v c s
  obtain ⟨htarget, hlevel, hpressed, -⟩ := runEnd_outputs s.cfg c s.sou
  rw [e]
  exact ⟨rfl, ⟨rfl, rfl, rfl, rfl⟩, ⟨htarget, hlevel, hpressed⟩, rfl,
    fun i => by rw [hlanes i]; exact sync_off _ _⟩

theorem enterIsolated_released (ms : Nat) (s : State) : (s.enterIsolated ms).Released := by
  obtain ⟨f, bus, lanes, lines, e, -, -, -, -, hlanes⟩ := enterIsolated_spec ms s
  rw [e]
  exact ⟨rfl, ⟨rfl, rfl, rfl, rfl⟩, ⟨rfl, rfl, rfl⟩, rfl, hlanes⟩

theorem holdInReset_released (s : State) : (holdInReset s).Released :=
  ⟨rfl, ⟨rfl, rfl, rfl, rfl⟩, ⟨rfl, rfl, rfl⟩, rfl,
    fun i => by simp [holdInReset, State.reset, Lane.reset]⟩

theorem finishCompletion_released (s : State) : s.finishCompletion.Released := by
  unfold State.finishCompletion
  (repeat' split) <;> exact runEnd_released ..

/-! ### Steps and raises of an active run -/

theorem StepKept.on {r : RunState} {s t : State} (h : StepKept r s t) (hr : r.active = true) :
    t.OnOrReleased := .inl (h.run ▸ hr)

/-- The end of a step enters the next one or ends the run (R19), whatever the run was. -/
theorem endStep_onOrReleased (s : State) : s.endStep.OnOrReleased := by
  unfold State.endStep
  dsimp only
  split
  · exact .inr (finishCompletion_released _)
  · obtain ⟨r, hr, hkept⟩ := enterStep_kept (s.rcu.step + 1)
      { s with
        rcu := s.rcu.stopTimers.dropHeld
        wck := { s.wck with reach := none }
        lines := s.lines.map (Line.abandonWait s.tmu.uptime) }
    exact hkept.on hr

theorem endIteration_onOrReleased {s : State} (h : s.rcu.run.active = true) :
    s.endIteration.OnOrReleased := by
  unfold State.endIteration
  split
  · exact (enterOff_kept _).on h
  · exact endStep_onOrReleased s

theorem powerOnComplete_onOrReleased {s : State} (h : s.rcu.run.active = true) :
    s.powerOnComplete.OnOrReleased := by
  have hadv : s.advancePhase.rcu.run.active = true := (advancePhase_kept s).run ▸ h
  unfold State.powerOnComplete
  split
  · exact .inl h
  · dsimp only
    split
    · exact endIteration_onOrReleased hadv
    · exact .inl hadv

theorem writeRecord_onOrReleased (r : Record) {s : State} (h : s.OnOrReleased) :
    (s.writeRecord r).OnOrReleased := by
  obtain ⟨f, n, d, e⟩ := writeRecord_logOnly r s
  rw [e]
  exact h.aside _ _ _ _ _ _ _ _

theorem writeInRun_onOrReleased (r : Record) {s : State} (h : s.OnOrReleased) :
    (s.writeInRun r).OnOrReleased := by
  unfold State.writeInRun
  dsimp only
  split
  · exact .inr (runEnd_released _ _ _)
  · exact writeRecord_onOrReleased r h

theorem captureRaise_onOrReleased (r : Record) {s : State} (h : s.OnOrReleased) :
    (s.captureRaise r).OnOrReleased := by
  unfold State.captureRaise
  split
  · exact writeInRun_onOrReleased r h
  · exact h.aside s.wck s.lines s.asc _ s.bus s.cfl s.tmu s.free

/-- A raise leaves an active run active or ends it, and is discarded without one (R26, R27, R136). -/
theorem raiseSeeing_onOrReleased (asc : Asc) (kind : FaultKind) (points : List Nat) (value : Int)
    {s : State} (h : s.OnOrReleased) : (s.raiseSeeing asc kind points value).OnOrReleased := by
  unfold State.raiseSeeing
  split
  case isFalse => exact h
  case isTrue hact =>
    dsimp only
    split
    · refine captureRaise_onOrReleased _ (.inl ?_)
      unfold State.goOnAction
      split <;> exact hact
    · split
      · exact .inr (finishCompletion_released _)
      · exact captureRaise_onOrReleased _ (endStep_onOrReleased _)
    · exact .inr (runEnd_released _ _ _)
    · exact .inr (runEnd_released _ _ _)

theorem raise_onOrReleased (kind : FaultKind) (points : List Nat) (value : Int) {s : State}
    (h : s.OnOrReleased) : (s.raise kind points value).OnOrReleased :=
  raiseSeeing_onOrReleased s.asc kind points value h

/-! ### Lanes and lines -/

theorem State.OnOrReleased.setLine {s : State} (h : s.OnOrReleased) (i : Fin 4) (l : Line) :
    (s.setLine i l).OnOrReleased := h.aside s.wck _ s.asc s.fcu s.bus s.cfl s.tmu s.free

/-- A lane replaced by one in the same lock state is none of what a run holds. -/
theorem State.OnOrReleased.setLane {s : State} (h : s.OnOrReleased) {i : Fin 4} {l : Lane}
    (hl : l.lock = (s.lanes.get i).lock) : (s.setLane i l).OnOrReleased := by
  refine h.of ⟨rfl, rfl⟩ ⟨rfl, rfl, rfl⟩ ⟨rfl, rfl, rfl, rfl⟩ fun j => ?_
  by_cases hj : j = i
  · subst hj
    rw [← hl]
    exact congrArg Lane.lock (Quad.get_set_self s.lanes l j)
  · exact congrArg Lane.lock (Quad.get_set_of_ne s.lanes l hj)

theorem countIf_onOrReleased (b : Bool) (i : Fin 4) (k : ErrorKind) {s : State}
    (h : s.OnOrReleased) : (s.countIf b i k).OnOrReleased := by
  have hraised (t : State) (ht : t.OnOrReleased) (v : Int) : State.OnOrReleased
      (if t.laneRaises i then t.raise .laneErrors [8 + i.val] v else t) := by
    split
    · exact raise_onOrReleased _ _ _ ht
    · exact ht
  unfold State.countIf State.countError
  dsimp only
  split
  · split
    · have hset := hraised _ (h.setLane (i := i) (setCounter_lock k
        ⟨(((s.lanes.get i).counter k).bump (s.cfg.errorClass k).roll).1.count, true⟩ (s.lanes.get i)))
        (s.cfg.errorClass k).threshold
      split
      · exact hset.setLane (setCounter_lock ..)
      · exact hset
    · exact h.setLane (setCounter_lock ..)
  · exact h

theorem loseLock_onOrReleased (i : Fin 4) {s : State} (h : s.OnOrReleased) :
    (s.loseLock i).OnOrReleased := by
  have hset : (s.setLane i { s.lanes.get i with
      lockLosses := satInc 65535 (s.lanes.get i).lockLosses }).OnOrReleased := h.setLane rfl
  unfold State.loseLock
  dsimp only
  split
  · exact raise_onOrReleased _ _ _ hset
  · exact hset

/-- A lane that a run end has switched off stays OFF (R109). -/
theorem changeLock_onOrReleased (i : Fin 4) {before : Lock} (hb : before ≠ .off) (dest : Lock)
    {s : State} (h : s.OnOrReleased) : (s.changeLock i before dest).OnOrReleased := by
  unfold State.changeLock
  dsimp only
  split
  case isFalse => exact h
  case isTrue hlock =>
    rcases h with h | h
    · split
      · exact loseLock_onOrReleased i (.inl h)
      · exact .inl h
    · exact absurd (hlock.symm.trans (h.lanes i)) hb

theorem groupArrives_onOrReleased (i : Fin 4) (g : CodeGroup) {s : State} (h : s.OnOrReleased) :
    (groupArrives i g s).OnOrReleased := by
  unfold groupArrives
  dsimp only
  split
  case isTrue => exact h
  case isFalse hoff =>
    have hcounted := countIf_onOrReleased ((s.lanes.get i).errs .mark g) i .mark
      (countIf_onOrReleased ((s.lanes.get i).errs .code g) i .code
        (countIf_onOrReleased ((s.lanes.get i).errs .sign g) i .sign
          (h.setLane (receive_lock g (s.lanes.get i)))))
    split
    · exact hcounted
    · exact changeLock_onOrReleased i hoff _ hcounted

theorem raiseLine_onOrReleased (i : Fin 4) (kind : FaultKind) (value : Int) {s : State}
    (h : s.OnOrReleased) : (s.raiseLine i kind value).OnOrReleased := by
  unfold State.raiseLine
  split
  · exact raise_onOrReleased _ _ _ h
  · exact h

theorem waitEnded_onOrReleased {s : State} (h : s.OnOrReleased) : s.waitEnded.OnOrReleased := by
  unfold State.waitEnded
  split
  case isTrue hp =>
    obtain ⟨hrun, -⟩ := poweringOn_spec hp
    refine powerOnComplete_onOrReleased ?_
    rcases hrun with hrun | hrun <;> rw [hrun] <;> rfl
  case isFalse => exact h

theorem lineEdge_onOrReleased (i : Fin 4) (rising : Bool) {s : State} (h : s.OnOrReleased) :
    (lineEdge i rising s).OnOrReleased := by
  unfold lineEdge
  dsimp only
  split
  case isTrue => exact h
  case isFalse =>
    have hedge := h.setLine i ((s.lines.get i).edge rising s.tmu.rack s.tmu.uptime)
    generalize s.setLine i _ = x at hedge ⊢
    split
    · unfold State.superviseRise
      dsimp only
      split
      case h_8 => exact waitEnded_onOrReleased (hedge.setLine _ _)
      case h_3 | h_4 | h_6 | h_10 | h_12 => exact hedge.setLine _ _
      all_goals exact hedge
    · unfold State.superviseFall
      dsimp only
      (repeat' split)
      case h_6 => exact raiseLine_onOrReleased _ _ _ (hedge.setLine _ _)
      case h_9.isTrue => exact raiseLine_onOrReleased _ _ _ (hedge.setLine _ _)
      all_goals exact hedge

theorem rateWindowExpires_onOrReleased (i : Fin 4) {s : State} (h : s.OnOrReleased) :
    (rateWindowExpires i s).OnOrReleased := by
  unfold rateWindowExpires
  dsimp only
  (repeat' split)
  case h_1.isTrue.isTrue => exact raiseLine_onOrReleased _ _ _ (h.setLine _ _)
  case h_1.isTrue.isFalse => exact h.setLine _ _
  all_goals exact h

theorem powerGoodExpires_onOrReleased {s : State} (h : s.OnOrReleased) :
    (powerGoodExpires s).OnOrReleased := by
  unfold powerGoodExpires
  split
  · exact h
  · dsimp only
    split
    · exact waitEnded_onOrReleased (raiseLine_onOrReleased _ _ _ (h.setLine _ _))
    · exact h

/-! ### The claim and the peer view -/

theorem promoteIntent_onOrReleased {s : State} (h : s.rcu.run.active = true) :
    s.promoteIntent.OnOrReleased := by
  obtain ⟨i, b, bn, e, -⟩ := promoteIntent_spec s
  exact e ▸ .inl h

theorem beginRetry_onOrReleased (s : State) : s.beginRetry.OnOrReleased :=
  (askClaim_kept _ _).on rfl

theorem retryCause_onOrReleased {s : State} (h : s.rcu.run.active = true) :
    s.retryCause.OnOrReleased := by
  unfold State.retryCause
  split
  · exact beginRetry_onOrReleased s
  · exact .inl h

theorem windowExpires_onOrReleased {s : State} (h : s.rcu.run.active = true) :
    (windowExpires s).OnOrReleased := by
  unfold windowExpires
  (repeat' split)
  case h_1.isTrue.isTrue w time _ _ _ =>
    obtain ⟨b, bn, e⟩ := commitClaim_spec w { s with bgu := { s.bgu with
      intent := none, window := none, accumulator := 0, refusals := 0 } }
    simp only [State.commitWindow, e]
    split
    · exact (startStep_kept _).on rfl
    · exact .inl h
  case h_1.isTrue.isFalse => exact .inl rfl
  all_goals exact .inl h

theorem hearPeer_onOrReleased (f : RxFrame) (act : Peer → Peer) {s : State}
    (h : s.rcu.run.active = true) : (s.hearPeer f act).OnOrReleased := by
  unfold State.hearPeer
  dsimp only
  (repeat' split)
  · exact retryCause_onOrReleased h
  · exact .inl h
  · exact .inl h

theorem becomeSettled_onOrReleased {s : State} (h : s.OnOrReleased) :
    s.becomeSettled.OnOrReleased := by
  unfold State.becomeSettled
  split
  · exact h
  · rcases h with h | h
    · exact promoteIntent_onOrReleased h
    · have hnone : s.bgu.intent = none := h.claim.2.1
      rw [(promoteIntent_spec _).choose_spec.choose_spec.choose_spec.2 (.inl (by simp [hnone]))]
      exact .inr ⟨h.inactive, h.claim, h.out0, h.board, h.lanes⟩

/-! ### Receptions -/

theorem reachMet_onOrReleased {s : State} (h : s.OnOrReleased) : s.reachMet.OnOrReleased := by
  unfold State.reachMet
  (repeat' split)
  · exact h.of ⟨rfl, rfl⟩ ⟨rfl, rfl, rfl⟩ ⟨rfl, rfl, rfl, rfl⟩ fun _ => rfl
  · exact h.of ⟨rfl, rfl⟩ ⟨rfl, rfl, rfl⟩ ⟨rfl, rfl, rfl, rfl⟩ fun _ => rfl
  · exact h

/-- A RESUME commands its targets, and then acts on what the pause held (R22). -/
theorem resumeRun_onOrReleased (s : State) : s.resumeRun.OnOrReleased := by
  have hpower {t : State} (ht : t.rcu.run.active = true) : t.resumePowerOn.OnOrReleased := by
    unfold State.resumePowerOn
    split
    · exact powerOnComplete_onOrReleased ht
    · exact .inl ht
  have hreach {t : State} (ht : t.OnOrReleased) : t.resumeReach.OnOrReleased := by
    unfold State.resumeReach
    split
    · exact reachMet_onOrReleased (ht.of ⟨rfl, rfl⟩ ⟨rfl, rfl, rfl⟩ ⟨rfl, rfl, rfl, rfl⟩ fun _ => rfl)
    · exact ht
  refine hreach (hpower ?_)
  rw [(commandLanding_kept _).run]
  rfl

theorem control_onOrReleased {k : Byte} {act : State → Answer} (hk : Controls k act) {s : State}
    (h : s.rcu.run.active = true) : (act s).after.OnOrReleased := by
  cases hk
  case start =>
    rw [takeStart_after_of_ne_idle (by rintro e; rw [e] at h; cases h)]
    exact .inl h
  case pause =>
    unfold State.takePause
    split
    case h_1 => exact .inl rfl
    all_goals exact .inl h
  case resume =>
    unfold State.takeResume
    split
    case h_1 => exact resumeRun_onOrReleased s
    all_goals exact .inl h
  case abort =>
    unfold State.takeAbort
    rw [if_pos h]
    exact .inr (runEnd_released _ _ _)
  case clear =>
    rw [takeClear_after_of_ne_ended (by rintro e; rw [e] at h; cases h)]
    exact .inl h
  case snapshot =>
    obtain ⟨store, n, -, e⟩ := takeSnapshot_spec s
    exact e ▸ .inl h

theorem respond_onOrReleased (k : Byte) (f : RxFrame) (c : ResponseCode) (d : List Byte) {s : State}
    (h : s.OnOrReleased) : (s.respond k f c d).OnOrReleased := by
  unfold State.respond
  split <;> exact h.aside s.wck s.lines s.asc s.fcu _ s.cfl s.tmu _

theorem anyFrame_onOrReleased (k : Byte) (f : RxFrame) {s : State} (h : s.rcu.run.active = true) :
    (anyFrame k f s).OnOrReleased := by
  obtain ⟨deliver, hd, e⟩ := anyFrame_delivers k f
  rw [e]
  refine hear_of (P := State.OnOrReleased) (.inl h) ?_
  have hn : (s.noteSource f).rcu.run.active = true := by
    unfold State.noteSource
    split <;> exact h
  generalize s.noteSource f = x at hn ⊢
  have hx : x.OnOrReleased := .inl hn
  have hdrop : x.dropRequest.OnOrReleased := .inl hn
  cases hd
  case beacon =>
    unfold State.takeBeacon
    split
    · exact becomeSettled_onOrReleased ((hearPeer_onOrReleased f _ hn).aside (State.wck _)
        (State.lines _) (State.asc _) (State.fcu _) (State.bus _) (State.cfl _) _ (State.free _))
    · exact hx
  case intent =>
    unfold State.takeIntent
    split
    · exact hearPeer_onOrReleased f _ hn
    · exact hx
  case commit =>
    unfold State.takeCommit
    split
    · exact hearPeer_onOrReleased f _ hn
    · exact hx
  case control act hk =>
    have hact := control_onOrReleased hk hn
    unfold State.controlRequest
    dsimp only
    (repeat' split)
    · exact hdrop
    · exact respond_onOrReleased _ _ _ _ hx
    · exact respond_onOrReleased _ _ _ _ hx
    · exact respond_onOrReleased _ _ _ _ hact
    · exact hact
    · exact hx
  case read act hk =>
    unfold State.readRequest
    dsimp only
    (repeat' split)
    · exact hdrop
    · exact respond_onOrReleased _ _ _ _ hx
    · rw [(hk _ x).1]
      exact respond_onOrReleased _ _ _ _ hx
    · exact hx
  case other =>
    unfold State.takeOther State.unknownRequest
    (repeat' split)
    · exact hx
    · exact hdrop
    · exact respond_onOrReleased _ _ _ _ hx
    · exact hx

/-! ### Scans, timers and every command -/

theorem takeSample_onOrReleased (seen : Asc) (i : Fin 8) (y : Int) {s : State} (h : s.OnOrReleased) :
    (s.takeSample seen i y).OnOrReleased := by
  have hwindow {t : State} (ht : t.OnOrReleased) : (t.windowSample seen i y).OnOrReleased := by
    have hset (q : Oct Window) :=
      ht.aside { t.wck with points := q } t.lines t.asc t.fcu t.bus t.cfl t.tmu t.free
    unfold State.windowSample
    dsimp only
    (repeat' split)
    · exact raiseSeeing_onOrReleased _ _ _ _ (hset _)
    · exact raiseSeeing_onOrReleased _ _ _ _ (hset _)
    · exact hset _
    · exact ht
  have hreach {t : State} (ht : t.OnOrReleased) : (t.reachSample i y).OnOrReleased := by
    unfold State.reachSample
    (repeat' split)
    · exact ht
    · exact reachMet_onOrReleased (ht.aside _ t.lines t.asc t.fcu t.bus t.cfl t.tmu t.free)
    · exact ht
  have hfree := h.aside s.wck s.lines s.asc s.fcu s.bus s.cfl s.tmu (s.free + 1)
  unfold State.takeSample
  dsimp only
  (repeat' split)
  · exact hwindow (hreach hfree)
  · exact hreach (hwindow hfree)
  · exact hwindow h

theorem completeScan_onOrReleased (seen : Asc) (next : Uptime) {s : State} (h : s.OnOrReleased) :
    (s.completeScan seen next).OnOrReleased := by
  have hcount {t : State} (ht : t.OnOrReleased) (n e : Nat) : State.OnOrReleased
      { t with bgu := { t.bgu with overdrawSamples := n, overdrawEpisodes := e } } :=
    ht.of ⟨rfl, rfl⟩ ⟨rfl, rfl, rfl⟩ ⟨rfl, rfl, rfl, rfl⟩ fun _ => rfl
  have hpower := h.aside s.wck s.lines
    { s.asc with scanner := .between next, power := boardPower (s.asc.points.get 0).y (s.asc.points.get 1).y }
    s.fcu s.bus s.cfl s.tmu s.free
  unfold State.completeScan State.judgeOverdraw
  dsimp only
  (repeat' split)
  · exact hcount hpower 0 _
  · exact raiseSeeing_onOrReleased _ _ _ _ (hcount hpower 0 _)
  · exact hcount hpower _ _
  · exact hcount hpower 0 _

theorem completeConversion_onOrReleased (uv : Int) {s : State} (h : s.OnOrReleased) :
    (completeConversion uv s).OnOrReleased := by
  unfold completeConversion
  split
  case h_1 =>
    dsimp only
    split
    · exact (takeSample_onOrReleased _ _ _ (h.aside s.wck s.lines _ s.fcu s.bus s.cfl s.tmu _)).aside
        (State.wck _) (State.lines _) _ (State.fcu _) (State.bus _) (State.cfl _) (State.tmu _) (State.free _)
    · exact completeScan_onOrReleased _ _
        (takeSample_onOrReleased _ _ _ (h.aside s.wck s.lines _ s.fcu s.bus s.cfl s.tmu _))
  all_goals exact h

theorem beginScan_onOrReleased (next : Uptime) {s : State} (h : s.OnOrReleased) :
    (s.beginScan next).OnOrReleased := by
  unfold State.beginScan
  split
  · exact h.aside s.wck s.lines _ s.fcu s.bus s.cfl s.tmu s.free
  · exact completeScan_onOrReleased _ _ h

theorem startScan_onOrReleased {s : State} (h : s.OnOrReleased) : (startScan s).OnOrReleased := by
  unfold startScan
  (repeat' split)
  · exact beginScan_onOrReleased _ h
  all_goals exact h

theorem tryLoad_rcu (s : State) : s.tryLoad.rcu = s.rcu := by
  unfold State.tryLoad
  split <;> rfl

theorem completeAttempt_onOrReleased {s : State} (h : s.rcu.run.active = true) :
    (completeAttempt s).OnOrReleased := by
  have hopen (a : RackTime) (t : State) : (t.openWindow a).rcu = t.rcu := by
    unfold State.openWindow
    split <;> rfl
  have hrecover {t : State} (ht : t.rcu.run.active = true) : t.recover.OnOrReleased := by
    unfold State.recover
    split
    · refine .inl ((congrArg (fun r => RunState.active (Rcu.run r)) (tryLoad_rcu _)).trans ?_)
      rw [if_neg (by rintro e; rw [show t.rcu.run = .isolated from e] at ht; cases ht)]
      exact ht
    · exact .inl ht
  unfold completeAttempt
  split
  · exact .inl h
  · dsimp only
    refine hrecover ?_
    split
    · rw [hopen]
      exact h
    · exact h

theorem pressExpires_onOrReleased {s : State} (h : s.rcu.run.active = true) :
    (pressExpires s).OnOrReleased := by
  unfold pressExpires State.pressEnded
  dsimp only
  (repeat' split)
  · exact powerOnComplete_onOrReleased h
  · exact powerOnComplete_onOrReleased h
  all_goals exact .inl h

theorem outputTicks_onOrReleased {s : State} (h : s.rcu.run.active = true) :
    (outputTicks s).OnOrReleased := by
  obtain ⟨f, k, m, n, e, -⟩ := readIds_spec s.tickTimers
  have hrun : s.tickTimers.readIds.rcu.run.active = true := by
    rw [e]
    exact (congrArg RunState.active (Rcu.tick_run s.rcu)).trans h
  unfold outputTicks
  dsimp only
  split
  · exact (takeArrival_kept _).on hrun
  · exact .inl hrun

/-- In an active run a press of the start switch is ignored (R25). -/
theorem releaseSwitch_onOrReleased {s : State} (h : s.rcu.run.active = true) :
    (releaseSwitch s).OnOrReleased := by
  unfold releaseSwitch
  split
  · exact .inl h
  · next u _ =>
    have hidle : s.rcu.run ≠ .idle := by rintro e; rw [e] at h; cases h
    have hended : s.rcu.run ≠ .ended := by rintro e; rw [e] at h; cases h
    simp only [State.judgeStart, hidle, hended, ne_eq, not_false_eq_true, if_true, if_false,
      reduceCtorEq, ite_self]
    exact .inl h

theorem loadStops_onOrReleased (b : List Byte) {s : State} (h : s.OnOrReleased) :
    (loadStops b s).OnOrReleased := by
  obtain ⟨m, n, e⟩ := takeIds_spec b s
  rw [loadStops, e]
  exact h.aside s.wck s.lines s.asc s.fcu s.bus _ s.tmu s.free

theorem loadCompletes_onOrReleased (answered : Nat) {s : State} (h : s.OnOrReleased) :
    (loadCompletes answered s).OnOrReleased := by
  obtain ⟨m, n, e⟩ := takeIds_spec (s.cfl.bytesRead answered) s
  unfold loadCompletes
  simp only [e]
  (repeat' split)
  · exact h.aside s.wck s.lines s.asc s.fcu s.bus _ s.tmu s.free
  · exact beginScan_onOrReleased _ (h.aside s.wck _ _ s.fcu s.bus _ s.tmu s.free)
  · exact h

theorem fixtureChanges_onOrReleased (x : Option (List Byte)) {s : State} (h : s.OnOrReleased) :
    (fixtureChanges x s).OnOrReleased := by
  have hunload {t : State} (ht : t.OnOrReleased) : t.unloadFixture.OnOrReleased :=
    ht.aside t.wck _ _ t.fcu t.bus _ t.tmu t.free
  unfold fixtureChanges
  split
  case h_3 =>
    unfold State.removeFixture
    dsimp only
    split
    · exact hunload (raise_onOrReleased _ _ _ h)
    · exact hunload h
  case h_1 | h_2 => exact h.aside s.wck s.lines s.asc s.fcu s.bus _ s.tmu s.free
  all_goals exact h

/-- A command finds an active run, and leaves it active or released. -/
theorem exec_onOrReleased {c : Instr} {s t : State} (h : s.rcu.run.active = true)
    (hexec : exec c s = .next t) : t.OnOrReleased := by
  have hon : s.OnOrReleased := .inl h
  have hlive {f : State → State} (he : s.live f = .next t) (hf : (f s).OnOrReleased) :
      t.OnOrReleased := live_of he hon fun _ => hf
  cases hf : frameOf c with
  | some kf => exact hlive ((exec_of_frameOf hf).symm.trans hexec) (anyFrame_onOrReleased kf.1 kf.2 h)
  | none =>
    cases c with
    | powerOnReset | rackReset =>
      cases hexec
      exact .inr (holdInReset_released s)
    | resetEnd slot code =>
      refine ite_next_of hexec (fun _ => .inl ?_) fun _ => hon
      rw [show (endReset slot code s).rcu = s.rcu from tryLoad_rcu _]
      exact h
    | attemptStart =>
      refine hlive hexec (.inl ?_)
      unfold startAttempt
      (repeat' split) <;> exact h
    | arbitrationLoss =>
      refine hlive hexec (.inl ?_)
      unfold loseArbitration
      split <;> exact h
    | busError =>
      refine hlive hexec (.inl ?_)
      unfold abortAttempt
      dsimp only
      (repeat' split) <;> exact h
    | beaconTimerExpiry =>
      refine hlive hexec (.inl ?_)
      unfold beaconTimerExpires
      split <;> exact h
    | transmitComplete => exact hlive hexec (completeAttempt_onOrReleased h)
    | transmitSuccessTimerExpiry =>
      refine hlive hexec ?_
      unfold successTimerExpires
      split
      · exact .inr (enterIsolated_released _ _)
      · exact hon
    | outputTick => exact hlive hexec (outputTicks_onOrReleased h)
    | pressTimerExpiry => exact hlive hexec (pressExpires_onOrReleased h)
    | powerGoodWaitExpiry => exact hlive hexec (powerGoodExpires_onOrReleased hon)
    | durationTimerExpiry =>
      refine hlive hexec ?_
      unfold durationExpires
      split
      · exact endStep_onOrReleased s
      · exact hon
    | reachTimerExpiry =>
      refine hlive hexec ?_
      unfold reachExpires
      split
      · exact raise_onOrReleased _ _ _ (.inl h)
      · exact hon
    | offTimerExpiry =>
      refine hlive hexec ?_
      unfold offExpires
      split
      · exact (commandLanding_kept _).on h
      · exact hon
    | onTimerExpiry =>
      refine hlive hexec ?_
      unfold onExpires
      (repeat' split)
      · exact endIteration_onOrReleased h
      · exact .inl h
      · exact hon
    | blankingTimerExpiry =>
      refine hlive hexec ?_
      unfold blankingExpires
      split <;> exact .inl h
    | outputLimitInputChange asserted =>
      cases hexec
      exact .inl h
    | outputLimitTimerExpiry =>
      refine hlive hexec ?_
      unfold limitExpires
      split
      · exact raise_onOrReleased _ _ _ (.inl h)
      · exact hon
    | supplySenseChange present =>
      refine ite_next_of hexec (fun _ => .inl h) fun _ => ?_
      unfold senseChanges
      dsimp only
      (repeat' split)
      · exact raise_onOrReleased _ _ _ (.inl h)
      all_goals exact .inl h
    | startSwitchClose =>
      refine ite_next_of hexec (fun _ => .inl h) fun _ => ?_
      unfold closeSwitch
      split <;> exact .inl h
    | startSwitchRelease =>
      refine ite_next_of hexec (fun _ => .inl h) fun _ => ?_
      exact releaseSwitch_onOrReleased h
    | scanStart => exact hlive hexec (startScan_onOrReleased hon)
    | conversionCompletion uv => exact hlive hexec (completeConversion_onOrReleased uv hon)
    | codeGroupArrival i p => exact hlive hexec (groupArrives_onOrReleased i (groupOf p) hon)
    | watchLineEdge i rising =>
      exact ite_next_of hexec (fun _ => hon.setLine _ _) fun _ => lineEdge_onOrReleased i rising hon
    | heartbeatIntervalExpiry i =>
      refine hlive hexec ?_
      unfold heartbeatExpires
      dsimp only
      split
      · exact raiseLine_onOrReleased _ _ _ (hon.setLine _ _)
      · exact hon
    | rateWindowExpiry i => exact hlive hexec (rateWindowExpires_onOrReleased i hon)
    | claimWindowExpiry => exact hlive hexec (windowExpires_onOrReleased h)
    | retryIntervalExpiry =>
      refine hlive hexec ?_
      unfold retryExpires
      (repeat' split)
      · exact hon
      · exact beginRetry_onOrReleased s
      · exact hon
    | waitingLimitReached =>
      refine hlive hexec ?_
      unfold waitingLimit
      split
      · exact raise_onOrReleased _ _ _ hon
      · exact hon
    | listeningIntervalEnd =>
      refine hlive hexec ?_
      unfold listeningEnds
      split
      · exact promoteIntent_onOrReleased h
      · exact hon
    | peerEntryStale slot | peerIntentLifetimeExpiry slot => exact hlive hexec (.inl h)
    | peerEntryRemoval slot =>
      refine hlive hexec ?_
      unfold peerRemoved
      split
      · exact retryCause_onOrReleased h
      · exact hon
    | settleTimerExpiry =>
      refine hlive hexec ?_
      unfold settleExpires
      split
      · exact becomeSettled_onOrReleased (.inl h)
      · exact hon
    | fixturePresentChange x =>
      exact ite_next_of hexec (fun _ => .inl h) fun _ => fixtureChanges_onOrReleased x hon
    | fixtureDebounceExpiry =>
      refine hlive hexec ?_
      unfold debounceExpires
      split
      · exact .inl ((congrArg (fun r => RunState.active (Rcu.run r)) (tryLoad_rcu _)).trans h)
      · exact hon
    | loadCompletion answered => exact hlive hexec (loadCompletes_onOrReleased answered hon)
    | loadTimerExpiry answered =>
      refine hlive hexec ?_
      unfold loadTimerExpires
      split
      · exact loadStops_onOrReleased _ hon
      · exact hon
    | memoryNoResponse answered =>
      refine hlive hexec ?_
      unfold memorySilent
      split
      · exact loadStops_onOrReleased _ hon
      · exact hon
    | closeTimerExpiry =>
      refine hlive hexec ?_
      unfold groupExpires
      (repeat' split)
      · exact hon
      · exact writeInRun_onOrReleased _ (.inl h)
      · exact hon
    | rackTimeAdvance =>
      refine hlive hexec ?_
      rw [rackAdvances_eq]
      exact hon.aside s.wck s.lines s.asc s.fcu s.bus s.cfl _ s.free
    -- The receptions, each of which has a frame.
    | _ => cases hf

/-- Settles O59: a run that a command leaves is no longer active, and so released. -/
theorem leavingARunReleasesTheClaim : Obligations.LeavingARunReleasesTheClaim := by
  intro c s t hactive hexec hleft
  rcases exec_onOrReleased hactive hexec with hon | hr
  · rw [hleft] at hon
    cases hon
  · obtain ⟨hclaim, hintent, hwindow, hwaiting⟩ := hr.claim
    obtain ⟨htarget, hlevel, hpressed⟩ := hr.out0
    exact ⟨hclaim, hintent, hwindow, hwaiting, htarget, hlevel, hpressed, hr.board, hr.lanes⟩

end Sys2Proof.Machine
end

section
/-! SUPPORT. The step and the resets as equations, and the requests by the step of R167 at which each
is decided: taken, broadcast, or turned away. After them the statements on the resets, on requests
and on ABORT, and the order of START's refusals. -/

namespace Sys2Proof.Machine

/-! ### The step and the resets (R175, R183) -/

/-- Settles O2. -/
theorem stepRunsTheFrontCommand : Obligations.StepRunsTheFrontCommand := by
  refine fun c rest s => ⟨fun h => ?_, fun h => ?_⟩ <;> unfold step <;> rw [h]

/-- No block acts while a reset holds the station (R175). -/
theorem live_held {s : State} (h : s.inReset = true) (f : State → State) : s.live f = .next s :=
  if_pos h

/-- Settles O3: the commands that it excepts are the ones that do not ask whether a reset holds the
station. -/
theorem heldStationDoesNotAct : Obligations.HeldStationDoesNotAct := by
  intro c s h
  cases c
  case powerOnReset | rackReset | resetEnd | outputLimitInputChange | supplySenseChange |
    startSwitchClose | startSwitchRelease | watchLineEdge | fixturePresentChange => trivial
  all_goals exact live_held h _

theorem holdInReset_fixture (s : State) : (holdInReset s).cfl.fixture =
    if s.cfl.fixture = .absent then .absent else .present := by
  by_cases h : s.cfl.fixture = .absent <;> simp [holdInReset, Cfl.reset, h]

/-- Settles O4. -/
theorem eitherResetSetsEveryTableValue : Obligations.EitherResetSetsEveryTableValue := by
  intro s
  refine ⟨holdInReset s, rfl, rfl, rfl, ?_, ?_, ?_, ⟨rfl, rfl, fun i => Oct.get_fill _ i⟩,
    ⟨rfl, fun i => Oct.get_fill _ i⟩, fun i => Quad.get_fill _ i, fun i => Quad.get_map _ _ i,
    rfl, rfl, ?_, ⟨fun i => ⟨Quad.get_fill _ i, Quad.get_fill _ i⟩, fun i => Oct.get_fill _ i, rfl, rfl⟩,
    rfl, rfl, rfl, rfl, rfl, rfl, rfl, rfl, holdInReset_fixture s⟩
  all_goals simp [holdInReset, State.reset, Rcu.reset, Sou.reset, Bgu.reset, Bif.reset, State.sources, Cfl.reset]

/-- A load that finds its three conditions starts (R177). -/
theorem tryLoad_of_present {s : State} (hf : s.cfl.fixture = .present) (hs : s.cfl.status = .absent)
    (hr : s.rcu.run = .idle ∨ s.rcu.run = .ended) : s.tryLoad = s.startLoad := if_pos ⟨hf, hs, hr⟩

theorem tryLoad_of_not_present {s : State} (hf : s.cfl.fixture ≠ .present) : s.tryLoad = s :=
  if_neg fun h => hf h.1

/-- With no attempt under way a BEACON stands in its class (R163). -/
theorem queueBeacon_idle {b : Bif} (h : b.attempt = none) :
    b.queueBeacon = { b with beacon := some ⟨(), 0⟩ } := by
  simp [Bif.queueBeacon, Bif.attempting, h]

/-- Settles O5, by whether the fixture-present line reads present. -/
theorem resetEndStartsTheStation : Obligations.ResetEndStartsTheStation := by
  intro slot code s hheld hattempt hstatus hidle
  have hexec : exec (.resetEnd slot code) s = .next (endReset slot code s) := if_pos hheld
  have hbus : (s.woken slot code).bus = { s.bus with beacon := some ⟨(), 0⟩, beaconTimer := 250 } := by
    simp only [State.woken, queueBeacon_idle hattempt]
  rw [hexec, endReset_eq]
  by_cases hf : s.cfl.fixture = .present
  · rw [tryLoad_of_present (s := s.woken slot code) hf hstatus (.inl hidle)]
    exact ⟨_, rfl, rfl, rfl, rfl, rfl, hbus, fun _ => rfl, fun h => absurd hf h, rfl, rfl, rfl, rfl,
      rfl, rfl, rfl, rfl⟩
  · rw [tryLoad_of_not_present (s := s.woken slot code) hf]
    exact ⟨_, rfl, rfl, rfl, rfl, rfl, hbus, fun h => absurd h hf, fun _ => ⟨rfl, rfl⟩, rfl, rfl, rfl,
      rfl, rfl, rfl, rfl, rfl⟩

/-! ### Control requests that are taken (R167) -/

/-- A frame of a control request's kind is handled as R167 handles that request. -/
theorem anyFrame_control {k : Byte} {act : State → Answer} (hc : Controls k act) (f : RxFrame) :
    anyFrame k f = State.hear k f (State.controlRequest k f act) := by
  cases hc <;> rfl

/-- The kinds from 20h to 25h are control requests. -/
theorem controls_of_mem {k : Byte} (hk : k ∈ [(0x20 : Byte), 0x21, 0x22, 0x23, 0x24, 0x25]) :
    ∃ act, Controls k act := by
  simp only [List.mem_cons, List.not_mem_nil, or_false] at hk
  rcases hk with rfl | rfl | rfl | rfl | rfl | rfl
  · exact ⟨_, .start⟩
  · exact ⟨_, .pause⟩
  · exact ⟨_, .resume⟩
  · exact ⟨_, .abort⟩
  · exact ⟨_, .clear⟩
  · exact ⟨_, .snapshot⟩

/-- No control request is answered with data (R169). -/
theorem control_data {k : Byte} {act : State → Answer} (hc : Controls k act) (s : State) :
    (act s).data = [] := by
  cases hc
  case start => unfold State.takeStart; split <;> rfl
  case pause => unfold State.takePause; split <;> rfl
  case resume => unfold State.takeResume; split <;> rfl
  case abort => unfold State.takeAbort; split <;> rfl
  case clear => unfold State.takeClear; split <;> rfl
  case snapshot => rfl

/-- A control request that is taken acts, and its code is answered (R167, R169). -/
theorem exec_taken {c : Instr} {k : Byte} {f : RxFrame} {act : State → Answer} {s : State}
    (hf : frameOf c = some (k, f)) (hc : Controls k act) (h : s.takesControl k f = true) :
    exec c s = .next ((act s).after.answered k f (act s).code.code) := by
  obtain ⟨hlive, hact⟩ := takesControl_spec h
  rw [exec_of_frameOf hf, live_next hlive, anyFrame_control hc, hact, control_data hc]
  rfl

/-- A broadcast control request that is taken acts, and is not answered (R167). -/
theorem exec_broadcast {c : Instr} {k : Byte} {f : RxFrame} {act : State → Answer} {s : State}
    (hf : frameOf c = some (k, f)) (hc : Controls k act) (h : s.takesBroadcast k f = true) :
    exec c s = .next (act s).after := by
  obtain ⟨hlive, hact⟩ := takesBroadcast_spec h
  rw [exec_of_frameOf hf, live_next hlive, anyFrame_control hc, hact]

/-! ### The refusals of START (R20) -/

theorem takeStart_refused {s : State} {c : ResponseCode} (h : s.judgeStart = c) (hc : c ≠ .ok) :
    s.takeStart = ⟨s, c, []⟩ := by
  unfold State.takeStart
  rw [if_neg (h ▸ hc), h]

/-- Settles O7: the judgement of START in its order. -/
theorem startIsRefusedInOrder : Obligations.StartIsRefusedInOrder := by
  intro f s h
  have hrefused {c : ResponseCode} (hj : s.judgeStart = c) (hc : c ≠ .ok) :
      exec (.start f) s = .next (s.answered 0x20 f c.code) := by
    rw [exec_taken (c := .start f) rfl .start h, takeStart_refused hj hc]
    rfl
  refine ⟨fun hrun => ?_, fun hrun hslot => ?_, fun hrun hslot hready => ?_⟩
  · exact hrefused (c := .wrongState) (by simp [State.judgeStart, hrun]) (by decide)
  · exact hrefused (c := .slotConflict) (by simp [State.judgeStart, hrun, hslot]) (by decide)
  · exact hrefused (c := .notReady) (by simp [State.judgeStart, hrun, hslot, hready]) (by decide)

/-! ### ABORT (R23) -/

theorem takeAbort_of_active {s : State} (h : s.rcu.run.active = true) :
    s.takeAbort = ⟨s.abortRun, .ok, []⟩ := if_pos h

theorem takeAbort_of_inactive {s : State} (h : s.rcu.run.active = false) :
    s.takeAbort = ⟨s, .ok, []⟩ := if_neg (by simp [h])

/-- ABORT of an active run: the open groups are written, and the run ends with OUT1 and OUT2 at their
safe sources (R23, R28, R145). -/
theorem abortRun_spec (s : State) : RunEnded .aborted .requested s s.abortRun ∧
    s.abortRun.fcu.recordCount = s.fcu.recordCount + s.fcu.groups.length ∧
    s.abortRun.sou = s.sou.runEnd s.cfg .requested ∧ s.abortRun.bus.responses = s.bus.responses := by
  obtain ⟨⟨fcu, ns, nd, hlog⟩, hcount, hgroups, -⟩ := finalClosing_spec .ending s
  unfold State.abortRun
  rw [hlog] at hcount hgroups ⊢
  have hended := runEnd_ended (v := .aborted) (c := .requested) (s := s) hgroups ⟨rfl, rfl, rfl⟩ rfl rfl
  obtain ⟨o, b, bn, ns', nd', lanes, lines, he, -⟩ := runEnd_spec .aborted .requested
    { s with fcu := fcu, bus := { s.bus with notices := ns, noticeDrops := nd } }
  rw [he] at hended ⊢
  exact ⟨hended, hcount, rfl, rfl⟩

/-- Settles O10, by whether a run is active. -/
theorem abortEndsTheRun : Obligations.AbortEndsTheRun := by
  refine ⟨fun f s h hactive => ?_, fun f s h hinactive => ?_⟩
  · obtain ⟨hended, hcount, hsou, hresponses⟩ := abortRun_spec s
    obtain ⟨z1, h1, v1, z2, h2, v2⟩ := (runEnd_safe s.cfg .requested s.sou).2 (by decide)
    refine ⟨_, exec_taken (c := .abort f) rfl .abort h, ?_⟩
    rw [takeAbort_of_active hactive]
    refine ⟨{ hended with }, hcount, ?_, ?_, ?_, ?_, ?_, ?_, ?_⟩
    all_goals simp only [State.answered, hsou, hresponses]
    · exact z1
    · exact fun hv => ⟨(v1 hv).1, (v1 hv).2.trans (v1 hv).1.symm⟩
    · exact fun hh hle => by
        have := Nat.min_eq_left (show s.sou.level1 ≤ limit1 s.cfg from hle)
        exact ⟨(h1 hh).1.trans this, (h1 hh).2.trans this⟩
    · exact z2
    · exact fun hv => ⟨(v2 hv).1, (v2 hv).2.trans (v2 hv).1.symm⟩
    · exact fun hh hle => ⟨(h2 hh).1.trans (Nat.min_eq_left hle), (h2 hh).2.trans (Nat.min_eq_left hle)⟩
    · rfl
  · rw [exec_taken (c := .abort f) rfl .abort h, takeAbort_of_inactive hinactive]
    rfl

/-! ### Broadcast requests (R167, R169) -/

theorem takePause_of_running {s : State} (h : s.rcu.run = .running) :
    s.takePause = ⟨s.pauseRun, .ok, []⟩ := by simp [State.takePause, h]

theorem takeResume_of_paused {s : State} (h : s.rcu.run = .paused) :
    s.takeResume = ⟨s.resumeRun, .ok, []⟩ := by simp [State.takeResume, h]

theorem finishCompletion_run (s : State) : s.finishCompletion.rcu.run = .ended := by
  unfold State.finishCompletion
  (repeat' split)
  all_goals
    obtain ⟨o, b, bn, ns, nd, lanes, lines, e, -⟩ := runEnd_spec _ _ s
    exact congrArg (fun t : State => t.rcu.run) e

/-- The end of a step leaves no pause behind (R19, R26). -/
theorem endStep_run_ne_paused (s : State) : s.endStep.rcu.run ≠ .paused := by
  unfold State.endStep
  dsimp only
  split
  · rw [State.completeRun, finishCompletion_run]
    decide
  · unfold State.enterStep
    dsimp only
    (repeat' split)
    · rw [(askClaim_kept _ _).run]
      exact fun e => nomatch e
    all_goals
      rw [(startStep_kept _).run]
      decide

/-- RESUME leaves PAUSED, whatever it finds held (R22). -/
theorem resumeRun_run_ne_paused (s : State) : s.resumeRun.rcu.run ≠ .paused := by
  have hpower {t : State} (ht : t.rcu.run = .running) : t.resumePowerOn.rcu.run ≠ .paused := by
    have hadv (u : State) (hu : u.rcu.run = .running) : u.advancePhase.rcu.run ≠ .paused := by
      rw [(advancePhase_kept u).run, hu]; decide
    unfold State.resumePowerOn State.powerOnComplete State.endIteration
    dsimp only
    (repeat' split)
    · next hp => exact absurd (ht.symm.trans hp) (by decide)
    · rw [(enterOff_kept _).run]
      exact hadv _ ht
    · exact endStep_run_ne_paused _
    · exact hadv _ ht
    · rw [ht]; decide
  have hreach {t : State} (ht : t.rcu.run ≠ .paused) : t.resumeReach.rcu.run ≠ .paused := by
    unfold State.resumeReach State.reachMet State.enterTiming
    (repeat' split) <;> exact ht
  refine hreach (hpower ?_)
  rw [(commandLanding_kept _).run]
  rfl

/-- Settles O13: the broadcast and the addressed request by one action. -/
theorem broadcastControlIsNotAnswered : Obligations.BroadcastControlIsNotAnswered := by
  refine ⟨fun k command f g s t hmem hb ha hexec => ?_, fun c k f s hmem hf hb => ?_⟩
  · have hact : ∃ act, Controls k act ∧ ∀ f, frameOf (command f) = some (k, f) := by
      simp only [List.mem_cons, Prod.mk.injEq, List.not_mem_nil, or_false] at hmem
      rcases hmem with ⟨rfl, rfl⟩ | ⟨rfl, rfl⟩ | ⟨rfl, rfl⟩ | ⟨rfl, rfl⟩ | ⟨rfl, rfl⟩ | ⟨rfl, rfl⟩
      · exact ⟨_, .start, fun _ => rfl⟩
      · exact ⟨_, .pause, fun _ => rfl⟩
      · exact ⟨_, .resume, fun _ => rfl⟩
      · exact ⟨_, .abort, fun _ => rfl⟩
      · exact ⟨_, .clear, fun _ => rfl⟩
      · exact ⟨_, .snapshot, fun _ => rfl⟩
    obtain ⟨act, hc, hframe⟩ := hact
    rw [exec_broadcast (hframe f) hc hb] at hexec
    cases hexec
    exact ⟨_, exec_taken (hframe g) hc ha⟩
  · simp only [List.mem_cons, List.not_mem_nil, or_false] at hmem
    rcases hmem with rfl | rfl | rfl | rfl | rfl | rfl <;> cases hf
    · refine ⟨_, exec_broadcast rfl .start hb, (control_quiet .start s).2, ?_, ?_, ?_, ?_, ?_, ?_⟩
      · intro _ hi hc hv hs hp hw
        rw [takeStart_accepted hi hc hv hs]
        exact startRun_claiming hp hw
      · intro _ hi hc hv hs hp
        rw [takeStart_accepted hi hc hv hs]
        obtain ⟨r, hended, -⟩ := startRun_supplyLost hp
        exact ⟨hended.run, hended.cause⟩
      all_goals exact fun h => nomatch h
    · refine ⟨_, exec_broadcast rfl .pause hb, (control_quiet .pause s).2, nofun, nofun,
        fun _ hr => ?_, nofun, nofun, nofun⟩
      rw [takePause_of_running hr]
      rfl
    · refine ⟨_, exec_broadcast rfl .resume hb, (control_quiet .resume s).2, nofun, nofun, nofun,
        fun _ hr => ?_, nofun, nofun⟩
      rw [takeResume_of_paused hr]
      exact resumeRun_run_ne_paused s
    · refine ⟨_, exec_broadcast rfl .abort hb, (control_quiet .abort s).2, nofun, nofun, nofun, nofun,
        fun _ hr => ?_, nofun⟩
      rw [takeAbort_of_active hr]
      exact ⟨(abortRun_spec s).1.run, (abortRun_spec s).1.verdict⟩
    · refine ⟨_, exec_broadcast rfl .clear hb, (control_quiet .clear s).2, nofun, nofun, nofun, nofun,
        nofun, fun _ hr => ?_⟩
      rw [takeClear_of_ended hr]
      rfl
    · exact ⟨_, exec_broadcast rfl .snapshot hb, (control_quiet .snapshot s).2, nofun, nofun, nofun,
        nofun, nofun, nofun⟩

/-! ### Requests that are turned away (R160, R167) -/

/-- The kinds of the requests, by what handles them. -/
theorem requests_of_mem {k : Byte}
    (hk : k ∈ [(0x20 : Byte), 0x21, 0x22, 0x23, 0x24, 0x25, 0x30, 0x31, 0x32, 0x33]) :
    k ∈ [(0x20 : Byte), 0x21, 0x22, 0x23, 0x24, 0x25] ∨ k ∈ [(0x30 : Byte), 0x31, 0x32, 0x33] :=
  List.mem_append.mp hk

/-- A control request that is heard is handled by R167, and a read one too. -/
theorem exec_heard {c : Instr} {k : Byte} {f : RxFrame} {s : State} {deliver : State → State}
    (hf : frameOf c = some (k, f)) (h : s.hears k f = true)
    (he : anyFrame k f = State.hear k f deliver) : exec c s = .next (deliver s) := by
  obtain ⟨hlive, hdeliver, -⟩ := hears_spec h
  rw [exec_of_frameOf hf, live_next hlive, he, hdeliver]

/-- Settles O14: the steps of R167 in their order, for the control requests and for the reads. -/
theorem requestsAreTurnedAwayInOrder : Obligations.RequestsAreTurnedAwayInOrder := by
  refine ⟨fun c k f s hf h ha => ⟨fun hk hfull => ?_, fun hk hroom hlen => ?_, fun hk hroom hlen => ?_,
    fun hk hroom hlen hperm => ?_⟩, fun c k f s hf h ha => ⟨fun hk hdest => ?_, fun hk hdest => ?_,
    fun hk hdest hbad => ?_⟩⟩
  · rcases requests_of_mem hk with hk | hk
    · obtain ⟨act, hc⟩ := controls_of_mem hk
      rw [exec_heard hf h (anyFrame_control hc f), State.controlRequest, if_pos ha, if_pos hfull]
      rfl
    · obtain ⟨act, -, hframe⟩ := anyFrame_read hk
      rw [exec_heard hf h (hframe f), State.readRequest, if_pos ha, if_pos hfull]
      rfl
  · obtain ⟨act, hc⟩ := controls_of_mem hk
    refine ⟨_, exec_heard hf h (anyFrame_control hc f), ?_⟩
    rw [State.controlRequest, if_pos ha, if_neg (by simp [hroom]), if_pos hlen]
    exact respond_answersBad k f s
  · obtain ⟨act, -, hframe⟩ := anyFrame_read hk
    refine ⟨_, exec_heard hf h (hframe f), ?_⟩
    rw [State.readRequest, if_pos ha, if_neg (by simp [hroom]), if_pos hlen]
    exact respond_answersBad k f s
  · obtain ⟨act, hc⟩ := controls_of_mem hk
    obtain ⟨b, hp⟩ := List.length_eq_one_iff.mp hlen
    rw [exec_heard hf h (anyFrame_control hc f), State.controlRequest, if_pos ha,
      if_neg (by simp [hroom]), if_neg (by simp [hlen]), if_pos hperm, State.respond, hp]
    simp [answerTo, hp, Bif.queueResponse, ResponseCode.code]
  · rcases requests_of_mem hk with hk | hk
    · obtain ⟨act, hc⟩ := controls_of_mem hk
      rw [exec_heard hf h (anyFrame_control hc f), State.controlRequest, if_neg (by simp [ha]),
        if_neg fun hb => hdest hb.1]
    · obtain ⟨act, -, hframe⟩ := anyFrame_read hk
      rw [exec_heard hf h (hframe f), State.readRequest, if_neg (by simp [ha])]
  · obtain ⟨act, -, hframe⟩ := anyFrame_read hk
    rw [exec_heard hf h (hframe f), State.readRequest, if_neg (by simp [ha])]
  · obtain ⟨act, hc⟩ := controls_of_mem hk
    rw [exec_heard hf h (anyFrame_control hc f), State.controlRequest, if_neg (by simp [ha]),
      if_neg fun hb => ?_]
    rcases hbad with hbad | hbad
    · exact hbad hb.2.1
    · exact absurd (hb.2.2.symm.trans hbad) (by decide)

/-- A frame of a kind with no row of its own is delivered as such (R160). -/
theorem anyFrame_other {k : Byte} (hk : k ∉ ownRowKinds) (f : RxFrame) :
    anyFrame k f = State.hear k f (State.takeOther k f) := by
  funext s
  simp only [ownRowKinds, List.mem_cons, List.not_mem_nil, or_false, not_or] at hk
  obtain ⟨h1, h2, h3, h4, h5, h6, h7, h8, h9, h10, h11, h12, h13⟩ := hk
  simp only [anyFrame, kindBeacon, kindIntent, kindCommit, kindStart, kindPause, kindResume,
    kindAbort, kindClear, kindSnapshot, kindStatus, kindReadLog, kindReadCounters, kindReadPoint,
    h1, h2, h3, h4, h5, h6, h7, h8, h9, h10, h11, h12, h13, if_false]

/-- Settles O18: a frame that is not intact is not heard, and the other kinds act as requests of steps
1 and 2 of R167. -/
theorem onlyWholeFramesOfUsedKindsAct : Obligations.OnlyWholeFramesOfUsedKindsAct := by
  refine ⟨fun c k f s hf hbad => ?_, fun k f s h => ⟨fun hk => ?_, fun hown hk =>
    ⟨fun ha => ?_, fun ha hfull => ?_, fun ha hroom => ?_⟩⟩⟩
  · have hintact : frameIntact k f = false := by
      refine Bool.eq_false_iff.mpr fun hi => ?_
      simp only [frameIntact, Config.payloadLimit, Bool.and_eq_true, decide_eq_true_eq] at hi
      obtain ⟨⟨hlimit, hlen⟩, hcheck⟩ := hi
      rcases hbad with hbad | hbad | hbad
      · exact absurd (of_decide_eq_true hlimit) (Nat.not_le.mpr hbad)
      · exact hbad hlen
      · exact hbad hcheck
    obtain ⟨deliver, -, he⟩ := anyFrame_delivers k f
    rw [exec_of_frameOf hf, State.live, he, State.hear, hintact]
    simp
  · have hown : k ∉ ownRowKinds ∧ unusedKind k = true := by
      simp only [List.mem_cons, List.not_mem_nil, or_false] at hk
      rcases hk with rfl | rfl | rfl <;> decide
    rw [exec_heard (c := .frameReceived k f) rfl h (anyFrame_other hown.1 f), State.takeOther,
      if_pos hown.2]
  all_goals
    have hused : ¬unusedKind k = true := by
      simp only [List.mem_cons, List.not_mem_nil, or_false] at hk
      exact fun hused => hk (of_decide_eq_true hused)
  · rw [exec_heard (c := .frameReceived k f) rfl h (anyFrame_other hown f), State.takeOther,
      if_neg hused, State.unknownRequest, if_neg (by simp [ha])]
  · rw [exec_heard (c := .frameReceived k f) rfl h (anyFrame_other hown f), State.takeOther,
      if_neg hused, State.unknownRequest, if_pos ha, if_pos hfull]
    rfl
  · refine ⟨_, exec_heard (c := .frameReceived k f) rfl h (anyFrame_other hown f), ?_⟩
    rw [State.takeOther, if_neg hused, State.unknownRequest, if_pos ha, if_neg (by simp [hroom])]
    exact respond_answersBad k f s

end Sys2Proof.Machine
end

section
/-! SUPPORT. The layouts of Chapter 10: bytes that are fields in a row, each read back at its offset.
With them the data of the four reads, the payload of a RUN notice and the bytes of a frame, and the
head that an attempt sends. -/

namespace Sys2Proof.Machine

/-! ### Fields in a row (R173) -/

@[simp] theorem beBytes_length (n v : Nat) : (beBytes n v).length = n := by
  induction n generalizing v with
  | zero => rfl
  | succ n ih => simp [beBytes, ih]

/-- The value of bytes behind a value already read. -/
theorem foldl_bytes (bytes : List Byte) (acc : Nat) :
    bytes.foldl (fun acc b => acc * 256 + b.toNat) acc = acc * 256 ^ bytes.length + ofBe bytes := by
  induction bytes generalizing acc with
  | nil => simp [ofBe]
  | cons b bs ih =>
    simp only [ofBe, List.foldl_cons, List.length_cons]
    rw [ih, ih (0 * 256 + b.toNat)]
    ring

/-- A field of `n` bytes reads as its value modulo its range (R173). -/
theorem ofBe_beBytes (n v : Nat) : ofBe (beBytes n v) = v % 256 ^ n := by
  induction n with
  | zero => simp [beBytes, ofBe, Nat.mod_one]
  | succ n ih =>
    have hmod : v % 256 ^ (n + 1) = v / 256 ^ n % 256 * 256 ^ n + v % 256 ^ n := by
      rw [pow_succ, Nat.mod_mul]
      ring
    simp only [beBytes, ofBe, List.foldl_cons]
    rw [foldl_bytes, ih, beBytes_length, hmod]
    simp

/-- A field of more bytes is two fields. -/
theorem beBytes_add (m n v : Nat) : beBytes (m + n) v = beBytes m (v / 256 ^ n) ++ beBytes n v := by
  induction m with
  | zero => simp [beBytes]
  | succ m ih =>
    rw [show m + 1 + n = (m + n) + 1 by omega, beBytes, beBytes, ih, Nat.div_div_eq_div_mul,
      ← pow_add, Nat.add_comm n m]
    rfl

/-- The bytes of fields in a row, each a width and a value. -/
def fieldBytes (fields : List (Nat × Nat)) : List Byte := fields.flatMap fun f => beBytes f.1 f.2

/-- The field that begins at an offset. -/
def fieldAt : List (Nat × Nat) → Nat → Option (Nat × Nat)
  | [], _ => none
  | f :: fs, o => if o = 0 then some f else if f.1 ≤ o then fieldAt fs (o - f.1) else none

/-- A field reads back at its offset. -/
theorem ofBe_fieldBytes {fields : List (Nat × Nat)} {o n v : Nat}
    (h : fieldAt fields o = some (n, v)) :
    ofBe (((fieldBytes fields).drop o).take n) = v % 256 ^ n := by
  induction fields generalizing o with
  | nil => cases h
  | cons f fs ih =>
    have hcons : fieldBytes (f :: fs) = beBytes f.1 f.2 ++ fieldBytes fs := rfl
    simp only [fieldAt] at h
    split at h
    · next ho =>
      cases h
      rw [hcons, ho, List.drop_zero, List.take_left' (beBytes_length n v), ofBe_beBytes]
    · split at h
      · next hle =>
        rw [hcons, show o = (beBytes f.1 f.2).length + (o - f.1) by rw [beBytes_length]; omega,
          List.drop_length_add_append]
        exact ih h
      · cases h

theorem byteAt_eq_ofBe (b : List Byte) (o : Nat) : byteAt b o = ofBe ((b.drop o).take 1) := by
  by_cases ho : o < b.length
  · rw [List.drop_eq_getElem_cons ho, byteAt, List.getD_eq_getElem _ _ ho]
    simp only [List.take_succ_cons, List.take_zero, ofBe, List.foldl_cons, List.foldl_nil, Nat.zero_mul,
      Nat.zero_add]
  · rw [List.drop_eq_nil_of_le (Nat.not_lt.mp ho), byteAt, List.getD_eq_default _ _ (Nat.not_lt.mp ho)]
    rfl

theorem byteAt_fieldBytes {fields : List (Nat × Nat)} {o v : Nat}
    (h : fieldAt fields o = some (1, v)) : byteAt (fieldBytes fields) o = v % 256 := by
  rw [byteAt_eq_ofBe, ofBe_fieldBytes h, pow_one]

theorem wordAt_fieldBytes {fields : List (Nat × Nat)} {o v : Nat}
    (h : fieldAt fields o = some (2, v)) : wordAt (fieldBytes fields) o = v % 65536 :=
  ofBe_fieldBytes h

theorem longAt_fieldBytes {fields : List (Nat × Nat)} {o v : Nat}
    (h : fieldAt fields o = some (4, v)) : longAt (fieldBytes fields) o = v % 4294967296 :=
  ofBe_fieldBytes h

theorem fieldBytes_length (fields : List (Nat × Nat)) :
    (fieldBytes fields).length = (fields.map Prod.fst).sum := by
  simp [fieldBytes, List.length_flatMap]

/-- A byte that holds a value of its range reads as the value. -/
theorem byteAt_fieldBytes_lt {fields : List (Nat × Nat)} {o v : Nat}
    (h : fieldAt fields o = some (1, v)) (hv : v < 256) : byteAt (fieldBytes fields) o = v :=
  (byteAt_fieldBytes h).trans (Nat.mod_eq_of_lt hv)

theorem wordAt_fieldBytes_lt {fields : List (Nat × Nat)} {o v : Nat}
    (h : fieldAt fields o = some (2, v)) (hv : v < 65536) : wordAt (fieldBytes fields) o = v :=
  (wordAt_fieldBytes h).trans (Nat.mod_eq_of_lt hv)

theorem longAt_fieldBytes_lt {fields : List (Nat × Nat)} {o v : Nat}
    (h : fieldAt fields o = some (4, v)) (hv : v < 4294967296) : longAt (fieldBytes fields) o = v :=
  (longAt_fieldBytes h).trans (Nat.mod_eq_of_lt hv)

/-! ### Codes (Table 10-4) -/

theorem RunState.code_lt (r : RunState) : r.code < 256 := by cases r <;> decide
theorem Phase.code_lt (p : Phase) : p.code < 256 := by cases p <;> decide
theorem Verdict.code_lt (v : Verdict) : v.code < 256 := by cases v <;> decide
theorem EndCause.code_lt (c : EndCause) : c.code < 256 := by cases c <;> decide
theorem FaultKind.code_lt (k : FaultKind) : k.code < 256 := by cases k <;> decide
theorem ConfigStatus.code_lt (c : ConfigStatus) : c.code < 256 := by cases c <;> decide
theorem Reason.code_lt (r : Reason) : r.code < 256 := by cases r <;> decide

/-! ### STATUS (Tables 10-9 and 10-10) -/

/-- The fields of page 0. -/
def State.page0Fields (s : State) : List (Nat × Nat) :=
  [(1, s.rcu.run.code), (1, s.rcu.verdict.code), (1, s.rcu.cause.code), (1, s.rcu.step),
    (1, s.rcu.phase.code), (2, s.rcu.iteration), (2, s.bgu.committed),
    (2, (s.bgu.intent.map OwnIntent.claim).getD 0), (1, intentStageCode s.bgu.intent),
    (1, s.code.toNat), (2, s.bgu.refusals), (2, s.sou.target0), (2, s.sou.level0),
    (2, s.sou.target1), (2, s.sou.level1), (1, s.sou.target2), (1, s.sou.level2), (1, s.outputFlags),
    (2, s.asc.power), (1, s.fcu.recordCount), (1, s.fcu.log.length), (2, s.fcu.lostCount),
    (1, bitOf s.fcu.logFull 0 + bitOf s.rcu.clamped 1), (4, s.tmu.rack.s.toNat), (4, s.tmu.rack.ns)]

theorem statusPage0_eq (s : State) : s.statusPage0 = fieldBytes s.page0Fields := by
  unfold State.statusPage0 State.page0Fields fieldBytes
  simp only [List.append_assoc]
  simp only [List.flatMap_cons]
  simp only [List.flatMap_nil, List.append_nil]

/-- The fields of page 1, the uptime in two. -/
def State.page1Fields (s : State) : List (Nat × Nat) :=
  [(1, s.cfl.status.code), (1, s.cfl.reason.code), (2, s.cfl.modelCode.toNat),
    (4, s.cfl.serial.toNat), (4, s.tmu.rack.s.toNat), (4, s.tmu.rack.ns),
    (2, s.tmu.uptime.toNat / 4294967296), (4, s.tmu.uptime.toNat), (2, s.tmu.jumps),
    (1, bitOf s.tmu.settled 0 + bitOf s.bgu.slotConflict 1 + bitOf s.viewStale 2),
    (2, s.bus.noticeDrops), (2, s.bus.requestDrops), (1, s.slot.toNat), (1, s.bgu.peers.length)]

theorem statusPage1_eq (s : State) : s.statusPage1 = fieldBytes s.page1Fields := by
  have huptime : beBytes 6 s.tmu.uptime.toNat = _ := beBytes_add 2 4 s.tmu.uptime.toNat
  unfold State.statusPage1 State.page1Fields fieldBytes
  rw [huptime]
  simp only [List.append_assoc]
  simp only [List.flatMap_cons]
  simp only [List.flatMap_nil, List.append_nil]
  rfl

/-- An uptime in two fields reads back whole. -/
theorem uptime_fields (u : Uptime) :
    u.toNat / 4294967296 % 65536 * 4294967296 + u.toNat % 4294967296 = u.toNat := by
  have hlt : u.toNat < 281474976710656 := u.isLt
  generalize u.toNat = n at hlt ⊢
  omega

/-- A read that is taken is answered with its code and data (R167, R171). -/
theorem exec_read {c : Instr} {k : Byte} {f : RxFrame} {act : Nat → State → Answer} {s : State}
    {code : ResponseCode} {d : List Byte} (hf : frameOf c = some (k, f))
    (he : anyFrame k f = State.hear k f (State.readRequest k f act)) (h : s.takesRead k f = true)
    (ha : act (byteAt f.payload 1) s = ⟨s, code, d⟩) :
    exec c s = .next { s with bus := { s.bus with
      responses := s.bus.responses ++ [answerTo k f code.code d] } } := by
  obtain ⟨hlive, hact⟩ := takesRead_spec h
  rw [exec_of_frameOf hf, live_next hlive, he, hact, ha]
  rfl

theorem viewStale_iff (s : State) : s.viewStale = true ↔ ∃ p ∈ s.bgu.peers, p.fresh = false := by
  simp [State.viewStale]

theorem bitOf_eq (b : Bool) (i : Nat) : bitOf b i = if b = true then 2 ^ i else 0 := rfl

theorem outputFlags_lt (s : State) : s.outputFlags < 256 := by
  unfold State.outputFlags bitOf
  split_ifs <;> decide

/-- Settles O16: each field of the two pages at its offset. -/
theorem statusReportsTheTables : Obligations.StatusReportsTheTables := by
  refine ⟨⟨?_, ?_, ?_, ?_, ?_, ?_⟩, fun f s h => ⟨fun hp => ?_, fun hp => ?_, fun hp => ?_⟩⟩
  all_goals try (intro x; cases x <;> rfl)
  · have hread : State.readStatus (byteAt f.payload 1) s = ⟨s, .ok, s.statusPage0⟩ := by
      rw [hp]
      rfl
    refine ⟨s.statusPage0, exec_read (c := .status f) rfl rfl h hread, ?_⟩
    rw [statusPage0_eq]
    refine ⟨by rw [fieldBytes_length]; simp [State.page0Fields], byteAt_fieldBytes_lt rfl s.rcu.run.code_lt,
      byteAt_fieldBytes_lt rfl s.rcu.verdict.code_lt, byteAt_fieldBytes_lt rfl s.rcu.cause.code_lt,
      byteAt_fieldBytes rfl, byteAt_fieldBytes_lt rfl s.rcu.phase.code_lt, wordAt_fieldBytes rfl,
      wordAt_fieldBytes rfl, fun hi => ?_, fun i hi => ?_,
      byteAt_fieldBytes_lt rfl (Nat.lt_trans s.code.isLt (by decide)), wordAt_fieldBytes rfl,
      wordAt_fieldBytes rfl, wordAt_fieldBytes rfl, wordAt_fieldBytes rfl, wordAt_fieldBytes rfl,
      byteAt_fieldBytes rfl, byteAt_fieldBytes rfl,
      (byteAt_fieldBytes_lt rfl (outputFlags_lt s)).trans ?_, wordAt_fieldBytes rfl,
      byteAt_fieldBytes rfl, byteAt_fieldBytes rfl, wordAt_fieldBytes rfl,
      (byteAt_fieldBytes rfl).trans ?_, longAt_fieldBytes_lt rfl s.tmu.rack.s.isLt,
      longAt_fieldBytes rfl⟩
    · exact ⟨(wordAt_fieldBytes rfl).trans (by rw [hi]; rfl), (byteAt_fieldBytes rfl).trans (by rw [hi]; rfl)⟩
    · refine ⟨(wordAt_fieldBytes rfl).trans (by rw [hi]; rfl), (byteAt_fieldBytes rfl).trans ?_⟩
      rw [hi]
      obtain ⟨w, _ | _ | _⟩ := i <;> rfl
    · simp [State.outputFlags, bitOf_eq, stageOn]
      cases s.sou.sensePresent <;> rfl
    · unfold bitOf
      split_ifs <;> rfl
  · have hread : State.readStatus (byteAt f.payload 1) s = ⟨s, .ok, s.statusPage1⟩ := by
      rw [hp]
      rfl
    refine ⟨s.statusPage1, exec_read (c := .status f) rfl rfl h hread, ?_⟩
    rw [statusPage1_eq]
    refine ⟨by rw [fieldBytes_length]; simp [State.page1Fields], byteAt_fieldBytes_lt rfl s.cfl.status.code_lt,
      byteAt_fieldBytes_lt rfl s.cfl.reason.code_lt, wordAt_fieldBytes_lt rfl s.cfl.modelCode.isLt,
      longAt_fieldBytes_lt rfl s.cfl.serial.isLt, longAt_fieldBytes_lt rfl s.tmu.rack.s.isLt,
      longAt_fieldBytes rfl, ?_, wordAt_fieldBytes rfl, (byteAt_fieldBytes rfl).trans ?_,
      wordAt_fieldBytes rfl, wordAt_fieldBytes rfl,
      byteAt_fieldBytes_lt rfl (Nat.lt_trans s.slot.isLt (by decide)), byteAt_fieldBytes rfl⟩
    · rw [wordAt_fieldBytes (fields := s.page1Fields) (o := 16) rfl,
        longAt_fieldBytes (fields := s.page1Fields) (o := 18) rfl]
      exact uptime_fields _
    · simp only [bitOf_eq, ← viewStale_iff]
      split_ifs <;> rfl
  · obtain ⟨n, hn⟩ := Nat.exists_eq_add_of_le' hp
    exact exec_read (c := .status f) (code := .badRequest) rfl rfl h (by rw [hn]; rfl)

/-! ### Records (Table 10-7) -/

/-- A value of `n` bytes of two's complement reads back modulo its range (R173). -/
theorem intField_eq (n : Nat) (v : Int) :
    (((v % (256 ^ n : Nat)).toNat % 256 ^ n : Nat) : Int) = v % (256 ^ n : Nat) := by
  have hpos : (0 : Int) < (256 ^ n : Nat) := by positivity
  have hnonneg := Int.emod_nonneg v hpos.ne'
  rw [Int.natCast_emod, Int.toNat_of_nonneg hnonneg, Int.emod_emod]

theorem wordAt_intField {fields : List (Nat × Nat)} {o : Nat} {v : Int}
    (h : fieldAt fields o = some (2, (v % (256 ^ 2 : Nat)).toNat)) :
    (wordAt (fieldBytes fields) o : Int) = v % 65536 := by
  rw [wordAt, ofBe_fieldBytes h, intField_eq]
  rfl

theorem longAt_intField {fields : List (Nat × Nat)} {o : Nat} {v : Int}
    (h : fieldAt fields o = some (4, (v % (256 ^ 4 : Nat)).toNat)) :
    (longAt (fieldBytes fields) o : Int) = v % 4294967296 := by
  rw [longAt, ofBe_fieldBytes h, intField_eq]
  rfl

/-- A mask built bit by bit holds the bits of its flags. -/
theorem mask_testBit (b : Nat → Bool) (n : Nat) :
    (List.range n).foldl (fun acc i => acc + bitOf (b i) i) 0 < 2 ^ n ∧
      ∀ i, i < n → ((List.range n).foldl (fun acc i => acc + bitOf (b i) i) 0).testBit i = b i := by
  induction n with
  | zero => exact ⟨by simp, fun i hi => by omega⟩
  | succ n ih =>
    obtain ⟨hlt, hbits⟩ := ih
    rw [List.range_succ, List.foldl_append]
    generalize (List.range n).foldl _ 0 = m at hlt hbits ⊢
    simp only [List.foldl_cons, List.foldl_nil, bitOf_eq]
    refine ⟨?_, fun i hi => ?_⟩
    · rw [pow_succ]
      split <;> omega
    · rcases Nat.lt_succ_iff_lt_or_eq.mp hi with hi | rfl
      · rw [← hbits i hi]
        split
        · rw [Nat.add_comm, Nat.testBit_two_pow_add_gt hi]
        · rw [Nat.add_zero]
      · split
        · next hb => rw [Nat.add_comm, Nat.testBit_two_pow_add_eq, Nat.testBit_lt_two_pow hlt, hb]; rfl
        · next hb => rw [Nat.add_zero, Nat.testBit_lt_two_pow hlt]; simpa using hb

/-- A record's point mask has the bits of its points below 16 (Table 10-7). -/
theorem pointMask_spec (points : List Nat) : pointMask points < 65536 ∧
    ∀ i, i < 16 → ((pointMask points).testBit i = true ↔ i ∈ points) := by
  obtain ⟨hlt, hbits⟩ := mask_testBit points.contains 16
  exact ⟨hlt, fun i hi => by rw [pointMask, hbits i hi, List.contains_iff_mem]⟩

/-- The fields of a record's context. -/
def contextFields : Option Context → List (Nat × Nat)
  | none => [(1, 0), (2, 0), (2, 0), (2, 0)]
  | some c => [(1, 1), (2, (c.mainMv % (256 ^ 2 : Nat)).toNat), (2, (c.mainMa % (256 ^ 2 : Nat)).toNat),
      (2, (c.temp % (256 ^ 2 : Nat)).toNat)]

/-- The fields of a record, the uptime in two. -/
def Record.fields (r : Record) : List (Nat × Nat) :=
  [(1, r.index), (1, r.kind.code), (4, r.rack.s.toNat), (4, r.rack.ns),
    (2, r.uptime.toNat / 4294967296), (4, r.uptime.toNat), (1, r.step), (1, r.phase.code),
    (2, r.iteration), (4, (r.value % (256 ^ 4 : Nat)).toNat), (2, pointMask r.points)] ++
    contextFields r.context

theorem recordBytes_eq (r : Record) : recordBytes r = fieldBytes r.fields := by
  have huptime : beBytes 6 r.uptime.toNat = _ := beBytes_add 2 4 r.uptime.toNat
  unfold recordBytes Record.fields fieldBytes contextFields
  rw [huptime]
  cases r.context <;>
  · simp only [List.append_assoc]
    simp only [List.flatMap_append, List.flatMap_cons]
    simp only [List.flatMap_nil, List.append_nil, List.append_assoc]
    rfl

theorem record_length (r : Record) : (recordBytes r).length = 33 := by
  rw [recordBytes_eq, fieldBytes_length]
  unfold Record.fields contextFields
  cases r.context <;> simp

/-! ### The snapshot store and the points (Table 10-11) -/

/-- Rows of fields are fields in a row. -/
theorem flatMap_fieldBytes {α : Type} (g : α → List (Nat × Nat)) (l : List α) :
    l.flatMap (fun x => fieldBytes (g x)) = fieldBytes (l.flatMap g) := by
  simp only [fieldBytes, List.flatMap_assoc]

theorem fieldBytes_append (a b : List (Nat × Nat)) :
    fieldBytes (a ++ b) = fieldBytes a ++ fieldBytes b := List.flatMap_append

/-- The fields of a lane's copies. -/
def LaneCopy.fields (l : LaneCopy) : List (Nat × Nat) :=
  [(1, l.sign.count), (1, l.code.count), (1, l.mark.count),
    (1, bitOf l.sign.terminal 0 + bitOf l.code.terminal 1 + bitOf l.mark.terminal 2),
    (2, l.lockLosses)]

/-- The fields of a line's counts, and of its last rise. -/
def LineCopy.countFields (l : LineCopy) : List (Nat × Nat) := [(4, l.pulses.toNat), (2, l.episodes)]
def LineCopy.riseFields (l : LineCopy) : List (Nat × Nat) :=
  [(4, l.rise.s.toNat), (4, if l.riseAbsent then 0xFFFFFFFF else l.rise.ns)]

theorem laneCopy_bytes : LaneCopy.bytes = fun l => fieldBytes l.fields := by
  funext l
  simp [LaneCopy.bytes, LaneCopy.fields, fieldBytes]

theorem lineCopy_countBytes : LineCopy.countBytes = fun l => fieldBytes l.countFields := by
  funext l
  simp [LineCopy.countBytes, LineCopy.countFields, fieldBytes]

theorem lineCopy_riseBytes : LineCopy.riseBytes = fun l => fieldBytes l.riseFields := by
  funext l
  simp [LineCopy.riseBytes, LineCopy.riseFields, fieldBytes]

/-- The fields of READ_COUNTERS' data, of a group below 4. -/
def Snapshot.fields (n : Snapshot) (group : Nat) : List (Nat × Nat) :=
  [(4, n.rack.s.toNat), (4, n.rack.ns)] ++
    match group with
    | 0 => n.lanes.toList.flatMap LaneCopy.fields
    | 1 => n.lines.toList.flatMap LineCopy.countFields
    | 2 => n.pointEpisodes.toList.flatMap (fun e => [(2, e)]) ++ [(2, n.overdrawEpisodes)]
    | _ => n.lines.toList.flatMap LineCopy.riseFields

/-- READ_COUNTERS of a group below 4 is answered with its fields, and of any other BAD_REQUEST. -/
theorem readGroup_eq (group : Nat) (s : State) :
    State.readGroup group s = if group < 4 then ⟨s, .ok, fieldBytes (s.bus.snapshot.fields group)⟩
      else ⟨s, .badRequest, []⟩ := by
  have hrack (d : List Byte) : beBytes 4 s.bus.snapshot.rack.s.toNat ++ beBytes 4 s.bus.snapshot.rack.ns ++
      d = fieldBytes [(4, s.bus.snapshot.rack.s.toNat), (4, s.bus.snapshot.rack.ns)] ++ d := by
    simp [fieldBytes]
  unfold State.readGroup Snapshot.group Snapshot.fields
  match group with
  | 0 => simp only [hrack, laneCopy_bytes, flatMap_fieldBytes, fieldBytes_append]; rfl
  | 1 => simp only [hrack, lineCopy_countBytes, flatMap_fieldBytes, fieldBytes_append]; rfl
  | 2 =>
    have hword : beBytes 2 = fun e => fieldBytes [(2, e)] := by funext e; simp [fieldBytes]
    simp only [hrack, hword, flatMap_fieldBytes, fieldBytes_append]
    rfl
  | 3 => simp only [hrack, lineCopy_riseBytes, flatMap_fieldBytes, fieldBytes_append]; rfl
  | n + 4 => simp

/-- The fields of READ_POINT's data. -/
def State.pointFields (i : Fin 8) (s : State) : List (Nat × Nat) :=
  [(1, i.val), (2, (s.asc.points.get i).code),
    (1, bitOf (s.asc.points.get i).underRange 0 + bitOf (s.asc.points.get i).overRange 1 +
      bitOf (s.asc.points.get i).calDefault 2 + bitOf (s.wck.points.get i).out 3),
    (2, ((s.asc.points.get i).y % (256 ^ 2 : Nat)).toNat)]

theorem readPointValue_eq (i : Fin 8) (s : State) :
    State.readPointValue i.val s = ⟨s, .ok, fieldBytes (s.pointFields i)⟩ := by
  simp [State.readPointValue, i.isLt, State.pointFields, fieldBytes, beInt]

/-! The fields of the counter groups at their offsets. -/

theorem laneGroup_fields (n : Snapshot) (j : Fin 4) :
    fieldAt (n.fields 0) (8 + 6 * j) = some (1, (n.lanes.get j).sign.count) ∧
    fieldAt (n.fields 0) (9 + 6 * j) = some (1, (n.lanes.get j).code.count) ∧
    fieldAt (n.fields 0) (10 + 6 * j) = some (1, (n.lanes.get j).mark.count) ∧
    fieldAt (n.fields 0) (11 + 6 * j) = some (1, bitOf (n.lanes.get j).sign.terminal 0 +
      bitOf (n.lanes.get j).code.terminal 1 + bitOf (n.lanes.get j).mark.terminal 2) ∧
    fieldAt (n.fields 0) (12 + 6 * j) = some (2, (n.lanes.get j).lockLosses) := by
  fin_cases j <;> exact ⟨rfl, rfl, rfl, rfl, rfl⟩

theorem countGroup_fields (n : Snapshot) (j : Fin 4) :
    fieldAt (n.fields 1) (8 + 6 * j) = some (4, (n.lines.get j).pulses.toNat) ∧
    fieldAt (n.fields 1) (12 + 6 * j) = some (2, (n.lines.get j).episodes) := by
  fin_cases j <;> exact ⟨rfl, rfl⟩

theorem pointGroup_fields (n : Snapshot) :
    (∀ i : Fin 8, fieldAt (n.fields 2) (8 + 2 * i) = some (2, n.pointEpisodes.get i)) ∧
    fieldAt (n.fields 2) 24 = some (2, n.overdrawEpisodes) := by
  refine ⟨fun i => ?_, rfl⟩
  fin_cases i <;> rfl

theorem riseGroup_fields (n : Snapshot) (j : Fin 4) :
    fieldAt (n.fields 3) (8 + 8 * j) = some (4, (n.lines.get j).rise.s.toNat) ∧
    fieldAt (n.fields 3) (12 + 8 * j) = some (4,
      if (n.lines.get j).riseAbsent then 0xFFFFFFFF else (n.lines.get j).rise.ns) := by
  fin_cases j <;> exact ⟨rfl, rfl⟩

theorem group_lengths (n : Snapshot) : (fieldBytes (n.fields 0)).length = 32 ∧
    (fieldBytes (n.fields 1)).length = 32 ∧ (fieldBytes (n.fields 2)).length = 26 ∧
    (fieldBytes (n.fields 3)).length = 40 := by
  simp only [fieldBytes_length]
  simp [Snapshot.fields, Quad.toList, Oct.toList, LaneCopy.fields, LineCopy.countFields,
    LineCopy.riseFields]

/-- A lane's flag byte. -/
theorem laneFlags_byte (a b c : Bool) : (bitOf a 0 + bitOf b 1 + bitOf c 2) % 256 =
    (if a = true then 1 else 0) + (if b = true then 2 else 0) + (if c = true then 4 else 0) := by
  unfold bitOf
  split_ifs <;> rfl

theorem pointFlags_byte (a b c d : Bool) : (bitOf a 0 + bitOf b 1 + bitOf c 2 + bitOf d 3) % 256 =
    (if a = true then 1 else 0) + (if b = true then 2 else 0) + (if c = true then 4 else 0) +
      (if d = true then 8 else 0) := by
  unfold bitOf
  split_ifs <;> rfl

/-- Settles O17: each field of a record, of a counter group and of a point at its offset. -/
theorem logCountersAndPointsAreRead : Obligations.LogCountersAndPointsAreRead := by
  refine ⟨fun k => by cases k <;> exact ⟨by decide, rfl⟩, fun f s h => ⟨fun r hr => ?_, fun hlen => ?_⟩,
    fun f s => ⟨fun h => ⟨fun hg => ?_, fun hg => ?_⟩, fun h => ⟨fun i hi => ?_, fun hi => ?_⟩⟩⟩
  · have hread : State.readRecord (byteAt f.payload 1) s = ⟨s, .ok, recordBytes r⟩ := by
      simp only [State.readRecord, hr]
    refine ⟨_, exec_read (c := .readLog f) rfl rfl h hread, record_length r, ?_⟩
    rw [recordBytes_eq]
    refine ⟨byteAt_fieldBytes rfl, byteAt_fieldBytes_lt rfl r.kind.code_lt,
      longAt_fieldBytes_lt rfl r.rack.s.isLt, longAt_fieldBytes rfl, ?_, byteAt_fieldBytes rfl,
      byteAt_fieldBytes_lt rfl r.phase.code_lt, wordAt_fieldBytes rfl, longAt_intField rfl,
      fun i hi => ?_, ?_, fun hn => ?_, fun c hc => ?_⟩
    · rw [wordAt_fieldBytes (fields := r.fields) (o := 10) rfl,
        longAt_fieldBytes (fields := r.fields) (o := 12) rfl]
      exact uptime_fields _
    · obtain ⟨hlt, hbits⟩ := pointMask_spec r.points
      rw [wordAt_fieldBytes_lt (fields := r.fields) (o := 24) rfl hlt]
      exact hbits i hi
    all_goals unfold Record.fields
    · cases r.context
      · exact byteAt_fieldBytes_lt (v := 0) rfl (by decide)
      · exact byteAt_fieldBytes_lt (v := 1) rfl (by decide)
    · rw [hn]
      exact ⟨wordAt_fieldBytes_lt (v := 0) rfl (by decide), wordAt_fieldBytes_lt (v := 0) rfl (by decide),
        wordAt_fieldBytes_lt (v := 0) rfl (by decide)⟩
    · rw [hc]
      exact ⟨wordAt_intField rfl, wordAt_intField rfl, wordAt_intField rfl⟩
  · have hread : State.readRecord (byteAt f.payload 1) s = ⟨s, .badIndex, []⟩ := by
      simp only [State.readRecord, List.getElem?_eq_none hlen]
    exact exec_read (c := .readLog f) rfl rfl h hread
  · have hread := (readGroup_eq (byteAt f.payload 1) s).trans (if_pos hg)
    refine ⟨_, exec_read (c := .readCounters f) rfl rfl h hread,
      longAt_fieldBytes_lt rfl s.bus.snapshot.rack.s.isLt, longAt_fieldBytes rfl, ?_, ?_, ?_, ?_⟩
    all_goals
      intro hgroup
      rw [hgroup]
    · refine ⟨(group_lengths _).1, fun j => ?_⟩
      obtain ⟨hsign, hcode, hmark, hflags, hlosses⟩ := laneGroup_fields s.bus.snapshot j
      exact ⟨byteAt_fieldBytes hsign, byteAt_fieldBytes hcode, byteAt_fieldBytes hmark,
        (byteAt_fieldBytes hflags).trans (laneFlags_byte _ _ _), wordAt_fieldBytes hlosses⟩
    · refine ⟨(group_lengths _).2.1, fun j => ?_⟩
      obtain ⟨hpulses, hepisodes⟩ := countGroup_fields s.bus.snapshot j
      exact ⟨longAt_fieldBytes_lt hpulses (BitVec.isLt _), wordAt_fieldBytes hepisodes⟩
    · obtain ⟨hpoints, hoverdraw⟩ := pointGroup_fields s.bus.snapshot
      exact ⟨(group_lengths _).2.2.1, fun i => wordAt_fieldBytes (hpoints i), wordAt_fieldBytes hoverdraw⟩
    · refine ⟨(group_lengths _).2.2.2, fun j => ?_⟩
      obtain ⟨hseconds, hnanos⟩ := riseGroup_fields s.bus.snapshot j
      refine ⟨fun ha => (longAt_fieldBytes hnanos).trans ?_, fun ha =>
        ⟨longAt_fieldBytes_lt hseconds (BitVec.isLt _), (longAt_fieldBytes hnanos).trans ?_⟩⟩ <;>
        rw [ha] <;> rfl
  · exact exec_read (c := .readCounters f) rfl rfl h
      ((readGroup_eq (byteAt f.payload 1) s).trans (if_neg (Nat.not_lt.mpr hg)))
  · have hread : State.readPointValue (byteAt f.payload 1) s = ⟨s, .ok, fieldBytes (s.pointFields i)⟩ := by
      rw [hi]
      exact readPointValue_eq i s
    refine ⟨_, exec_read (c := .readPoint f) rfl rfl h hread,
      by rw [fieldBytes_length]; rfl, ?_⟩
    rw [← pointFlags_byte]
    exact ⟨byteAt_fieldBytes_lt rfl (Nat.lt_trans i.isLt (by decide)), wordAt_fieldBytes rfl,
      byteAt_fieldBytes rfl, wordAt_intField rfl⟩
  · have hread : State.readPointValue (byteAt f.payload 1) s = ⟨s, .badIndex, []⟩ :=
      dif_neg (Nat.not_lt.mpr hi)
    exact exec_read (c := .readPoint f) rfl rfl h hread

/-! ### Frames and attempts (R161, Tables 10-2, 10-6 and 10-8) -/

/-- The first byte of a frame holds its class and source. -/
theorem classByte_toNat (cls : BitVec 2) (slot : BitVec 5) :
    (cls ++ slot.setWidth 6 : BitVec 8).toNat = 64 * cls.toNat + slot.toNat := by
  have hslot : slot.toNat % 2 ^ 6 = slot.toNat := Nat.mod_eq_of_lt (Nat.lt_trans slot.isLt (by decide))
  rw [BitVec.toNat_append, BitVec.toNat_setWidth, hslot,
    ← Nat.shiftLeft_add_eq_or_of_lt (Nat.lt_trans slot.isLt (by decide : 2 ^ 5 < 2 ^ 6)), Nat.shiftLeft_eq]
  omega

/-- The bytes of a frame that the station sends, one by one (Table 10-2). -/
theorem frameBytes_layout (cls : BitVec 2) (slot : BitVec 5) (dest : BitVec 6) (kind : Byte)
    {payload : List Byte} (hlen : payload.length < 256) :
    let bytes := frameBytes cls slot dest kind payload
    bytes.length = payload.length + 6 ∧ byteAt bytes 0 = 64 * cls.toNat + slot.toNat ∧
      byteAt bytes 1 = dest.toNat ∧ byteAt bytes 2 = kind.toNat ∧
      byteAt bytes 3 = payload.length ∧ (bytes.drop 4).take payload.length = payload ∧
      wordAt bytes (payload.length + 4) = (crc16 (bytes.take (payload.length + 4))).toNat := by
  intro bytes
  generalize hbody : (cls ++ slot.setWidth 6 : Byte) :: dest.setWidth 8 :: kind ::
    BitVec.ofNat 8 payload.length :: payload = body
  have hbytes : bytes = body ++ beBytes 2 (crc16 body).toNat := hbody ▸ rfl
  have hbodyLen : body.length = payload.length + 4 := by rw [← hbody]; simp
  refine ⟨by rw [hbytes, List.length_append, hbodyLen, beBytes_length], classByte_toNat cls slot,
    ?_, rfl, ?_, ?_, ?_⟩
  · exact (BitVec.toNat_setWidth ..).trans (Nat.mod_eq_of_lt (Nat.lt_trans dest.isLt (by decide)))
  · exact (BitVec.toNat_ofNat ..).trans (Nat.mod_eq_of_lt hlen)
  · rw [hbytes, ← hbody]
    simp
  · rw [hbytes, wordAt, ← hbodyLen, List.drop_left, List.take_left, List.take_of_length_le (by simp),
      ofBe_beBytes]
    exact Nat.mod_eq_of_lt (BitVec.isLt _)

/-- The fields of a RUN notice. -/
def RunNotice.fields (n : RunNotice) : List (Nat × Nat) :=
  [(4, n.rack.s.toNat), (4, n.rack.ns), (1, n.verdict.code), (1, n.cause.code), (1, n.step),
    (1, n.phase.code), (2, n.iteration), (1, n.recordCount), (1, n.storedCount), (2, n.lostCount),
    (1, bitOf n.logFull 0 + bitOf n.clamped 1)]

theorem runNoticeBytes_eq (n : RunNotice) : runNoticeBytes n = fieldBytes n.fields := by
  unfold runNoticeBytes RunNotice.fields fieldBytes
  simp only [List.append_assoc]
  simp only [List.flatMap_cons]
  simp only [List.flatMap_nil, List.append_nil]

/-- The flag byte of a BEACON (Table 10-6). -/
theorem beaconFlags_eq (s : State) : s.beaconFlags = (if s.bgu.slotConflict = true then 1 else 0) +
    (if ∃ p ∈ s.bgu.peers, p.fresh = false then 2 else 0) +
    (if s.tmu.settled = true then 4 else 0) + (if s.sou.sensePresent = true then 0 else 8) +
    (if s.fcu.logFull = true then 16 else 0) + (if s.rcu.clamped = true then 32 else 0) := by
  simp only [← viewStale_iff, State.beaconFlags, bitOf_eq]
  cases s.sou.sensePresent <;> rfl

/-- With no attempt under way the head of the lowest class that holds a frame goes out (R161). -/
theorem startAttempt_of_first {s : State} {c : FrameClass} (ha : s.bus.attempt = none)
    (hc : s.bus.firstClass = some c) : startAttempt s =
      { s with bus := { s.bus with attempt := some ⟨c, s.tmu.rack, s.headBytes s.tmu.rack c⟩ } } := by
  simp only [startAttempt, ha, hc]

/-- Settles O24: the layouts, and the head of each class. -/
theorem attemptSendsTheLowestClass : Obligations.AttemptSendsTheLowestClass := by
  refine ⟨fun cls slot dest kind payload bytes hlen hb => ?_, fun n d hd => ?_, beaconFlags_eq,
    fun s hlive ha => ?_⟩
  · rw [hb]
    exact frameBytes_layout cls slot dest kind hlen
  · rw [hd, runNoticeBytes_eq]
    refine ⟨by rw [fieldBytes_length]; simp [RunNotice.fields], longAt_fieldBytes_lt rfl n.rack.s.isLt,
      longAt_fieldBytes rfl, byteAt_fieldBytes_lt rfl n.verdict.code_lt,
      byteAt_fieldBytes_lt rfl n.cause.code_lt, byteAt_fieldBytes rfl,
      byteAt_fieldBytes_lt rfl n.phase.code_lt, wordAt_fieldBytes rfl, byteAt_fieldBytes rfl,
      byteAt_fieldBytes rfl, wordAt_fieldBytes rfl, (byteAt_fieldBytes rfl).trans ?_⟩
    unfold bitOf
    split_ifs <;> rfl
  · have hexec {c : FrameClass} {b : List Byte} (hc : s.bus.firstClass = some c)
        (hb : s.headBytes s.tmu.rack c = b) : exec .attemptStart s =
          .next { s with bus := { s.bus with attempt := some ⟨c, s.tmu.rack, b⟩ } } := by
      rw [← hb, ← startAttempt_of_first ha hc]
      exact live_next hlive
    refine ⟨fun claim own r hq => ?_, fun r hq => ?_, fun q qs hb hn => ?_, fun q qs hb hn hr => ?_,
      fun hb hn hr hbeacon => ?_, fun hb hn hr hbeacon => ?_⟩
    · exact hexec (by simp [Bif.firstClass, hq]) (by simp only [State.headBytes, hq]; rfl)
    · exact hexec (by simp [Bif.firstClass, hq]) (by simp only [State.headBytes, hq]; rfl)
    · refine hexec (by simp [Bif.firstClass, hb, hn]) ?_
      simp only [State.headBytes, hn]
      cases q.frame <;> rfl
    · exact hexec (by simp [Bif.firstClass, hb, hn, hr]) (by simp only [State.headBytes, hr]; rfl)
    · refine hexec (by simp [Bif.firstClass, hb, hn, hr, Option.isSome_iff_ne_none.mpr hbeacon]) ?_
      rfl
    · have hnone : s.bus.firstClass = none := by simp [Bif.firstClass, hb, hn, hr, hbeacon]
      have hidle : startAttempt s = s := by simp only [startAttempt, ha, hnone]
      exact (live_next hlive).trans (congrArg _ hidle)

/-! ### The check (R160) -/

/-- A shift whose top bit is clear doubles. -/
theorem crcBit_toNat {c : BitVec 16} (h : c.toNat < 32768) : (crcBit c).toNat = 2 * c.toNat := by
  have htop : c.getLsbD 15 = false := Nat.testBit_lt_two_pow h
  rw [crcBit, htop, if_neg (by decide), BitVec.toNat_shiftLeft, Nat.shiftLeft_eq, Nat.mod_eq_of_lt (by omega)]
  omega

/-- The lowest bit after a shift is the bit that was shifted out. -/
theorem crcBit_getLsbD (c : BitVec 16) (i : Nat) (hi : i < 16) :
    (crcBit c).getLsbD i = ((decide (0 < i) && c.getLsbD (i - 1)) ^^
      (c.getLsbD 15 && (0x1021#16).getLsbD i)) := by
  unfold crcBit
  cases c.getLsbD 15 <;> simp [hi, Nat.pos_iff_ne_zero, BitVec.getLsbD_eq_getElem (show i - 1 < 16 by omega)]

theorem crcBit_injective : Function.Injective crcBit := by
  intro x y h
  have hbit (i : Nat) (hi : i < 16) := congrArg (fun c => BitVec.getLsbD c i) h
  have htop : x.getLsbD 15 = y.getLsbD 15 := by
    have h0 : (crcBit x).getLsbD 0 = (crcBit y).getLsbD 0 := hbit 0 (by decide)
    rw [crcBit_getLsbD x 0 (by decide), crcBit_getLsbD y 0 (by decide)] at h0
    simpa using h0
  refine BitVec.eq_of_getLsbD_eq fun i hi => ?_
  rcases Nat.lt_succ_iff_lt_or_eq.mp hi with hlt | rfl
  · have hs := hbit (i + 1) (by omega)
    rw [crcBit_getLsbD x _ (by omega), crcBit_getLsbD y _ (by omega), htop] at hs
    simpa using hs
  · exact htop

/-- A byte enters at the top, and eight shifts follow. -/
theorem crcByte_eq (c : BitVec 16) (b : Byte) :
    crcByte c b = crcBit^[8] (c ^^^ (b.setWidth 16 <<< 8)) := rfl

/-- Eight shifts of a byte at the bottom take it to the top. -/
theorem crcShift_toNat {c : BitVec 16} (h : c.toNat < 256) : (crcBit^[8] c).toNat = 256 * c.toNat := by
  have hstep (n : Nat) (hn : n ≤ 8) : (crcBit^[n] c).toNat = 2 ^ n * c.toNat := by
    induction n with
    | zero => simp
    | succ n ih =>
      have ih := ih (by omega)
      have hpow : 2 ^ n ≤ 2 ^ 7 := Nat.pow_le_pow_right (by decide) (by omega)
      rw [Function.iterate_succ_apply', crcBit_toNat, ih, pow_succ]
      · ring
      · rw [ih]
        calc 2 ^ n * c.toNat ≤ 2 ^ 7 * c.toNat := Nat.mul_le_mul_right _ hpow
          _ < 32768 := by omega
  exact hstep 8 (Nat.le_refl 8)

theorem crcByte_injective_left (b : Byte) : Function.Injective fun c => crcByte c b := by
  intro c d h
  exact BitVec.xor_left_inj (b.setWidth 16 <<< 8) |>.mp ((crcBit_injective.iterate 8) h)

theorem crcByte_injective_right (c : BitVec 16) : Function.Injective (crcByte c) := by
  intro x y h
  have hshift := (BitVec.xor_right_inj c).mp ((crcBit_injective.iterate 8) h)
  refine BitVec.eq_of_getLsbD_eq fun i hi => ?_
  have hbit := congrArg (fun v => BitVec.getLsbD v (i + 8)) hshift
  simpa [hi, show i + 8 < 16 by omega, show i < 16 by omega] using hbit

theorem crc_foldl_injective (bytes : List Byte) : Function.Injective fun c => bytes.foldl crcByte c := by
  induction bytes with
  | nil => exact fun _ _ h => h
  | cons b bs ih => exact ih.comp (crcByte_injective_left b)

/-- The check's own bytes take it to 0. -/
theorem crcByte_self (c : BitVec 16) :
    crcByte (crcByte c (BitVec.ofNat 8 (c.toNat / 256))) (BitVec.ofNat 8 c.toNat) = 0 := by
  have hlow : c ^^^ ((BitVec.ofNat 8 (c.toNat / 256)).setWidth 16 <<< 8) =
      BitVec.ofNat 16 (c.toNat % 256) := by
    have hc := c.isLt
    have hhigh : (c.toNat / 256 % 2 ^ 8 % 2 ^ 16) <<< 8 % 2 ^ 16 = (c.toNat / 2 ^ 8) <<< 8 := by
      rw [Nat.shiftLeft_eq, Nat.shiftLeft_eq]
      omega
    refine BitVec.eq_of_getLsbD_eq fun i hi => ?_
    rw [BitVec.getLsbD_xor, BitVec.getLsbD, BitVec.getLsbD, BitVec.getLsbD, BitVec.toNat_shiftLeft,
      BitVec.toNat_setWidth, BitVec.toNat_ofNat, BitVec.toNat_ofNat, hhigh,
      Nat.mod_eq_of_lt (a := c.toNat % 256) (by omega), show (256 : Nat) = 2 ^ 8 from rfl,
      Nat.testBit_mod_two_pow, Nat.testBit_shiftLeft, Nat.testBit_div_two_pow]
    rcases Nat.lt_or_ge i 8 with h | h
    · simp [h, Nat.not_le.mpr h]
    · simp [h, Nat.not_lt.mpr h, Nat.sub_add_cancel h]
  have hc := c.isLt
  have hshifted : crcByte c (BitVec.ofNat 8 (c.toNat / 256)) =
      (BitVec.ofNat 8 c.toNat).setWidth 16 <<< 8 := by
    rw [crcByte_eq, hlow]
    refine BitVec.eq_of_toNat_eq ?_
    rw [crcShift_toNat (by rw [BitVec.toNat_ofNat]; omega), BitVec.toNat_ofNat, BitVec.toNat_shiftLeft,
      BitVec.toNat_setWidth, BitVec.toNat_ofNat, Nat.shiftLeft_eq]
    omega
  rw [hshifted, crcByte_eq, BitVec.xor_self]
  decide

/-- Settles O25: what the check's bytes leave, and that each byte of a run is taken injectively. -/
theorem checkCatchesAnyOneByte : Obligations.CheckCatchesAnyOneByte := by
  refine ⟨fun bytes => ?_, fun before after x y hne h => ?_⟩
  · have hbytes : beBytes 2 (crc16 bytes).toNat =
        [BitVec.ofNat 8 ((crc16 bytes).toNat / 256), BitVec.ofNat 8 (crc16 bytes).toNat] := by
      simp [beBytes]
    rw [crc16, List.foldl_append, hbytes]
    exact crcByte_self (crc16 bytes)
  · rw [crc16, crc16, List.foldl_append, List.foldl_append] at h
    exact hne (crcByte_injective_right _ (crc_foldl_injective after h))

end Sys2Proof.Machine
end

section
/-! SUPPORT. The peer view under the frames of peers and with time, the retry causes, and the frames of
the station's own slot. -/

namespace Sys2Proof.Machine

/-! ### The entry that a frame acts on (R53, R54, R62) -/

theorem heldClaim_eq (slot : Nat) (s : State) : s.heldClaim slot = (s.peerEntry slot).committed := by
  unfold State.heldClaim State.peerEntry
  cases findPeer slot s.bgu.peers <;> rfl

theorem heldIntent_eq (slot : Nat) (s : State) : s.heldIntent slot = (s.peerEntry slot).intent := by
  unfold State.heldIntent State.peerEntry
  cases findPeer slot s.bgu.peers <;> rfl

/-- The view with the entry of a slot as a frame leaves it: FRESH and heard now (R53). -/
def State.heardPeers (slot : Nat) (act : Peer → Peer) (s : State) : List Peer :=
  putPeer { act (s.peerEntry slot) with lastHeard := s.tmu.uptime, fresh := true } s.bgu.peers

/-- The view after a frame holds the entry that the frame left, and agrees on every other slot. -/
theorem heardPeers_onlyPeer {slot : Nat} {act : Peer → Peer} {s : State} {p : Peer}
    (hact : (act (s.peerEntry slot)).slot = slot)
    (hp : { act (s.peerEntry slot) with lastHeard := s.tmu.uptime, fresh := true } = p) :
    s.onlyPeer slot p (s.heardPeers slot act) := by
  have hput := findPeer_putPeer
    { act (s.peerEntry slot) with lastHeard := s.tmu.uptime, fresh := true } s.bgu.peers
  rw [hact] at hput
  exact ⟨hput.1.trans (congrArg some hp), hput.2⟩

/-- A frame that gives no retry cause changes the view only (R54, R62). -/
theorem hearPeer_of_noRetry {f : RxFrame} {act : Peer → Peer} {s : State} (hpeer : s.fromPeer f = true)
    (h : s.bgu.waitingSince = none ∨ (s.peerEntry f.source.toNat).committed ≤
      (act (s.peerEntry f.source.toNat)).committed) :
    s.hearPeer f act =
      { s with bgu := { s.bgu with peers := s.heardPeers f.source.toNat act } } := by
  unfold State.hearPeer
  rw [if_pos hpeer]
  dsimp only
  split
  · next hlt =>
    rcases h with h | h
    · exact if_neg (by simp [h])
    · exact absurd hlt (Nat.not_lt.mpr h)
  · rfl

/-- A frame that lowers its entry's claim is a retry cause (R62). -/
theorem hearPeer_of_lower {f : RxFrame} {act : Peer → Peer} {s : State} (hpeer : s.fromPeer f = true)
    (h : (act (s.peerEntry f.source.toNat)).committed < (s.peerEntry f.source.toNat).committed) :
    s.hearPeer f act = State.retryCause
      { s with bgu := { s.bgu with peers := s.heardPeers f.source.toNat act } } := by
  unfold State.hearPeer
  rw [if_pos hpeer]
  exact if_pos h

/-- What a BEACON leaves of its entry (R54). -/
theorem takeBeacon_entry (f : RxFrame) (s : State) :
    s.onlyPeer f.source.toNat
      ⟨f.source.toNat, min (wordAt f.payload 12) 400,
        if byteAt f.payload 8 = 1 then s.heldIntent f.source.toNat else none, s.tmu.uptime, true⟩
      (s.heardPeers f.source.toNat (Peer.takeBeacon f.payload)) := by
  refine heardPeers_onlyPeer (peerEntry_slot _ s) ?_
  simp only [Peer.takeBeacon, peerEntry_slot, heldIntent_eq]
  rfl

theorem takeCommit_entry (f : RxFrame) (s : State) :
    s.onlyPeer f.source.toNat
      ⟨f.source.toNat, min (wordAt f.payload 0) 400, none, s.tmu.uptime, true⟩
      (s.heardPeers f.source.toNat (Peer.takeCommit f.payload)) := by
  refine heardPeers_onlyPeer (peerEntry_slot _ s) ?_
  simp only [Peer.takeCommit, peerEntry_slot]
  rfl

/-! ### A BEACON's time sample (R156, R157) -/

/-- A time sample that promotes no intent moves the clock by its lead, and settles it. -/
theorem timeSample_eq {ts tr : RackTime} {lead : Int} {s : State} (hl : lead = leadNanos ts tr)
    (h : (∀ w, s.bgu.intent ≠ some ⟨w, .held⟩) ∨ s.tmu.settled = true) :
    s.timeSample ts tr = { s with tmu := { s.tmu with
      rack := if 2000 < lead then addNanos s.tmu.rack lead.toNat else s.tmu.rack
      jumps := if 2000 < lead then min (s.tmu.jumps + 1) 65535 else s.tmu.jumps
      settled := true } } := by
  have hfollow : s.tmu.follow ts tr = { s.tmu with
      rack := if 2000 < lead then addNanos s.tmu.rack lead.toNat else s.tmu.rack
      jumps := if 2000 < lead then min (s.tmu.jumps + 1) 65535 else s.tmu.jumps } := by
    unfold Tmu.follow
    rw [← hl]
    split <;> rfl
  generalize (if 2000 < lead then addNanos s.tmu.rack lead.toNat else s.tmu.rack) = rack at hfollow ⊢
  unfold State.timeSample
  rw [hfollow]
  generalize (if 2000 < lead then min (s.tmu.jumps + 1) 65535 else s.tmu.jumps) = jumps
  obtain ⟨hstays, hsettles⟩ :=
    becomeSettled_spec { s with tmu := { s.tmu with rack := rack, jumps := jumps } }
  cases hs : s.tmu.settled
  · have hheld := h.resolve_right (by simp [hs])
    refine (hsettles hs).trans ?_
    exact (promoteIntent_spec _).choose_spec.choose_spec.choose_spec.2 (.inl hheld)
  · refine (hstays hs).trans ?_
    rw [← hs]

/-- A BEACON of a peer acts on its entry, and is then a time sample (R54, R156). -/
theorem exec_beaconReceived {f : RxFrame} {s : State} (h : s.hears 0x01 f = true)
    (hlen : f.payload.length = 17) :
    exec (.beaconReceived f) s = .next ((s.hearPeer f (Peer.takeBeacon f.payload)).timeSample
      ⟨BitVec.ofNat 32 (longAt f.payload 0), longAt f.payload 4⟩ (s.receiveStamp f)) := by
  rw [exec_heard (c := .beaconReceived f) (deliver := State.takeBeacon f) rfl h rfl]
  exact congrArg _ (if_pos hlen)

theorem exec_commitReceived {f : RxFrame} {s : State} (h : s.hears 0x03 f = true)
    (hlen : f.payload.length = 2) :
    exec (.commitReceived f) s = .next (s.hearPeer f (Peer.takeCommit f.payload)) := by
  rw [exec_heard (c := .commitReceived f) (deliver := State.takeCommit f) rfl h rfl]
  exact congrArg _ (if_pos hlen)

/-- Settles O20: the entry, and the sample after it. -/
theorem beaconUpdatesItsPeerAndTheClock : Obligations.BeaconUpdatesItsPeerAndTheClock := by
  intro f lead s h hslot hlen hretry hheld hlead
  have hpeer := (hears_spec h).2.2 hslot
  rw [heldClaim_eq] at hretry
  refine ⟨_, ?_, takeBeacon_entry f s⟩
  rw [exec_beaconReceived h hlen, hearPeer_of_noRetry hpeer hretry]
  exact congrArg _ (timeSample_eq hlead hheld)

/-- Settles O21. -/
theorem budgetFramesUpdateTheirPeer : Obligations.BudgetFramesUpdateTheirPeer := by
  refine fun f s hslot => ⟨fun h hlen => ?_, fun h hlen hretry => ?_⟩
  · refine ⟨_, exec_intentReceived h hslot hlen,
      heardPeers_onlyPeer (act := Peer.takeIntent f.payload s.tmu.uptime) (peerEntry_slot _ s) ?_⟩
    simp only [Peer.takeIntent, peerEntry_slot, heldClaim_eq]
    rfl
  · rw [heldClaim_eq] at hretry
    refine ⟨_, ?_, takeCommit_entry f s⟩
    rw [exec_commitReceived h hlen, hearPeer_of_noRetry ((hears_spec h).2.2 hslot) hretry]

/-! ### Entries in time (R55, R56) -/

/-- Without an entry's slot the view finds nothing there, and everything else as before. -/
theorem findPeer_filter (slot : Nat) (peers : List Peer) :
    findPeer slot (peers.filter fun p => decide (p.slot ≠ slot)) = none ∧
      ∀ n, n ≠ slot → findPeer n (peers.filter fun p => decide (p.slot ≠ slot)) = findPeer n peers := by
  refine ⟨List.find?_eq_none.mpr fun p hp => ?_, fun n hn => ?_⟩
  · simpa using (List.mem_filter.mp hp).2
  · rw [findPeer, List.find?_filter, findPeer]
    congr 1
    funext p
    by_cases hp : p.slot = n <;> simp [hp, hn]

/-- An entry changed in place is found as it was changed, and every other one as before. -/
theorem changePeer_onlyPeer {slot : Nat} {act : Peer → Peer} {s : State} {p : Peer}
    (hslot : ∀ q, (act q).slot = q.slot) (hp : findPeer slot s.bgu.peers = some p) :
    s.onlyPeer slot (act p) (changePeer slot act s.bgu.peers) := by
  refine ⟨?_, fun n hn => ?_⟩ <;> rw [findPeer_changePeer slot act hslot]
  · simp [hp, findPeer_slot hp]
  · cases hq : findPeer n s.bgu.peers with
    | none => rfl
    | some q => simp [findPeer_slot hq, hn]

theorem age_slot (now : Uptime) (p : Peer) : (p.age now).slot = p.slot := by
  unfold Peer.age
  split <;> rfl

theorem closeOldIntent_slot (now : Uptime) (p : Peer) : (p.closeOldIntent now).slot = p.slot := by
  unfold Peer.closeOldIntent
  (repeat' split) <;> rfl

/-- The removal of an entry is a retry cause where an entry of the slot is due, and nothing otherwise
(R55, R62). -/
theorem peerRemoved_of_expired {slot : BitVec 5} {p : Peer} {s : State} (hp : p ∈ s.bgu.peers)
    (hslot : p.slot = slot.toNat) (hdue : 10000 ≤ elapsed s.tmu.uptime p.lastHeard) :
    peerRemoved slot s = State.retryCause { s with bgu := { s.bgu with
      peers := s.bgu.peers.filter fun p => decide (p.slot ≠ slot.toNat) } } :=
  if_pos (List.any_eq_true.mpr ⟨p, hp, by simp [hslot, Peer.expired, hdue]⟩)

theorem peerRemoved_of_heard {slot : BitVec 5} {s : State} (h : ∀ q ∈ s.bgu.peers,
    q.slot = slot.toNat → elapsed s.tmu.uptime q.lastHeard < 10000) : peerRemoved slot s = s := by
  refine if_neg fun hany => ?_
  obtain ⟨q, hq, hdue⟩ := List.any_eq_true.mp hany
  simp only [Peer.expired, Bool.and_eq_true, decide_eq_true_eq] at hdue
  exact absurd (h q hq hdue.1) (Nat.not_lt.mpr hdue.2)

/-- Settles O23. -/
theorem peerEntriesAge : Obligations.PeerEntriesAge := by
  refine fun slot p s hlive hp => ⟨⟨_, live_next hlive, ?_⟩, fun i hi => ⟨_, live_next hlive, ?_⟩,
    fun hw hdue => ⟨_, ?_, findPeer_filter slot.toNat s.bgu.peers⟩, fun hheard => ?_⟩
  · have haged : p.age s.tmu.uptime =
        { p with fresh := p.fresh && decide (elapsed s.tmu.uptime p.lastHeard < 1000) } := by
      unfold Peer.age
      split
      · next h => simp [Nat.not_lt.mpr h]
      · next h => simp [Nat.not_le.mp h]
    exact haged ▸ changePeer_onlyPeer (age_slot s.tmu.uptime) hp
  · have hclosed : p.closeOldIntent s.tmu.uptime =
        { p with intent := if 1000 ≤ elapsed s.tmu.uptime i.heard then none else some i } := by
      simp only [Peer.closeOldIntent, hi]
      split
      · rfl
      · cases p
        cases hi
        rfl
    exact hclosed ▸ changePeer_onlyPeer (closeOldIntent_slot s.tmu.uptime) hp
  · refine (live_next hlive).trans ?_
    rw [peerRemoved_of_expired (List.mem_of_find?_eq_some hp) (findPeer_slot hp) hdue]
    exact congrArg _ (if_neg (by simp [hw]))
  · exact (live_next hlive).trans (congrArg _ (peerRemoved_of_heard hheard))

/-! ### Retries (R62) -/

theorem retryCause_of_waiting {s : State} {u : Uptime} (h : s.bgu.waitingSince = some u) :
    s.retryCause = s.beginRetry := if_pos (by simp [h])

theorem retryExpires_of_due {s : State} {u : Uptime} (h : s.bgu.waitingSince = some u)
    (hdue : 2000 ≤ elapsed s.tmu.uptime u) : retryExpires s = s.beginRetry := by
  simp only [retryExpires, h, if_pos hdue]

/-- A retry from a view asks the step's claim, with that view (R62). -/
theorem retry_of_view {s : State} (peers : List Peer) (hi : s.bgu.intent = none)
    (ha : s.bus.attempt = none) (hs : s.tmu.settled = true) (hl : s.bgu.listening = 0)
    (hacc : s.bgu.accumulator < 600000) :
    State.beginRetry { s with bgu := { s.bgu with peers := peers } } = { s with
      rcu := { s.rcu with run := .claiming }
      bgu := { s.bgu with
        waitingSince := none, intent := some ⟨s.theStep.claimW, .queued⟩, peers := peers }
      bus := { s.bus with budget := some ⟨.intent s.theStep.claimW true, 0⟩ } } :=
  beginRetry_spec { s with bgu := { s.bgu with peers := peers } } hi ha hs hl hacc

/-- Settles O22: every cause begins the retry with the view that it leaves. -/
theorem retryCausesAskTheSameClaim : Obligations.RetryCausesAskTheSameClaim := by
  intro c since s hlive hw hi ha hs hl hacc hcause
  have hbegins (peers : List Peer) := retry_of_view peers hi ha hs hl hacc
  have hretry (peers : List Peer) :=
    (retryCause_of_waiting (s := { s with bgu := { s.bgu with peers := peers } }) hw).trans (hbegins peers)
  rcases hcause with ⟨rfl, hdue⟩ | ⟨slot, p, rfl, hp, hslot, hdue⟩ | ⟨f, rfl, h, hlen, hslot, hlow⟩ |
    ⟨f, rfl, h, hlen, hslot, hlow⟩
  · refine ⟨_, (live_next hlive).trans (congrArg _ ((retryExpires_of_due hw hdue).trans (hbegins _))), ?_⟩
    exact ⟨rfl, rfl, fun _ => rfl, nofun, nofun, nofun, fun _ => rfl, rfl, rfl, rfl, rfl, rfl, rfl, rfl, rfl⟩
  · have hexec := (peerRemoved_of_expired hp hslot hdue).trans
      (hretry _)
    refine ⟨_, (live_next hlive).trans (congrArg _ hexec), ?_⟩
    refine ⟨rfl, rfl, nofun, fun n hn => ?_, nofun, nofun, fun _ => rfl, rfl, rfl, rfl, rfl, rfl, rfl, rfl, rfl⟩
    cases hn
    exact findPeer_filter slot.toNat s.bgu.peers
  · rw [heldClaim_eq] at hlow
    have hexec := (hearPeer_of_lower (act := Peer.takeCommit f.payload) ((hears_spec h).2.2 hslot) hlow).trans
      (hretry _)
    refine ⟨_, (exec_commitReceived h hlen).trans (congrArg _ hexec), ?_⟩
    refine ⟨rfl, rfl, nofun, nofun, fun g hg => ?_, nofun, fun _ => rfl, rfl, rfl, rfl, rfl, rfl, rfl, rfl, rfl⟩
    cases hg
    exact takeCommit_entry f s
  · rw [heldClaim_eq] at hlow
    have hheard := (hearPeer_of_lower (act := Peer.takeBeacon f.payload) ((hears_spec h).2.2 hslot) hlow).trans
      (hretry _)
    have hexec := exec_beaconReceived h hlen
    rw [hheard, timeSample_eq rfl (.inr (by exact hs))] at hexec
    refine ⟨_, hexec, rfl, rfl, nofun, nofun, nofun, fun g lead hg hlead => ?_, fun hne => absurd rfl (hne f),
      rfl, rfl, rfl, rfl, rfl, rfl, rfl, rfl⟩
    cases hg
    refine ⟨takeBeacon_entry f s, ?_⟩
    rw [← hlead]
    generalize (if 2000 < lead then addNanos s.tmu.rack lead.toNat else s.tmu.rack) = rack
    exact congrArg (fun b => Tmu.mk rack s.tmu.uptime _ b s.tmu.settleTimer) hs.symm

/-! ### The slot conflict (R69) -/

/-- A command other than a reset keeps a slot conflict (R69). -/
theorem exec_slotConflict {c : Instr} {s t : State} (h : exec c s = .next t) (hp : c ≠ .powerOnReset)
    (hr : c ≠ .rackReset) (hc : s.bgu.slotConflict = true) : t.bgu.slotConflict = true := by
  let P : State → Prop := fun t => t.bgu.slotConflict = true
  rcases exec_quiet h with hq | rfl | rfl | ⟨slot, code, rfl⟩ | ⟨f, hf⟩ | rfl | rfl | ⟨n, rfl⟩ |
    ⟨x, rfl⟩ | ⟨uv, rfl⟩
  · exact hq.toStill.conflict hc
  · exact absurd rfl hp
  · exact absurd rfl hr
  · exact ite_next_of (P := P) h (fun _ => (endReset_still slot code s).conflict hc) fun _ => hc
  · refine live_of (P := P) ((exec_of_frameOf hf).symm.trans h) hc fun hs => ?_
    rcases anyFrame_quiet kindBeacon f hs with hq | ⟨-, -, u, -, hstill⟩
    · exact hq.toStill.conflict hc
    · exact hstill.conflict hc
  · exact live_of (P := P) h hc fun _ => (outputTicks_quiet s).toStill.conflict hc
  · have hrack (r : RackTime) : P (s.atRack r) := hc
    exact live_of (P := P) h hc fun _ => rackAdvances_eq s ▸ hrack _
  · refine live_of (P := P) h hc fun _ => ?_
    obtain ⟨-, c, a, hstill⟩ := loadCompletes_keeps n s
    exact hstill.conflict hc
  · obtain ⟨-, m, hheld⟩ := heldReading_keeps x s
    obtain ⟨-, m', hlive⟩ := fixtureChanges_keeps x s
    exact ite_next_of (P := P) h (fun _ => hheld.conflict hc) fun _ => hlive.conflict hc
  · refine live_of (P := P) h hc fun _ => ?_
    obtain ⟨a, n, hq⟩ := completeConversion_quiet uv s
    exact hq.toStill.conflict hc

theorem respond_bgu (k : Byte) (f : RxFrame) (c : ResponseCode) (d : List Byte) (s : State) :
    (s.respond k f c d).bgu = s.bgu := by
  unfold State.respond
  split <;> rfl

theorem control_peers {k : Byte} {act : State → Answer} (hc : Controls k act) (s : State) :
    (act s).after.bgu.peers = s.bgu.peers := by
  cases hc
  case start => exact (takeStart_moves s).peers
  case pause => exact (takePause_moves s).peers
  case resume => exact (takeResume_moves s).peers
  case abort => exact (takeAbort_moves s).peers
  case clear => exact (takeClear_moves s).peers
  case snapshot => rfl

theorem controlRequest_peers {k : Byte} {act : State → Answer} (hc : Controls k act) (f : RxFrame)
    (s : State) : (s.controlRequest k f act).bgu.peers = s.bgu.peers := by
  unfold State.controlRequest
  dsimp only
  (repeat' split)
  · rfl
  · rw [respond_bgu]
  · rw [respond_bgu]
  · rw [respond_bgu]
    exact control_peers hc s
  · exact control_peers hc s
  · rfl

/-- A frame of the own slot acts on no entry (R69). -/
theorem hearPeer_of_own {f : RxFrame} {act : Peer → Peer} {s : State} (h : f.source = s.slot.setWidth 6) :
    s.hearPeer f act = s := if_neg (by simp [State.fromPeer, h])

/-- A time sample moves the clock, and the stage of the own intent at most. -/
theorem timeSample_spec (ts tr : RackTime) (s : State) : ∃ u i b bn, s.timeSample ts tr = { s with
    tmu := u, bgu := { s.bgu with intent := i }, bus := { s.bus with budget := b, budgetNext := bn } } := by
  unfold State.timeSample
  generalize s.tmu.follow ts tr = u
  unfold State.becomeSettled
  split
  · exact ⟨u, s.bgu.intent, s.bus.budget, s.bus.budgetNext, rfl⟩
  · obtain ⟨i, b, bn, e, -⟩ := promoteIntent_spec { s with tmu := { u with settled := true } }
    exact ⟨_, i, b, bn, e⟩

/-- A delivered BEACON, INTENT or COMMIT of the own slot is a time sample at most. -/
theorem budgetFrame_of_own {f : RxFrame} {s : State} (h : f.source = s.slot.setWidth 6) :
    s.takeIntent f = s ∧ s.takeCommit f = s ∧ ∃ u i b bn, s.takeBeacon f = { s with
      tmu := u, bgu := { s.bgu with intent := i }, bus := { s.bus with budget := b, budgetNext := bn } } := by
  refine ⟨?_, ?_, ?_⟩
  · unfold State.takeIntent
    split
    · exact hearPeer_of_own h
    · rfl
  · unfold State.takeCommit
    split
    · exact hearPeer_of_own h
    · rfl
  · unfold State.takeBeacon
    split
    · rw [hearPeer_of_own h]
      exact timeSample_spec _ _ s
    · exact ⟨s.tmu, s.bgu.intent, s.bus.budget, s.bus.budgetNext, rfl⟩

theorem noteSource_of_own {f : RxFrame} {s : State} (h : f.source = s.slot.setWidth 6) :
    s.noteSource f = { s with bgu := { s.bgu with slotConflict := true } } := if_pos h

/-- A frame of the own slot acts as on a station with a conflict. -/
theorem anyFrame_own_eq {k : Byte} {f : RxFrame} {s : State} (hi : frameIntact k f = true)
    (h : f.source = s.slot.setWidth 6) :
    anyFrame k f s = anyFrame k f { s with bgu := { s.bgu with slotConflict := true } } := by
  obtain ⟨deliver, -, e⟩ := anyFrame_delivers k f
  rw [e, e, State.hear, State.hear, if_pos hi, if_pos hi, noteSource_of_own h, noteSource_of_own (by exact h)]

/-- A frame of the own slot is heard as a conflict, and acts on no entry of the view (R69). -/
theorem anyFrame_own {k : Byte} {f : RxFrame} {s : State} (hi : frameIntact k f = true)
    (h : f.source = s.slot.setWidth 6) : (anyFrame k f s).bgu.peers = s.bgu.peers := by
  obtain ⟨deliver, hd, e⟩ := anyFrame_delivers k f
  rw [e, State.hear, if_pos hi, noteSource_of_own h]
  obtain ⟨hintent, hcommit, u, i, b, bn, hbeacon⟩ := budgetFrame_of_own (f := f)
    (s := { s with bgu := { s.bgu with slotConflict := true } }) h
  cases hd
  case beacon => rw [hbeacon]
  case intent => rw [hintent]
  case commit => rw [hcommit]
  case control act hc => exact controlRequest_peers hc f _
  case read act hr =>
    unfold State.readRequest
    dsimp only
    (repeat' split)
    · rfl
    · rw [respond_bgu]
    · rw [respond_bgu, (hr _ _).1]
    · rfl
  case other =>
    unfold State.takeOther State.unknownRequest
    (repeat' split)
    · rfl
    · rfl
    · rw [respond_bgu]
    · rfl

/-- A BEACON, an INTENT or a COMMIT of the own slot leaves the run and the committed claim (R69). -/
theorem budgetFrame_own {k : Byte} (hk : k ∈ [(0x01 : Byte), 0x02, 0x03]) {f : RxFrame} {s : State}
    (h : f.source = s.slot.setWidth 6) : (anyFrame k f s).rcu = s.rcu ∧
      (anyFrame k f s).bgu.committed = s.bgu.committed := by
  obtain ⟨hintent, hcommit, u, i, b, bn, hbeacon⟩ := budgetFrame_of_own (f := f)
    (s := { s with bgu := { s.bgu with slotConflict := true } }) h
  have hhear {deliver : State → State}
      (hd : (deliver { s with bgu := { s.bgu with slotConflict := true } }).rcu = s.rcu ∧
      (deliver { s with bgu := { s.bgu with slotConflict := true } }).bgu.committed = s.bgu.committed) :
      (s.hear k f deliver).rcu = s.rcu ∧ (s.hear k f deliver).bgu.committed = s.bgu.committed := by
    refine hear_of (P := fun t => t.rcu = s.rcu ∧ t.bgu.committed = s.bgu.committed) ⟨rfl, rfl⟩ ?_
    rw [noteSource_of_own h]
    exact hd
  simp only [List.mem_cons, List.not_mem_nil, or_false] at hk
  rcases hk with rfl | rfl | rfl
  · exact hhear (deliver := State.takeBeacon f) (by rw [hbeacon]; exact ⟨rfl, rfl⟩)
  · exact hhear (deliver := State.takeIntent f) (by rw [hintent]; exact ⟨rfl, rfl⟩)
  · exact hhear (deliver := State.takeCommit f) (by rw [hcommit]; exact ⟨rfl, rfl⟩)

/-- Under a slot conflict no START is accepted (R20, R69). -/
theorem judgeStart_of_conflict {s : State} (h : s.bgu.slotConflict = true) : s.judgeStart ≠ .ok := by
  unfold State.judgeStart
  rw [h]
  split <;> simp

/-- Settles O19. -/
theorem ownSlotFramesSetTheConflict : Obligations.OwnSlotFramesSetTheConflict := by
  refine ⟨fun c k f s hf hlive hi hown => ?_, fun c s t h hp hr hc => exec_slotConflict h hp hr hc,
    fun c k f s t hf hk hown h => ?_, fun s hc => ⟨fun f h hidle => ?_, fun u hlive hu hms => ?_, ?_,
    fun f h hp => ?_⟩⟩
  · have hexec : exec c s = .next (anyFrame k f s) := (exec_of_frameOf hf).trans (live_next hlive)
    refine ⟨_, hexec, ?_, anyFrame_own hi hown⟩
    rw [anyFrame_own_eq hi hown]
    exact exec_slotConflict (c := c) (s := { s with bgu := { s.bgu with slotConflict := true } })
      ((exec_of_frameOf hf).trans (live_next hlive)) (by rintro rfl; cases hf) (by rintro rfl; cases hf) rfl
  · exact live_of (P := fun t => t.rcu = s.rcu ∧ t.bgu.committed = s.bgu.committed)
      ((exec_of_frameOf hf).symm.trans h) ⟨rfl, rfl⟩ fun _ => budgetFrame_own hk hown
  · exact (startIsRefusedInOrder f s h).2.1 hidle hc
  · rw [exec_startSwitchRelease hlive, releaseSwitch_short hu hms, takeStart_after,
      if_neg (judgeStart_of_conflict (s := s.switchOpen) hc)]
    rfl
  · rw [beaconFlags_eq, hc, if_pos rfl]
    split_ifs <;> decide
  · have hread : State.readStatus (byteAt f.payload 1) s = ⟨s, .ok, s.statusPage1⟩ := by
      rw [hp]
      rfl
    refine ⟨s.statusPage1, exec_read (c := .status f) rfl rfl h hread, ?_⟩
    rw [statusPage1_eq, byteAt_fieldBytes (fields := s.page1Fields) (o := 24) rfl, hc]
    unfold bitOf
    rw [if_pos (rfl : true = true)]
    split_ifs <;> decide

end Sys2Proof.Machine
end

section
/-! SUPPORT. The ends of an attempt as equations: a loss, an abort by the class of its frame, a
completion with its recovery; and the closing with which isolation ends an active run. After them the
statements on the transmission of frames and on a silent bus. -/

namespace Sys2Proof.Machine

/-! ### Newer frames (R161) -/

theorem admitNewer_of_none {b : Bif} (hn : b.budgetNext = none) (hc : b.beaconNext = false) :
    b.admitNewer = b := by
  cases b
  simp_all [Bif.admitNewer]

theorem admitNewer_of_budget {b : Bif} {g : BudgetFrame} (hn : b.budgetNext = some g)
    (hc : b.beaconNext = false) :
    b.admitNewer = { b with budget := some ⟨g, 0⟩, budgetNext := none } := by
  cases b
  simp_all [Bif.admitNewer]

theorem admitNewer_of_beacon {b : Bif} (hn : b.budgetNext = none) (hc : b.beaconNext = true) :
    b.admitNewer = { b with beacon := some ⟨(), 0⟩, beaconNext := false } := by
  cases b
  simp_all [Bif.admitNewer]

/-! ### Attempts that fail (R161, R162) -/

/-- The Bus Interface once an attempt is over. -/
def Bif.idle (b : Bif) : Bif := { b with attempt := none }

theorem loseArbitration_of_attempt {a : Attempt} {s : State} (ha : s.bus.attempt = some a) :
    loseArbitration s = { s with bus := s.bus.idle.admitNewer } := by
  simp only [loseArbitration, ha]
  rfl

/-- A frame for which a newer one waits gives way to it (R161, log entry 17). -/
theorem abortAttempt_of_newer {a : Attempt} {s : State} (ha : s.bus.attempt = some a)
    (hw : s.bus.newerWaits a.cls = true) :
    abortAttempt s = { s with bus := s.bus.idle.admitNewer } := by
  have hw' : s.bus.idle.newerWaits a.cls = true := by
    cases h : a.cls <;> rw [h] at hw <;> exact hw
  simp only [abortAttempt, ha]
  exact if_pos hw'

/-- In isolation no abort is counted (R162). -/
theorem abortAttempt_of_isolated {a : Attempt} {s : State} (ha : s.bus.attempt = some a)
    (hn : s.bus.budgetNext = none) (hc : s.bus.beaconNext = false) (hi : s.bus.isolated = true) :
    abortAttempt s = { s with bus := s.bus.idle } := by
  simp only [abortAttempt, ha]
  cases a.cls <;> simp [Bif.newerWaits, hn, hc, hi, Bif.idle]

/-- Outside isolation an abort counts in the frame's run (R162). -/
theorem abortAttempt_counts {a : Attempt} {s : State} (ha : s.bus.attempt = some a)
    (hn : s.bus.budgetNext = none) (hc : s.bus.beaconNext = false)
    (hi : s.bus.isolated = false) :
    abortAttempt s = { s with bus := s.bus.idle.countAbort a.cls } := by
  simp only [abortAttempt, ha]
  cases a.cls <;> simp [Bif.newerWaits, hn, hc, hi, Bif.idle]

/-- A frame fails at its third abort (R162). -/
theorem failsAt_eq (n : Nat) : failsAt n = !decide (n < 2) := by
  rw [failsAt, ← decide_not]
  exact decide_eq_decide.mpr (by omega)

theorem exec_arbitrationLoss {s : State} (h : s.inReset = false) :
    exec .arbitrationLoss s = .next (loseArbitration s) := live_next h

theorem exec_busError {s : State} (h : s.inReset = false) :
    exec .busError s = .next (abortAttempt s) := live_next h

theorem exec_transmitComplete {s : State} (h : s.inReset = false) :
    exec .transmitComplete s = .next (completeAttempt s) := live_next h

/-- Settles O26, by the equations of the abort for each class. -/
theorem failedAttemptsKeepTheirFrame : Obligations.FailedAttemptsKeepTheirFrame := by
  refine ⟨fun a s hlive ha => ?_, fun a s hlive ha hn hc => ?_, fun a s hlive ha => ?_⟩
  · rw [exec_arbitrationLoss hlive, loseArbitration_of_attempt ha]
    exact ⟨fun hn hc => by rw [admitNewer_of_none (b := s.bus.idle) hn hc]; rfl,
      fun g hn hc => by rw [admitNewer_of_budget (b := s.bus.idle) hn hc]; rfl,
      fun hn hc => by rw [admitNewer_of_beacon (b := s.bus.idle) hn hc]; rfl⟩
  · refine ⟨fun hi => ?_, fun q hi hcls hq => ?_, fun q qs hi hcls hq => ?_,
      fun q qs hi hcls hq => ?_, fun q hi hcls hq => ?_⟩
    · rw [exec_busError hlive, abortAttempt_of_isolated ha hn hc hi]
      rfl
    all_goals
      rw [exec_busError hlive, abortAttempt_counts ha hn hc hi, hcls]
    · simp only [Bif.countAbort, Bif.abortBudget, Bif.idle, hq, failsAt_eq]
      by_cases h2 : q.errorRun < 2
      · simp [h2]
      · obtain ⟨frame, n⟩ := q
        rcases frame with ⟨c, own | own⟩ | _ <;> simp_all [BudgetFrame.afterFailure]
    · simp only [Bif.countAbort, Bif.abortNotice, Bif.idle, hq, failsAt_eq]
      by_cases h2 : q.errorRun < 2 <;> simp [h2, satInc]
    · simp only [Bif.countAbort, Bif.abortResponse, Bif.idle, hq, failsAt_eq]
      by_cases h2 : q.errorRun < 2 <;> simp [h2, satInc]
    · simp only [Bif.countAbort, Bif.abortBeacon, Bif.idle, hq, failsAt_eq]
      by_cases h2 : q.errorRun < 2 <;> simp [h2]
  · rw [exec_busError hlive]
    refine ⟨fun g hcls hn hc => ?_, fun hcls hn hc => ?_⟩
    · rw [abortAttempt_of_newer ha (by rw [hcls]; simp [Bif.newerWaits, hn]),
        admitNewer_of_budget (b := s.bus.idle) hn hc]
      rfl
    · rw [abortAttempt_of_newer ha (by rw [hcls]; simp [Bif.newerWaits, hc]),
        admitNewer_of_beacon (b := s.bus.idle) hn hc]
      rfl

/-! ### Completion (R50, R161, R165) -/

/-- A success of the transmission: the frame has left its class, a newer one stands there, and the
success timer starts again (R161, R165). -/
def State.sent (c : FrameClass) (s : State) : State :=
  { s with bus := { (s.bus.idle.removeHead c).admitNewer with
      lastSuccess := s.tmu.uptime, successTimer := some 2000 } }

theorem completeAttempt_of_attempt {a : Attempt} {s : State} (ha : s.bus.attempt = some a) :
    completeAttempt s =
      (if decide (a.cls = .budget) && s.bus.ownIntentHead then (s.sent a.cls).openWindow a.stamp
       else s.sent a.cls).recover := by
  simp only [completeAttempt, ha]
  rfl

/-- A frame that is not the own INTENT opens no window (R50). -/
theorem completeAttempt_of_other {a : Attempt} {s : State} (ha : s.bus.attempt = some a)
    (hown : (decide (a.cls = .budget) && s.bus.ownIntentHead) = false) :
    completeAttempt s = (s.sent a.cls).recover := by
  rw [completeAttempt_of_attempt ha, hown, if_neg Bool.false_ne_true]

theorem completeAttempt_of_own {a : Attempt} {s : State} (ha : s.bus.attempt = some a)
    (hcls : a.cls = .budget) (hown : s.bus.ownIntentHead = true) :
    completeAttempt s = ((s.sent .budget).openWindow a.stamp).recover := by
  rw [completeAttempt_of_attempt ha, hcls, hown]
  rfl

/-- A window that opens changes the own intent and the window only (R50). -/
theorem openWindow_spec (stamp : RackTime) (s : State) :
    ∃ i w, s.openWindow stamp = { s with bgu := { s.bgu with intent := i, window := w } } := by
  unfold State.openWindow
  split
  · exact ⟨_, _, rfl⟩
  all_goals exact ⟨s.bgu.intent, s.bgu.window, rfl⟩

/-- Without an own intent that is queued no window opens (R50). -/
theorem openWindow_of_not_queued {stamp : RackTime} {s : State}
    (h : ∀ w, s.bgu.intent ≠ some ⟨w, .queued⟩) : s.openWindow stamp = s := by
  unfold State.openWindow
  split
  · next w hw => exact absurd hw (h w)
  all_goals rfl

theorem recover_of_not_isolated {s : State} (h : s.bus.isolated = false) : s.recover = s :=
  if_neg (by simp [h])

theorem recover_of_isolated {s : State} (h : s.bus.isolated = true) (hr : s.rcu.run = .isolated) :
    s.recover =
      ({ s with bus := { s.bus with isolated := false } }.leaveIsolated).tryLoad := by
  unfold State.recover
  rw [if_pos h]
  exact congrArg State.tryLoad (if_pos hr)

/-- The departure from ISOLATED with the load that may follow it (R30, R177). -/
theorem leaveIsolated_tryLoad (s : State) :
    (s.leaveIsolated.tryLoad.rcu = s.leaveIsolated.rcu ∧ s.leaveIsolated.tryLoad.sou = s.sou ∧
      s.leaveIsolated.tryLoad.wck = s.wck ∧ s.leaveIsolated.tryLoad.lanes = s.lanes ∧
      s.leaveIsolated.tryLoad.lines = s.lines ∧ s.leaveIsolated.tryLoad.fcu = s.fcu ∧
      s.leaveIsolated.tryLoad.tmu = s.tmu ∧ s.leaveIsolated.tryLoad.bgu = s.bgu ∧
      s.leaveIsolated.tryLoad.bus = s.bus) ∧
    (s.cfl.fixture = .present ∧ s.cfl.status = .absent →
      s.leaveIsolated.tryLoad.cfl = s.startLoad.cfl) ∧
    (¬(s.cfl.fixture = .present ∧ s.cfl.status = .absent) →
      s.leaveIsolated.tryLoad.cfl = s.cfl ∧ s.leaveIsolated.tryLoad.asc = s.asc) := by
  have hleft : s.leaveIsolated = { s with rcu := s.leaveIsolated.rcu } := by
    unfold State.leaveIsolated
    split <;> rfl
  have hrun : s.leaveIsolated.rcu.run = .idle ∨ s.leaveIsolated.rcu.run = .ended := by
    unfold State.leaveIsolated
    split
    · exact .inr rfl
    · exact .inl rfl
  generalize s.leaveIsolated.rcu = rcu at hleft hrun
  rw [hleft]
  by_cases hload : s.cfl.fixture = .present ∧ s.cfl.status = .absent
  · rw [tryLoad_of_present (s := { s with rcu := rcu }) hload.1 hload.2 hrun]
    exact ⟨⟨rfl, rfl, rfl, rfl, rfl, rfl, rfl, rfl, rfl⟩, fun _ => rfl, fun h => absurd hload h⟩
  · have hstay : ({ s with rcu := rcu } : State).tryLoad = { s with rcu := rcu } :=
      if_neg fun h => hload ⟨h.1, h.2.1⟩
    rw [hstay]
    exact ⟨⟨rfl, rfl, rfl, rfl, rfl, rfl, rfl, rfl, rfl⟩, fun h => absurd h hload,
      fun _ => ⟨rfl, rfl⟩⟩

/-- Outside isolation the success of a frame that is not the own INTENT is all that happens. -/
theorem exec_transmitComplete_other {a : Attempt} {s : State} (hlive : s.inReset = false)
    (ha : s.bus.attempt = some a) (hi : s.bus.isolated = false)
    (hown : (decide (a.cls = .budget) && s.bus.ownIntentHead) = false) :
    exec .transmitComplete s = .next (s.sent a.cls) := by
  rw [exec_transmitComplete hlive, completeAttempt_of_other ha hown,
    recover_of_not_isolated (by cases a.cls <;> exact hi)]

/-- Settles O27, by the class of the frame outside isolation and by `leaveIsolated_tryLoad` in it. -/
theorem transmitCompleteFreesTheClass : Obligations.TransmitCompleteFreesTheClass := by
  refine ⟨fun a s hlive ha hi => ⟨fun hcls hn hc => ?_, fun hcls hn hc => ?_, fun hcls hn => ?_,
    fun r hcls hb hc => ?_, fun claim r w hcls hb hint hn hc => ?_,
    fun claim own r hcls hb hother hc => ?_⟩, fun a s hlive ha hi hrun => ?_⟩
  · rw [exec_transmitComplete_other hlive ha hi (by rw [hcls]; rfl), hcls, State.sent,
      admitNewer_of_none (b := s.bus.idle.removeHead .notice) hn hc]
    rfl
  · rw [exec_transmitComplete_other hlive ha hi (by rw [hcls]; rfl), hcls, State.sent,
      admitNewer_of_none (b := s.bus.idle.removeHead .response) hn hc]
    rfl
  · rw [exec_transmitComplete_other hlive ha hi (by rw [hcls]; rfl), hcls]
    simp [State.sent, Bif.idle, Bif.removeHead, Bif.admitNewer, hn]
  · rw [exec_transmitComplete_other hlive ha hi (by simp [Bif.ownIntentHead, hb]), hcls]
    cases hn : s.bus.budgetNext <;>
      simp [State.sent, Bif.idle, Bif.removeHead, Bif.admitNewer, hc, hn]
  · rw [exec_transmitComplete hlive, completeAttempt_of_own ha hcls (by simp [Bif.ownIntentHead, hb]),
      State.sent, admitNewer_of_none (b := s.bus.idle.removeHead .budget) hn hc]
    simp [State.openWindow, hint, State.recover, Bif.removeHead, Bif.idle, hi]
  · have hsent : exec .transmitComplete s = .next (s.sent .budget) := by
      rcases hother with rfl | hother
      · rw [exec_transmitComplete_other hlive ha hi (by simp [Bif.ownIntentHead, hb]), hcls]
      · rw [exec_transmitComplete hlive, completeAttempt_of_attempt ha, hcls,
          openWindow_of_not_queued (s := s.sent .budget) hother, ite_self,
          recover_of_not_isolated (s := s.sent .budget) hi]
    rw [hsent]
    cases hn : s.bus.budgetNext <;>
      simp [State.sent, Bif.idle, Bif.removeHead, Bif.admitNewer, hc, hn]
  · have hsent : ∃ i w, completeAttempt s =
        ({ s.sent a.cls with bgu := { s.bgu with intent := i, window := w } }).recover := by
      obtain ⟨i, w, e⟩ := openWindow_spec a.stamp (s.sent a.cls)
      rw [completeAttempt_of_attempt ha]
      split
      · exact ⟨i, w, by rw [e]; rfl⟩
      · exact ⟨s.bgu.intent, s.bgu.window, rfl⟩
    obtain ⟨i, w, e⟩ := hsent
    have hi' : (s.sent a.cls).bus.isolated = true := by cases a.cls <;> exact hi
    rw [exec_transmitComplete hlive, e, recover_of_isolated
      (s := { s.sent a.cls with bgu := { s.bgu with intent := i, window := w } }) hi' hrun]
    obtain ⟨⟨hrcu, hsou, hwck, hlanes, hlines, hfcu, htmu, hbgu, hbus⟩, hload, hstay⟩ :=
      leaveIsolated_tryLoad { s.sent a.cls with
        bgu := { s.bgu with intent := i, window := w }
        bus := { (s.sent a.cls).bus with isolated := false } }
    refine ⟨_, rfl, congrArg Bif.isolated hbus, congrArg Bif.lastSuccess hbus,
      congrArg Bif.successTimer hbus, fun hr => hrcu.trans ?_, fun hr => hrcu.trans ?_, hload, hstay,
      hsou, hwck, hlanes, hlines, hfcu, htmu, (congrArg Bgu.committed hbgu :), (congrArg Bgu.peers hbgu :)⟩
    · exact congrArg State.rcu (if_pos hr)
    · exact congrArg State.rcu (if_neg fun h => Bool.false_ne_true (hr.symm.trans h))

/-! ### A silent bus (R165, R30, R65) -/

/-- The closing of an active run that isolation ends changes the log and the notices only, and leaves
no group open. -/
theorem busLostClosing_spec (ms : Nat) (s : State) :
    LogOnly s (s.busLostClosing ms) ∧ (s.busLostClosing ms).fcu.groups = [] ∧
      (s.busLostClosing ms).fcu.recordCount = s.fcu.recordCount + s.fcu.groups.length + 1 := by
  obtain ⟨hlog, hcount, hgroups, -⟩ := finalClosing_spec .ending s
  obtain ⟨wcount, wgroups, -⟩ :=
    writeRecord_counts (s.formRecord s.asc .busLost [] ms) (s.finalClosing .ending)
  exact ⟨(hlog.trans (writeRecord_logOnly _ _)).trans (queueRunNotice_logOnly _ _ _),
    wgroups.trans hgroups, wcount.trans (by rw [hcount])⟩

/-- With room in the log the BUS_LOST record stands last, and with room in its class the RUN notice
behind the FAULT notices (R30, R146, R163). -/
theorem busLostClosing_room {ms : Nat} {s : State}
    (h : s.fcu.log.length + s.fcu.groups.length < 64) :
    (∃ k, (s.busLostClosing ms).fcu.log.getLast? =
      some { s.formRecord s.asc .busLost [] ms with index := k }) ∧
    (s.bus.notices.length + s.fcu.groups.length + 2 ≤ 8 →
      ∃ n, (s.busLostClosing ms).bus.notices.getLast? = some ⟨.run n, 0⟩ ∧ n.verdict = .aborted ∧
        n.cause = .busLost ∧ n.recordCount = (s.busLostClosing ms).fcu.recordCount) := by
  obtain ⟨-, -, -, -, hlen, hnotices⟩ := finalClosing_spec .ending s
  have hroom := writeRecord_room (s.formRecord s.asc .busLost [] ms) (s.finalClosing .ending)
    (by omega)
  obtain ⟨-, -, -, -, wnotices⟩ :=
    writeRecord_counts (s.formRecord s.asc .busLost [] ms) (s.finalClosing .ending)
  unfold State.busLostClosing
  dsimp only
  generalize State.writeRecord _ (s.finalClosing .ending) = t at *
  refine ⟨⟨_, by rw [show (t.queueRunNotice .aborted .busLost).fcu = t.fcu from rfl, hroom,
    List.getLast?_append]; rfl⟩, fun hn => ⟨t.runNotice .aborted .busLost, ?_, rfl, rfl, rfl⟩⟩
  rw [State.queueRunNotice, Bif.queueNotice, if_pos (by omega)]
  simp

/-- What isolation makes of the outbox and the log of the closing before it (R65). -/
theorem enterIsolated_log (ms : Nat) (s : State) :
    ∃ c : State, c = (if s.rcu.run.active then s.busLostClosing ms else s) ∧ LogOnly s c ∧
      (s.enterIsolated ms).fcu = { c.fcu with mode := .none } ∧
      (s.enterIsolated ms).bus = c.bus.disown.queueBudget .commit := by
  refine ⟨_, rfl, ?_, rfl, rfl⟩
  split
  · exact (busLostClosing_spec ms s).1
  · exact .refl s

/-- Settles O28: the closing by `busLostClosing_spec`, and the rest by `enterIsolated_spec`. -/
theorem silentBusIsolatesTheStation : Obligations.SilentBusIsolatesTheStation := by
  intro s hlive hdue hiso
  have hexec : exec .transmitSuccessTimerExpiry s = .next (State.enterIsolated
      (elapsed s.tmu.uptime s.bus.lastSuccess)
      { s with bus := { s.bus with isolated := true, successTimer := none } }) :=
    (live_next hlive).trans (congrArg _ (if_pos ⟨by rw [hdue]; rfl, hiso⟩))
  rw [hexec]
  generalize elapsed s.tmu.uptime s.bus.lastSuccess = ms
  obtain ⟨c, hc, ⟨f, n, d, hlog⟩, hfcu, hbus⟩ := enterIsolated_log ms
    { s with bus := { s.bus with isolated := true, successTimer := none } }
  obtain ⟨f', bus', lanes, lines, e, -⟩ := enterIsolated_spec ms
    { s with bus := { s.bus with isolated := true, successTimer := none } }
  have hrest := hlog ▸ hbus
  refine ⟨_, rfl, ?_, ?_, ?_, ?_, ?_, ?_, ?_, ?_, ?_⟩
  · rw [hrest]
    rcases queueBudget_spec .commit (Bif.disown { s.bus with
      isolated := true, successTimer := none, notices := n, noticeDrops := d }) with q | q <;>
      rw [q] <;> rfl
  · rw [hrest]
    rcases queueBudget_spec .commit (Bif.disown { s.bus with
      isolated := true, successTimer := none, notices := n, noticeDrops := d }) with q | q <;>
      rw [q] <;> rfl
  · rw [e]
    exact ⟨rfl, rfl, rfl, rfl, rfl, rfl, rfl, rfl, rfl, rfl, rfl, rfl, rfl, rfl, rfl⟩
  · rw [e]
    exact ⟨rfl, rfl, rfl, rfl, rfl, rfl, rfl, rfl⟩
  · rw [e]
    exact ⟨rfl, rfl, rfl, rfl, rfl, rfl, rfl⟩
  · intro ha
    rw [hrest]
    exact congrArg Bif.budget (queueBudget_idle .commit (Bif.disown { s.bus with
      isolated := true, successTimer := none, notices := n, noticeDrops := d }) ha)
  · intro hact hroom
    obtain rfl : c = State.busLostClosing ms
      { s with bus := { s.bus with isolated := true, successTimer := none } } := hc.trans (if_pos hact)
    obtain ⟨-, hgroups, hcount⟩ := busLostClosing_spec ms
      { s with bus := { s.bus with isolated := true, successTimer := none } }
    obtain ⟨⟨k, hlast⟩, hnotice⟩ := busLostClosing_room (ms := ms)
      (s := { s with bus := { s.bus with isolated := true, successTimer := none } }) hroom
    rw [hfcu]
    refine ⟨hgroups, hcount, _, hlast, rfl, rfl, rfl, rfl, rfl, rfl, fun hn => ?_⟩
    obtain ⟨r, hr, hv, hcause, hrc⟩ := hnotice hn
    refine ⟨r, ?_, hv, hcause, hrc⟩
    rw [hbus, ← hr]
    rcases queueBudget_spec .commit (Bif.disown (State.busLostClosing ms
      { s with bus := { s.bus with isolated := true, successTimer := none } }).bus) with q | q <;>
      rw [q] <;> rfl
  · intro hact
    obtain rfl := hc.trans (if_neg fun h => Bool.false_ne_true (hact.symm.trans h))
    refine ⟨hfcu, ?_⟩
    rw [hbus]
    rcases queueBudget_spec .commit (Bif.disown { s.bus with
      isolated := true, successTimer := none }) with q | q <;> rw [q] <;> rfl
  · rw [e]
    exact ⟨rfl, rfl, rfl⟩

end Sys2Proof.Machine
end

section
/-! SUPPORT. Rack time by its count of nanoseconds, and what a BEACON does to the Time Unit. After them
the statements on rack time, on the timers that queue frames, on blanking, on the supply's inputs and
on the edges of the watch lines. -/

namespace Sys2Proof.Machine

/-! ### Rack time as a count of nanoseconds (R151, R153) -/

/-- Rack times within a second are told apart by their count. -/
theorem RackTime.eq_of_total {x y : RackTime} (hx : x.ns < 1000000000) (hy : y.ns < 1000000000)
    (h : RackTime.total x = RackTime.total y) : x = y := by
  obtain ⟨xs, xns⟩ := x
  obtain ⟨ys, yns⟩ := y
  simp only [RackTime.total] at h hx hy
  have hs : xs.toNat = ys.toNat := by omega
  obtain rfl := BitVec.eq_of_toNat_eq hs
  have hns : xns = yns := by omega
  rw [hns]

theorem RackTime.total_lt {x : RackTime} (hx : x.ns < 1000000000) :
    RackTime.total x < 4294967296 * 1000000000 := by
  have hs := x.s.isLt
  simp only [RackTime.total]
  omega

/-- Rack time advances modulo the 2^32 seconds that it counts (R153). -/
theorem addNanos_total (t : RackTime) (n : Nat) :
    RackTime.total (addNanos t n) = (RackTime.total t + n) % (4294967296 * 1000000000) := by
  simp only [addNanos, RackTime.total, BitVec.toNat_ofNat]
  omega

/-- An advance is known by its count (R153). -/
theorem addNanos_eq_iff {t u : RackTime} {n : Nat} (hu : u.ns < 1000000000) :
    addNanos t n = u ↔ (RackTime.total t + n) % (4294967296 * 1000000000) = RackTime.total u := by
  rw [← addNanos_total]
  exact ⟨fun h => h ▸ rfl, RackTime.eq_of_total (addNanos_ns_lt t n) hu⟩

theorem addNanos_addNanos (t : RackTime) (m n : Nat) :
    addNanos (addNanos t m) n = addNanos t (m + n) := by
  rw [addNanos_eq_iff (addNanos_ns_lt _ _), addNanos_total, addNanos_total]
  omega

theorem iterate_addNanos (t : RackTime) (h : t.ns < 1000000000) (n : Nat) :
    (fun x => addNanos x 20)^[n] t = addNanos t (20 * n) := by
  induction n with
  | zero =>
    have := RackTime.total_lt h
    exact ((addNanos_eq_iff h).mpr (by omega)).symm
  | succ n ih =>
    rw [Function.iterate_succ_apply', ih, addNanos_addNanos]
    rfl

/-- 50,000,000 periods of 20 ns are one second (R153). -/
theorem addNanos_second {t : RackTime} (h : t.ns < 1000000000) :
    addNanos t 1000000000 = ⟨t.s + 1, t.ns⟩ := by
  rw [addNanos_eq_iff (u := ⟨t.s + 1, t.ns⟩) h]
  have hone : (1 : BitVec 32).toNat = 1 := rfl
  simp only [RackTime.total, BitVec.toNat_add, hone]
  omega

/-- A jump by the lead of one time over another carries the one to the other (R156). -/
theorem addNanos_lead {ts tr : RackTime} (hs : ts.ns < 1000000000)
    (h : 0 ≤ leadNanos ts tr) : addNanos tr (leadNanos ts tr).toNat = ts := by
  have hlead : ∃ j : Int, (ts.s - tr.s).toInt = ts.s.toNat - tr.s.toNat + j * 4294967296 := by
    have hsub := BitVec.toNat_sub ts.s tr.s
    have hts := ts.s.isLt
    have htr := tr.s.isLt
    rw [BitVec.toInt_eq_toNat_cond]
    generalize ts.s.toNat = a at *
    generalize tr.s.toNat = b at *
    split
    · exact ⟨((ts.s - tr.s).toNat - (a - b)) / 4294967296, by omega⟩
    · exact ⟨((ts.s - tr.s).toNat - 4294967296 - (a - b)) / 4294967296, by omega⟩
  obtain ⟨j, hj⟩ := hlead
  rw [addNanos_eq_iff hs]
  simp only [leadNanos, hj, RackTime.total] at *
  have hts := ts.s.isLt
  omega

/-- The receive stamp lies back by the age of the frame (R154). -/
theorem addNanos_subNanos {t : RackTime} (h : t.ns < 1000000000) (n : Nat) :
    addNanos (subNanos t n) n = t := by
  have hlt := RackTime.total_lt h
  simp only [subNanos]
  rw [addNanos_addNanos, addNanos_eq_iff h]
  omega

/-! ### The Time Unit at a BEACON (R156, R157) -/

theorem retryCause_tmu (s : State) : s.retryCause.tmu = s.tmu := by
  unfold State.retryCause
  split
  · exact (askClaim_kept _ _).tmu
  · rfl

theorem hearPeer_tmu (f : RxFrame) (act : Peer → Peer) (s : State) :
    (s.hearPeer f act).tmu = s.tmu := by
  simp only [State.hearPeer]
  (repeat' split)
  · exact retryCause_tmu _
  · rfl
  · rfl

theorem noteSource_tmu (f : RxFrame) (s : State) : (s.noteSource f).tmu = s.tmu := by
  unfold State.noteSource
  split <;> rfl

/-- A sample moves the clock by its lead and settles it, whatever intent waits for the flag (R156,
R157). -/
theorem timeSample_tmu (ts tr : RackTime) (s : State) :
    (s.timeSample ts tr).tmu = { s.tmu.follow ts tr with settled := true } := by
  unfold State.timeSample
  generalize s.tmu.follow ts tr = u
  by_cases hset : u.settled = true
  · rw [(becomeSettled_spec { s with tmu := u }).1 hset, ← hset]
  · obtain ⟨i, b, bn, e, -⟩ := promoteIntent_spec { s with tmu := { u with settled := true } }
    rw [(becomeSettled_spec { s with tmu := u }).2 (Bool.eq_false_iff.mpr hset), e]

theorem takeBeacon_tmu {f : RxFrame} {s : State} (hlen : f.payload.length = 17) :
    (s.takeBeacon f).tmu = { s.tmu.follow
      ⟨BitVec.ofNat 32 (longAt f.payload 0), longAt f.payload 4⟩ (s.receiveStamp f) with
      settled := true } := by
  unfold State.takeBeacon
  rw [if_pos hlen, timeSample_tmu, hearPeer_tmu]

/-- A BEACON of any source is a time sample (R156). -/
theorem beaconFrame_tmu {f : RxFrame} {s : State} (hintact : frameIntact 0x01 f = true)
    (hlen : f.payload.length = 17) :
    (anyFrame 0x01 f s).tmu = { s.tmu.follow
      ⟨BitVec.ofNat 32 (longAt f.payload 0), longAt f.payload 4⟩ (s.receiveStamp f) with
      settled := true } := by
  have hheard : anyFrame 0x01 f s = (s.noteSource f).takeBeacon f := if_pos hintact
  rw [hheard, takeBeacon_tmu hlen, State.receiveStamp, noteSource_tmu]
  rfl

/-- A frame of BEACON's kind that moves rack time is whole, and leads by more than 2000 ns (R156). -/
theorem beacon_moves_rack {f : RxFrame} {s t : State} (h : s.live (anyFrame 0x01 f) = .next t)
    (hne : t.tmu.rack ≠ s.tmu.rack) :
    f.payload.length = 17 ∧
      2000 < leadNanos ⟨BitVec.ofNat 32 (longAt f.payload 0), longAt f.payload 4⟩
        (s.receiveStamp f) ∧
      t.tmu.rack = addNanos s.tmu.rack
        (leadNanos ⟨BitVec.ofNat 32 (longAt f.payload 0), longAt f.payload 4⟩
          (s.receiveStamp f)).toNat := by
  revert hne
  refine live_of (P := fun t => t.tmu.rack ≠ s.tmu.rack → f.payload.length = 17 ∧ _ ∧
    t.tmu.rack = _) h (fun hne => absurd rfl hne) fun hlive hne => ?_
  by_cases hintact : frameIntact 0x01 f = true
  · by_cases hlen : f.payload.length = 17
    · rw [beaconFrame_tmu hintact hlen] at hne ⊢
      by_cases hlead : 2000 < leadNanos
          ⟨BitVec.ofNat 32 (longAt f.payload 0), longAt f.payload 4⟩ (s.receiveStamp f)
      · exact ⟨hlen, hlead, by unfold Tmu.follow; rw [if_pos hlead]⟩
      · exact absurd (by unfold Tmu.follow; rw [if_neg hlead]) hne
    · have hstay : anyFrame 0x01 f s = s.noteSource f :=
        (if_pos hintact).trans (if_neg hlen)
      exact absurd (by rw [hstay, noteSource_tmu]) hne
  · have hstay : anyFrame 0x01 f s = s := if_neg hintact
    exact absurd (by rw [hstay]) hne

/-- Settles O31: the arithmetic on the count of nanoseconds, the BEACON's part by `beaconFrame_tmu`,
and that nothing else moves rack time by O58. -/
theorem rackTimeAdvancesBy20ns : Obligations.RackTimeAdvancesBy20ns := by
  refine ⟨fun s hlive => ?_, fun t n _ => ⟨addNanos_ns_lt t n, addNanos_total t n⟩,
    fun t n h hn => ?_, fun ts tr hs _ h => addNanos_lead hs h,
    fun f s h => addNanos_subNanos h _, fun f lead s hlive hintact hlen hlead => ?_,
    fun c s t h => ⟨?_, fun hpor hrack hne => ?_⟩⟩
  · exact (live_next hlive).trans (congrArg _ (rackAdvances_eq s))
  · rw [iterate_addNanos t h, hn]
    exact addNanos_second h
  · refine ⟨_, (exec_of_frameOf (k := 0x01) (f := f) rfl).trans (live_next hlive), ?_⟩
    rw [beaconFrame_tmu hintact hlen, Tmu.follow, ← hlead]
    split <;> rfl
  · rintro (rfl | rfl) <;> cases h <;> rfl
  · refine ((itemsMoveByTheirCommandsOnly c s t h hpor hrack).2.1 hne).imp_right ?_
    rintro ⟨f, hf⟩
    obtain ⟨hlen, hlead, hmoved⟩ := beacon_moves_rack ((exec_of_frameOf hf).symm.trans h) hne
    exact ⟨f, _, hf, hlen, rfl, hlead, hmoved⟩

/-! ### The timers that queue frames (R57, R157, R164) -/

/-- With both conditions of R57 a HELD intent is queued where no attempt is under way. -/
theorem promoteIntent_queues {w : Nat} {s : State} (hi : s.bgu.intent = some ⟨w, .held⟩)
    (hset : s.tmu.settled = true) (hl : s.bgu.listening = 0) (ha : s.bus.attempt = none) :
    s.promoteIntent = { s with
      bgu := { s.bgu with intent := some ⟨w, .queued⟩ }
      bus := { s.bus with budget := some ⟨.intent w true, 0⟩ } } := by
  simp [State.promoteIntent, hi, State.mayAnnounce, hset, hl, queueBudget_idle _ _ ha]

theorem promoteIntent_of_none {s : State} (h : s.bgu.intent = none) : s.promoteIntent = s := by
  simp [State.promoteIntent, h]

theorem promoteIntent_of_not_may {s : State} (h : s.mayAnnounce = false) : s.promoteIntent = s := by
  obtain ⟨-, -, -, -, hstay⟩ := promoteIntent_spec s
  exact hstay (.inr h)

/-- Settles O32, by which of the two conditions of R57 comes last. -/
theorem timersQueueIntentsAndBeacons : Obligations.TimersQueueIntentsAndBeacons := by
  refine ⟨fun s hlive ha => ⟨fun hdue => ?_, fun hl => ?_⟩, fun s hlive => ⟨fun hdue ha => ?_,
    fun a hdue ha hcls => ?_, fun hdue => ?_⟩⟩
  · have hexec : exec .settleTimerExpiry s =
        .next ({ s with tmu := { s.tmu with settleTimer := none } } : State).becomeSettled :=
      (live_next hlive).trans (congrArg _ (if_pos (by rw [hdue]; rfl)))
    rw [hexec]
    refine ⟨fun w hi hl hset => ?_, fun hwhy => ?_⟩
    · rw [(becomeSettled_spec { s with tmu := { s.tmu with settleTimer := none } }).2 hset,
        promoteIntent_queues (s := { s with
          tmu := { s.tmu with settleTimer := none, settled := true } }) hi rfl hl ha]
    · by_cases hset : s.tmu.settled = true
      · rw [(becomeSettled_spec { s with tmu := { s.tmu with settleTimer := none } }).1 hset, ← hset]
      · rw [(becomeSettled_spec { s with tmu := { s.tmu with settleTimer := none } }).2
          (Bool.eq_false_iff.mpr hset)]
        rcases hwhy with hi | hl | hset'
        · rw [promoteIntent_of_none (s := { s with
            tmu := { s.tmu with settleTimer := none, settled := true } }) hi]
        · rw [promoteIntent_of_not_may (s := { s with
            tmu := { s.tmu with settleTimer := none, settled := true } })
            (by simp [State.mayAnnounce, Nat.ne_of_gt hl])]
        · exact absurd hset' hset
  · have hexec : exec .listeningIntervalEnd s = .next s.promoteIntent :=
      (live_next hlive).trans (congrArg _ (if_pos hl))
    rw [hexec]
    refine ⟨fun w hi hset => by rw [promoteIntent_queues hi hset hl ha], ?_⟩
    rintro (hi | hset)
    · rw [promoteIntent_of_none hi]
    · rw [promoteIntent_of_not_may (by simp [State.mayAnnounce, hset])]
  · have hfree : s.bus.attempting .beacon = false := by
      unfold Bif.attempting
      split
      · rfl
      · next a h => exact decide_eq_false (ha a h)
    refine (live_next hlive).trans (congrArg _ ((if_pos hdue).trans ?_))
    simp [Bif.queueBeacon, hfree]
  · refine (live_next hlive).trans (congrArg _ ((if_pos hdue).trans ?_))
    simp [Bif.queueBeacon, Bif.attempting, ha, hcls]
  · exact (live_next hlive).trans (congrArg _ (if_neg (Nat.ne_of_gt hdue)))

/-! ### The end of blanking (R18) -/

theorem exec_blankingTimerExpiry {s : State} (hlive : s.inReset = false)
    (hrun : s.rcu.run = .running) (hdue : s.rcu.blankingTimer = some 0) :
    exec .blankingTimerExpiry s = .next s.clearBlanking :=
  (live_next hlive).trans (congrArg _ (if_pos (by simp [State.stepTimerDue, hrun, hdue, Timer.due])))

/-- Settles O38: the refresh without blanking finds the board on. -/
theorem blankingEndArmsTheSupervision : Obligations.BlankingEndArmsTheSupervision := by
  intro s hlive hrun hdue htarget hphase
  have hon : State.boardOnNow { s with
      rcu := { s.rcu with blanking := false, blankingTimer := none } } = true := by
    simp [State.boardOnNow, hrun, RunState.active, htarget, hphase]
  obtain ⟨lanes, lines, e, -, hlines⟩ := refresh_spec
    { s with rcu := { s.rcu with blanking := false, blankingTimer := none } }
  rw [exec_blankingTimerExpiry hlive hrun hdue, State.clearBlanking, e]
  refine ⟨_, rfl, by rw [hon], fun i hi => ?_, fun i o hi => ?_, rfl, rfl, rfl, rfl, rfl, rfl, rfl,
    rfl⟩
  · refine (hlines i).trans ?_
    rw [hon, show (State.lines { s with
      rcu := { s.rcu with blanking := false, blankingTimer := none } }) = s.lines from rfl]
    simp [Line.sync, hi]
    rfl
  · refine (hlines i).trans ?_
    rw [hon, show (State.lines { s with
      rcu := { s.rcu with blanking := false, blankingTimer := none } }) = s.lines from rfl]
    simp [Line.sync, hi]

/-! ### The inputs of the supply (R43, R45) -/

theorem syncLimit_eq (u : Sou) : u.syncLimit = { u with
    limit := if u.level0 = 0 ∨ u.limitInput = false then .idle
      else match u.limit with
        | .idle => .counting 0
        | .counting n => .counting n
        | .expired => .expired } := rfl

/-- Settles O39, input by input. -/
theorem supplyInputsTakeTheirReadings : Obligations.SupplyInputsTakeTheirReadings := by
  intro s
  refine ⟨fun hlimit hlevel => ?_, fun hlevel => ?_, ?_, ?_, fun hlive hrun hsense => ?_,
    fun hrun => ?_⟩
  · refine congrArg Host.Outcome.next ?_
    simp [limitInputChanges, Sou.syncLimit, hlimit, Nat.ne_of_gt hlevel]
  · refine congrArg Host.Outcome.next ?_
    simp [limitInputChanges, Sou.syncLimit, hlevel]
  · refine congrArg Host.Outcome.next ?_
    simp [limitInputChanges, Sou.syncLimit]
  · simp only [exec, execSupplySenseChange, senseChanges, Bool.not_true, Bool.and_false]
    exact ite_self _
  · simp [exec, execSupplySenseChange, senseChanges, hlive, hrun, hsense, RunState.active,
      Sou.zero12]
  · simp only [exec, execSupplySenseChange, senseChanges]
    rcases hrun with hrun | hrun <;> simp [hrun, RunState.active]

/-! ### Levels, counts and stamps of the watch lines (R123) -/

/-- What the edges of a line make of it: its level, its count and the stamps of its last rise. -/
def Line.edges (l : Line) : Bool × BitVec 32 × Option RackTime × Option Uptime :=
  (l.high, l.pulses, l.riseRack, l.riseUptime)

/-- No line's level, count or stamps differ between two states. -/
def State.SameEdges (s t : State) : Prop := ∀ i, (t.lines.get i).edges = (s.lines.get i).edges

theorem State.SameEdges.of_lines {s t : State} (h : t.lines = s.lines) : s.SameEdges t :=
  fun i => by rw [h]

theorem State.SameEdges.refl (s : State) : s.SameEdges s := .of_lines rfl

theorem State.SameEdges.trans {s t u : State} (h : s.SameEdges t) (g : t.SameEdges u) :
    s.SameEdges u := fun i => (g i).trans (h i)

/-- A line is changed in what no edge moves. -/
theorem State.SameEdges.set {s t : State} {i : Fin 4} {l : Line}
    (h : t.lines = s.lines.set i l) (hl : l.edges = (s.lines.get i).edges) : s.SameEdges t := by
  intro j
  rw [h]
  by_cases hj : j = i
  · rw [hj, Quad.get_set_self, hl]
  · rw [Quad.get_set_of_ne _ _ hj]

theorem edges_sync (on force : Bool) (hb : Nat) (l : Line) :
    (l.sync on force hb).edges = l.edges := by
  obtain ⟨hhigh, hpulses, hrack, huptime, -⟩ := sync_counts on force hb l
  simp only [Line.edges, hhigh, hpulses, hrack, huptime]

theorem edges_startWait (timeout : Nat) (now : Uptime) (l : Line) :
    (l.startWait timeout now).edges = l.edges := by
  unfold Line.startWait
  split <;> rfl

theorem edges_abandonWait (now : Uptime) (l : Line) : (l.abandonWait now).edges = l.edges := by
  unfold Line.abandonWait
  split <;> rfl

theorem edges_joinPowered (now : Uptime) (l : Line) : (l.joinPowered now).edges = l.edges := by
  unfold Line.joinPowered
  split <;> rfl

theorem refresh_sameEdges (s : State) : s.SameEdges s.refresh := by
  intro i
  obtain ⟨lanes, lines, e, -, hlines⟩ := refresh_spec s
  rw [e]
  exact (congrArg Line.edges (hlines i)).trans (edges_sync ..)

/-- A change that ends in a refresh, the lines standing before it. -/
theorem refresh_of_lines {s t : State} (h : t.lines = s.lines) : s.SameEdges t.refresh :=
  (State.SameEdges.of_lines h).trans (refresh_sameEdges t)

theorem askClaim_sameEdges (w : Nat) (s : State) : s.SameEdges (s.askClaim w) := by
  obtain ⟨i, wd, b, bn, e, -⟩ := askClaim_spec w s
  exact .of_lines (by rw [e])

theorem withdrawIntent_sameEdges (s : State) : s.SameEdges s.withdrawIntent := by
  obtain ⟨w, b, bn, e⟩ := withdrawIntent_spec s
  exact .of_lines (by rw [e])

theorem commitPending_sameEdges (s : State) : s.SameEdges s.commitPending := by
  unfold State.commitPending
  split
  · exact .refl s
  · exact .of_lines rfl

/-! #### The phases of a step -/

theorem startBlanking_sameEdges (s : State) : s.SameEdges s.startBlanking := by
  unfold State.startBlanking
  split
  · exact refresh_of_lines rfl
  · exact .of_lines rfl

theorem advancePhase_sameEdges (s : State) : s.SameEdges s.advancePhase := by
  unfold State.advancePhase
  (repeat' split) <;> exact .of_lines rfl

theorem startWait_sameEdges (i : Fin 4) (s : State) : s.SameEdges (s.startWait i) :=
  .set rfl (edges_startWait ..)

theorem powerOnArrival_sameEdges (s : State) : s.SameEdges s.powerOnArrival := by
  unfold State.powerOnArrival
  split
  · exact .of_lines rfl
  · split
    · exact advancePhase_sameEdges s
    · next i _ =>
      split
      · exact (startWait_sameEdges i s).trans (advancePhase_sameEdges _)
      · exact startWait_sameEdges i s

theorem arrivalSequence_sameEdges (s : State) : s.SameEdges s.arrivalSequence := by
  unfold State.arrivalSequence
  split
  · exact powerOnArrival_sameEdges s
  · exact advancePhase_sameEdges s

theorem arrive_sameEdges (s : State) : s.SameEdges s.arrive := by
  have hpend : s.SameEdges
      (State.commitPending { s with rcu := { s.rcu with arrivalTaken := true } }) :=
    State.SameEdges.trans (.of_lines rfl) (commitPending_sameEdges _)
  have htimer (t : State) :
      t.SameEdges { t with rcu := { t.rcu with on := some t.theStep.onMs } } := .of_lines rfl
  unfold State.arrive
  dsimp only
  split
  case h_1 => exact (hpend.trans (startBlanking_sameEdges _)).trans (arrivalSequence_sameEdges _)
  case h_2 =>
    exact ((hpend.trans (startBlanking_sameEdges _)).trans (htimer _)).trans
      (arrivalSequence_sameEdges _)
  all_goals exact hpend

theorem takeArrival_sameEdges (s : State) : s.SameEdges s.takeArrival := by
  unfold State.takeArrival
  split
  · exact arrive_sameEdges s
  · exact .refl s

theorem commandLanding_sameEdges (s : State) : s.SameEdges s.commandLanding := by
  unfold State.commandLanding
  split
  · exact takeArrival_sameEdges s
  · exact .refl s

theorem enterOff_sameEdges (s : State) : s.SameEdges s.enterOff := by
  have htimer (t : State) :
      t.SameEdges { t with rcu := { t.rcu with off := some t.theStep.offMs } } := .of_lines rfl
  refine State.SameEdges.trans ?_ (takeArrival_sameEdges _)
  refine State.SameEdges.trans ?_ (htimer _)
  exact refresh_of_lines rfl

theorem startSettling_sameEdges (s : State) : s.SameEdges s.startSettling := by
  unfold State.startSettling
  dsimp only
  refine State.SameEdges.trans ?_ (commandLanding_sameEdges _)
  split
  · have hjoined (t : State) :
        t.SameEdges { t with lines := t.lines.map (Line.joinPowered t.tmu.uptime) } := fun i =>
      (congrArg Line.edges (Quad.get_map _ _ i)).trans (edges_joinPowered ..)
    refine State.SameEdges.trans ?_ (hjoined _)
    exact refresh_of_lines rfl
  · exact refresh_of_lines rfl

theorem startStep_sameEdges (s : State) : s.SameEdges s.startStep := by
  unfold State.startStep
  split
  · exact State.SameEdges.trans (.of_lines rfl) (enterOff_sameEdges _)
  · exact startSettling_sameEdges s
  · exact startSettling_sameEdges s

theorem enterStep_sameEdges (n : Nat) (s : State) : s.SameEdges (s.enterStep n) := by
  rcases Nat.lt_trichotomy s.bgu.committed (s.stepAt n).claimW with h | h | h
  · rw [enterStep_asks h]
    refine State.SameEdges.trans ?_ (askClaim_sameEdges _ _)
    exact refresh_of_lines rfl
  · rw [enterStep_starts h.symm]
    exact State.SameEdges.trans (.of_lines rfl) (startStep_sameEdges _)
  · rw [enterStep_lowers h]
    exact State.SameEdges.trans (.of_lines rfl) (startStep_sameEdges _)

/-! #### The ends of a step and of a run -/

theorem LogOnly.sameEdges {s t : State} (h : LogOnly s t) : s.SameEdges t := by
  obtain ⟨f, n, d, rfl⟩ := h
  exact .of_lines rfl

theorem runEnd_sameEdges (v : Verdict) (c : EndCause) (s : State) : s.SameEdges (s.runEnd v c) := by
  intro i
  obtain ⟨o, b, bn, ns, nd, lanes, lines, e, -, -, -, hlines⟩ := runEnd_spec v c s
  rw [e]
  exact (congrArg Line.edges (hlines i)).trans (edges_sync ..)

theorem finishCompletion_sameEdges (s : State) : s.SameEdges s.finishCompletion := by
  unfold State.finishCompletion
  (repeat' split) <;> exact runEnd_sameEdges _ _ s

theorem endStep_sameEdges (s : State) : s.SameEdges s.endStep := by
  have hstopped : s.SameEdges { s with
      rcu := s.rcu.stopTimers.dropHeld, wck := { s.wck with reach := none }
      lines := s.lines.map (Line.abandonWait s.tmu.uptime) } := fun i =>
    (congrArg Line.edges (Quad.get_map _ _ i)).trans (edges_abandonWait ..)
  unfold State.endStep
  dsimp only
  split
  · exact (hstopped.trans (finalClosing_spec .completing _).1.sameEdges).trans
      (finishCompletion_sameEdges _)
  · exact hstopped.trans (enterStep_sameEdges _ _)

theorem endIteration_sameEdges (s : State) : s.SameEdges s.endIteration := by
  unfold State.endIteration
  split
  · exact State.SameEdges.trans (.of_lines rfl) (enterOff_sameEdges _)
  · exact endStep_sameEdges s

theorem powerOnComplete_sameEdges (s : State) : s.SameEdges s.powerOnComplete := by
  unfold State.powerOnComplete
  split
  · exact .of_lines rfl
  · dsimp only
    split
    · exact (advancePhase_sameEdges s).trans (endIteration_sameEdges _)
    · exact advancePhase_sameEdges s

/-! #### Raises -/

theorem joinOrOpen_sameEdges (r : Record) (s : State) : s.SameEdges (s.joinOrOpen r) :=
  .of_lines rfl

theorem captureRaise_sameEdges (r : Record) (s : State) : s.SameEdges (s.captureRaise r) := by
  have hwritten := (writeRecord_logOnly r s).sameEdges
  unfold State.captureRaise State.writeInRun
  dsimp only
  (repeat' split)
  · exact (hwritten.trans (finalClosing_spec .ending _).1.sameEdges).trans (runEnd_sameEdges _ _ _)
  · exact hwritten
  · exact joinOrOpen_sameEdges r s

theorem closeGroups_sameEdges (s : State) : s.SameEdges s.closeGroups :=
  (foldRecords_spec s.fcu.groups { s with fcu := { s.fcu with groups := [] } }).1.sameEdges

theorem raiseClosing_sameEdges (mode : ClosingMode) (r : Record) (s : State) :
    s.SameEdges (s.raiseClosing mode r) := by
  have hmode : s.SameEdges { s with fcu := { s.fcu with mode := mode } } := .of_lines rfl
  unfold State.raiseClosing
  dsimp only
  (repeat' split)
  · exact (hmode.trans (closeGroups_sameEdges _)).trans (writeRecord_logOnly _ _).sameEdges
  · exact (hmode.trans (writeRecord_logOnly _ _).sameEdges).trans (closeGroups_sameEdges _)
  · exact (hmode.trans (joinOrOpen_sameEdges _ _)).trans (closeGroups_sameEdges _)

/-- A raise with all that its policy does moves no line's level, count or stamps. -/
theorem raise_sameEdges (kind : FaultKind) (points : List Nat) (value : Int) (s : State) :
    s.SameEdges (s.raise kind points value) := by
  have hgoOn : s.SameEdges (s.goOnAction kind) := by
    unfold State.goOnAction
    split <;> exact .of_lines rfl
  have hnext : s.SameEdges s.nextStepAction :=
    ((withdrawIntent_sameEdges s).trans (.of_lines rfl)).trans (endStep_sameEdges _)
  unfold State.raise State.raiseSeeing
  dsimp only
  (repeat' split)
  · exact hgoOn.trans (captureRaise_sameEdges _ _)
  · exact (raiseClosing_sameEdges _ _ s).trans (finishCompletion_sameEdges _)
  · exact hnext.trans (captureRaise_sameEdges _ _)
  · exact (raiseClosing_sameEdges _ _ s).trans (runEnd_sameEdges _ _ _)
  · exact (raiseClosing_sameEdges _ _ s).trans (runEnd_sameEdges _ _ _)
  · exact .refl s

theorem raiseLine_sameEdges (i : Fin 4) (kind : FaultKind) (value : Int) (s : State) :
    s.SameEdges (s.raiseLine i kind value) := by
  unfold State.raiseLine
  split
  · exact raise_sameEdges _ _ _ s
  · exact .refl s

/-! #### The supervision of an edge -/

theorem waitEnded_sameEdges (s : State) : s.SameEdges s.waitEnded := by
  unfold State.waitEnded
  split
  · exact powerOnComplete_sameEdges s
  · exact .refl s

theorem setLine_sameEdges {i : Fin 4} {l : Line} {s : State}
    (h : l.edges = (s.lines.get i).edges) : s.SameEdges (s.setLine i l) := .set rfl h

theorem superviseRise_sameEdges (i : Fin 4) (s : State) : s.SameEdges (s.superviseRise i) := by
  unfold State.superviseRise
  dsimp only
  split
  case h_8 =>
    refine State.SameEdges.trans ?_ (waitEnded_sameEdges _)
    exact setLine_sameEdges rfl
  case h_3 => exact setLine_sameEdges rfl
  case h_4 => exact setLine_sameEdges rfl
  case h_6 => exact setLine_sameEdges rfl
  case h_10 => exact setLine_sameEdges rfl
  case h_12 => exact setLine_sameEdges rfl
  all_goals exact .refl s

theorem superviseFall_sameEdges (i : Fin 4) (s : State) : s.SameEdges (s.superviseFall i) := by
  unfold State.superviseFall
  dsimp only
  split
  case h_6 =>
    refine State.SameEdges.trans ?_ (raiseLine_sameEdges _ _ _ _)
    exact setLine_sameEdges rfl
  case h_9 =>
    split
    · refine State.SameEdges.trans ?_ (raiseLine_sameEdges _ _ _ _)
      exact setLine_sameEdges rfl
    · exact .refl s
  all_goals exact .refl s

/-! ### The edges (R120, R123) -/

theorem exec_watchLineEdge {i : Fin 4} {rising : Bool} {s : State} (h : s.inReset = false) :
    exec (.watchLineEdge i rising) s = .next (lineEdge i rising s) := if_neg (by simp [h])

/-- A level that the line has already is no edge (R120). -/
theorem lineEdge_of_same {i : Fin 4} {rising : Bool} {s : State}
    (h : (s.lines.get i).high = rising) : lineEdge i rising s = s := if_pos h

theorem lineEdge_rise {i : Fin 4} {s : State} (h : (s.lines.get i).high = false) :
    lineEdge i true s =
      (s.setLine i ((s.lines.get i).edge true s.tmu.rack s.tmu.uptime)).superviseRise i :=
  if_neg (by simp [h])

theorem lineEdge_fall {i : Fin 4} {s : State} (h : (s.lines.get i).high = true) :
    lineEdge i false s =
      (s.setLine i ((s.lines.get i).edge false s.tmu.rack s.tmu.uptime)).superviseFall i :=
  if_neg (by simp [h])

/-- Settles O48: the supervision after an edge moves no level, count or stamp. -/
theorem lineEdgesAreCountedAndStamped : Obligations.LineEdgesAreCountedAndStamped := by
  intro i s hlive
  refine ⟨fun level hlevel => ?_, fun hlow => ?_, fun hhigh => ?_⟩
  · rw [exec_watchLineEdge hlive, lineEdge_of_same hlevel]
  · rw [exec_watchLineEdge hlive, lineEdge_rise hlow]
    generalize hl : (s.lines.get i).edge true s.tmu.rack s.tmu.uptime = l
    have hsame := superviseRise_sameEdges i (s.setLine i l)
    generalize (s.setLine i l).superviseRise i = t at hsame
    have hself := hsame i
    rw [show (s.setLine i l).lines.get i = l from Quad.get_set_self .., ← hl] at hself
    simp only [Line.edges, Line.edge, if_true, Prod.mk.injEq] at hself
    obtain ⟨hhigh, hpulses, hrack, huptime⟩ := hself
    refine ⟨t, rfl, hhigh, hpulses, hrack, huptime, fun n hn => ?_⟩
    have hother := hsame n
    rw [show (s.setLine i l).lines.get n = s.lines.get n from Quad.get_set_of_ne _ _ hn] at hother
    exact congrArg (fun e => e.2.1) hother
  · rw [exec_watchLineEdge hlive, lineEdge_fall hhigh]
    generalize hl : (s.lines.get i).edge false s.tmu.rack s.tmu.uptime = l
    have hself := superviseFall_sameEdges i (s.setLine i l) i
    generalize (s.setLine i l).superviseFall i = t at hself ⊢
    rw [show (s.setLine i l).lines.get i = l from Quad.get_set_self .., ← hl] at hself
    simp only [Line.edges, Line.edge, Bool.false_eq_true, if_false, Prod.mk.injEq] at hself
    exact ⟨_, rfl, hself⟩

end Sys2Proof.Machine
end

section
/-! SUPPORT. What the closings write, in order, and with which FAULT notices (R144 to R148), the raises
that become records at once, and what the run ends after a closing leave. -/

namespace Sys2Proof.Machine

/-! ### Records as they are written (R146, R148) -/

/-- A record that finds room is stored under its index, with its FAULT notice (R146, R148). -/
theorem writeRecord_stored {r : Record} {s : State} (h : s.fcu.log.length < 64) :
    s.writeRecord r = { s with
      fcu := { s.fcu with
        log := s.fcu.log ++ [{ r with index := s.fcu.log.length }]
        recordCount := s.fcu.recordCount + 1
        mode := if s.fcu.recordCount + 1 = s.cfg.maxFaults ∧ s.fcu.mode = .completing then .ending
          else s.fcu.mode }
      bus := s.bus.queueNotice (.fault { r with index := s.fcu.log.length }) } := by
  unfold State.writeRecord
  exact if_pos h

/-- A record that finds no room is lost and counted (R146). -/
theorem writeRecord_lost {r : Record} {s : State} (h : 64 ≤ s.fcu.log.length) :
    s.writeRecord r = { s with fcu := { s.fcu with
      recordCount := s.fcu.recordCount + 1
      mode := if s.fcu.recordCount + 1 = s.cfg.maxFaults ∧ s.fcu.mode = .completing then .ending
        else s.fcu.mode
      lostCount := satInc 65535 s.fcu.lostCount
      logFull := true } } := by
  unfold State.writeRecord
  exact if_neg (Nat.not_lt.mpr h)

theorem queueNotice_room {n : Notice} {b : Bif} (h : b.notices.length < 8) :
    b.queueNotice n = { b with notices := b.notices ++ [⟨n, 0⟩] } := if_pos h

/-- Records written in order: what they make of the log, that the log and the notices are all that they
change, what becomes of the closing mode (R147), and their FAULT notices where there is room. -/
structure Closed (written : List Record) (s t : State) : Prop where
  wrote : Wrote written s t
  only : LogOnly s t
  groups : t.fcu.groups = s.fcu.groups
  completing : s.fcu.mode = .completing →
    (s.reachesMaxFaults written.length → t.fcu.mode = .ending) ∧
    (¬s.reachesMaxFaults written.length → t.fcu.mode = .completing)
  other : s.fcu.mode ≠ .completing → t.fcu.mode = s.fcu.mode
  notices : s.bus.notices.length + written.length ≤ 8 → s.fcu.log.length + written.length ≤ 64 →
    t.bus.notices = s.bus.notices ++ (s.indexed written).map (fun r => ⟨.fault r, 0⟩)

theorem Wrote.nil {s t : State} (hcount : t.fcu.recordCount = s.fcu.recordCount)
    (hlog : t.fcu.log = s.fcu.log) (hfull : t.fcu.logFull = s.fcu.logFull)
    (hlost : t.fcu.lostCount = s.fcu.lostCount) : Wrote [] s t where
  count := hcount
  log := by simp [hlog, State.indexed]
  full := by simp [hfull]
  lost := fun h => by simp [hlost, h]

theorem Closed.refl (s : State) : Closed [] s s where
  wrote := .nil rfl rfl rfl rfl
  only := .refl s
  groups := rfl
  completing := fun h => ⟨fun hr => by have := hr.1; have := hr.2; simp at this; omega, fun _ => h⟩
  other := fun _ => rfl
  notices := fun _ _ => by simp [State.indexed]

/-- What a later state, whose log holds more records, makes of their places. -/
theorem indexed_append (a b : List Record) {s t : State}
    (h : t.fcu.log.length = s.fcu.log.length + a.length) :
    s.indexed (a ++ b) = s.indexed a ++ t.indexed b := by
  simp only [State.indexed, List.mapIdx_append, h]
  congr 2
  funext k r
  rw [Nat.add_assoc, Nat.add_comm k]

theorem indexed_length (a : List Record) (s : State) : (s.indexed a).length = a.length :=
  List.length_mapIdx

theorem Wrote.log_length {a : List Record} {s t : State} (h : Wrote a s t) :
    t.fcu.log.length = s.fcu.log.length + min (64 - s.fcu.log.length) a.length := by
  rw [h.log, List.length_append, List.length_take, indexed_length]

theorem Wrote.trans {a b : List Record} {s t u : State} (h : Wrote a s t) (g : Wrote b t u) :
    Wrote (a ++ b) s u := by
  have hlen := h.log_length
  have hroom : 64 - t.fcu.log.length = 64 - s.fcu.log.length - a.length := by omega
  refine ⟨?_, ?_, ?_, fun hl => ?_⟩
  · rw [g.count, h.count, List.length_append, Nat.add_assoc]
  · rw [g.log, hroom, h.log, List.append_assoc]
    by_cases ha : a.length ≤ 64 - s.fcu.log.length
    · rw [indexed_append a b (t := t) (by omega), List.take_append, indexed_length]
    · have htake : (s.indexed (a ++ b)).take (64 - s.fcu.log.length) =
          (s.indexed a).take (64 - s.fcu.log.length) := by
        rw [State.indexed, List.mapIdx_append, List.take_append_of_le_length]
        · rfl
        · rw [List.length_mapIdx]
          omega
      rw [htake, show 64 - s.fcu.log.length - a.length = 0 by omega]
      simp
  · rw [g.full, h.full, hroom, Bool.or_assoc, List.length_append]
    congr 1
    rw [← Bool.decide_or]
    exact decide_eq_decide.mpr (by omega)
  · have ht := h.lost hl
    rw [g.lost (by omega), ht, hroom, List.length_append]
    omega

theorem LogOnly.cfg {s t : State} (h : LogOnly s t) : t.cfg = s.cfg := by
  obtain ⟨f, n, d, rfl⟩ := h
  rfl

theorem Closed.trans {a b : List Record} {s t u : State} (h : Closed a s t) (g : Closed b t u) :
    Closed (a ++ b) s u where
  wrote := h.wrote.trans g.wrote
  only := h.only.trans g.only
  groups := g.groups.trans h.groups
  completing := fun hm => by
    obtain ⟨h1, h2⟩ := h.completing hm
    have hcount := h.wrote.count
    have hmax : t.cfg.maxFaults = s.cfg.maxFaults := by rw [h.only.cfg]
    unfold State.reachesMaxFaults at *
    rw [List.length_append]
    by_cases hr : s.fcu.recordCount < s.cfg.maxFaults ∧
        s.cfg.maxFaults ≤ s.fcu.recordCount + a.length
    · have hmode := h1 hr
      rw [g.other (by rw [hmode]; decide), hmode]
      exact ⟨fun _ => rfl, fun hn => absurd ⟨hr.1, by omega⟩ hn⟩
    · obtain ⟨g1, g2⟩ := g.completing (h2 hr)
      simp only [State.reachesMaxFaults, hmax, hcount] at g1 g2
      exact ⟨fun hn => g1 (by omega), fun hn => g2 (by omega)⟩
  other := fun hm => by
    rw [g.other (by rw [h.other hm]; exact hm), h.other hm]
  notices := fun hn hl => by
    rw [List.length_append] at hn hl
    have hlen := h.wrote.log_length
    have hfirst := h.notices (by omega) (by omega)
    rw [g.notices (by rw [hfirst]; simp [indexed_length]; omega) (by omega), hfirst,
      indexed_append a b (t := t) (by omega), List.map_append, List.append_assoc]

theorem writeRecord_closed (r : Record) (s : State) : Closed [r] s (s.writeRecord r) := by
  have hmode (hm : s.fcu.mode = .completing) :
      (s.reachesMaxFaults 1 → (s.writeRecord r).fcu.mode = .ending) ∧
      (¬s.reachesMaxFaults 1 → (s.writeRecord r).fcu.mode = .completing) := by
    have hfull : (s.writeRecord r).fcu.mode = if s.fcu.recordCount + 1 = s.cfg.maxFaults ∧
        s.fcu.mode = .completing then .ending else s.fcu.mode := by
      unfold State.writeRecord
      dsimp only
      split <;> rfl
    unfold State.reachesMaxFaults
    rw [hfull]
    exact ⟨fun h => if_pos ⟨by omega, hm⟩, fun h => (if_neg fun e => h (by omega)).trans hm⟩
  obtain ⟨-, hgroups, hother, -⟩ := writeRecord_counts r s
  have honly := writeRecord_logOnly r s
  rcases Nat.lt_or_ge s.fcu.log.length 64 with h | h
  · refine ⟨?_, honly, hgroups, hmode, hother, fun hn _ => ?_⟩ <;> rw [writeRecord_stored h]
    · refine ⟨rfl, ?_, ?_, fun hl => ?_⟩
      · have htake : (s.indexed [r]).take (64 - s.fcu.log.length) = s.indexed [r] :=
          List.take_of_length_le (by rw [indexed_length]; simp; omega)
        rw [htake]
        rfl
      · rw [decide_eq_false (by simp; omega), Bool.or_false]
      · simp only [List.length_singleton]
        omega
    · rw [queueNotice_room (by simpa using hn)]
      rfl
  · refine ⟨?_, honly, hgroups, hmode, hother, fun _ hl => absurd hl (by simp; omega)⟩
    rw [writeRecord_lost h]
    have hroom : 64 - s.fcu.log.length = 0 := by omega
    refine ⟨rfl, ?_, ?_, fun _ => ?_⟩ <;> rw [hroom]
    · simp
    · simp
    · rfl

theorem foldRecords_closed (gs : List Group) (s : State) :
    Closed (gs.map fun g => g.record) s (gs.foldl (fun s g => s.writeRecord g.record) s) := by
  induction gs generalizing s with
  | nil => exact .refl s
  | cons g gs ih => exact (writeRecord_closed g.record s).trans (ih _)

/-- A state about to close its groups in a mode, none of them open any more. -/
def State.closing (mode : ClosingMode) (s : State) : State :=
  { s with fcu := { s.fcu with mode := mode, groups := [] } }

theorem finalClosing_closed (mode : ClosingMode) (s : State) :
    Closed s.openRecords (s.closing mode) (s.finalClosing mode) :=
  foldRecords_closed s.fcu.groups (s.closing mode)

theorem closeGroups_closed (s : State) :
    Closed s.openRecords (s.closing s.fcu.mode) s.closeGroups :=
  foldRecords_closed s.fcu.groups (s.closing s.fcu.mode)

/-- The groups that stand open play no part in a write. -/
theorem writeRecord_closing (mode : ClosingMode) (r : Record) (s : State) :
    (s.closing mode).writeRecord r =
      (State.writeRecord r { s with fcu := { s.fcu with mode := mode } }).closing
        (State.writeRecord r { s with fcu := { s.fcu with mode := mode } }).fcu.mode := by
  rcases Nat.lt_or_ge s.fcu.log.length 64 with h | h
  · rw [writeRecord_stored (s := s.closing mode) h,
      writeRecord_stored (s := { s with fcu := { s.fcu with mode := mode } }) h]
    rfl
  · rw [writeRecord_lost (s := s.closing mode) h,
      writeRecord_lost (s := { s with fcu := { s.fcu with mode := mode } }) h]
    rfl

/-- The records of the groups once a raise has joined the one of its kind or opened it (R140, R141). -/
theorem joinOrOpen_openRecords (r : Record) (s : State) :
    (s.joinOrOpen r).openRecords =
      if ∀ g ∈ s.fcu.groups, g.record.kind ≠ r.kind then s.openRecords ++ [r]
      else s.openRecords.map fun q =>
        if q.kind = r.kind then { q with points := joinPoints r.points q.points } else q := by
  have hany : (s.fcu.groups.any fun g => decide (g.record.kind = r.kind)) = true ↔
      ¬∀ g ∈ s.fcu.groups, g.record.kind ≠ r.kind := by
    simp
  unfold State.joinOrOpen State.openRecords
  by_cases h : ∀ g ∈ s.fcu.groups, g.record.kind ≠ r.kind
  · rw [if_pos h]
    dsimp only
    rw [if_neg fun e => hany.mp e h, List.map_append]
    rfl
  · rw [if_neg h]
    dsimp only
    rw [if_pos (hany.mpr h), List.map_map, List.map_map]
    refine List.map_congr_left fun g _ => ?_
    dsimp only [Function.comp_apply]
    split <;> rfl

/-- The closing for a point-bearing raise writes what R144 says. -/
theorem raiseClosing_closed {mode : ClosingMode} {r : Record} {s : State}
    (h : r.kind.pointLess = false) :
    Closed (s.closingRecords r) (s.closing mode) (s.raiseClosing mode r) := by
  unfold State.closingRecords State.raiseClosing
  dsimp only
  rw [h, if_neg Bool.false_ne_true]
  by_cases hc : s.cfg.coalesceMs = 0
  · rw [if_pos hc, show State.cfg { s with fcu := { s.fcu with mode := mode } } = s.cfg from rfl,
      if_pos hc]
    have hfirst := writeRecord_closed r (s.closing mode)
    rw [writeRecord_closing] at hfirst
    have hrest := closeGroups_closed
      (State.writeRecord r { s with fcu := { s.fcu with mode := mode } })
    have hopen := (writeRecord_counts r { s with fcu := { s.fcu with mode := mode } }).2.1
    rw [State.openRecords, hopen] at hrest
    exact hfirst.trans hrest
  · rw [if_neg hc, show State.cfg { s with fcu := { s.fcu with mode := mode } } = s.cfg from rfl,
      if_neg hc]
    have hclosed := closeGroups_closed
      (State.joinOrOpen r { s with fcu := { s.fcu with mode := mode } })
    rw [joinOrOpen_openRecords] at hclosed
    exact hclosed

/-- The closing for a point-less raise writes the open groups and then the raise (R144). -/
theorem raiseClosing_pointLess {mode : ClosingMode} {r : Record} {s : State}
    (h : r.kind.pointLess = true) :
    Closed (s.openRecords ++ [r]) (s.closing mode) (s.raiseClosing mode r) := by
  unfold State.raiseClosing
  dsimp only
  rw [h, if_pos rfl]
  exact (foldRecords_closed s.fcu.groups (s.closing mode)).trans (writeRecord_closed r _)

/-! ### Run ends after a closing (R28, R147) -/

/-- The run end keeps what the closing wrote. -/
theorem runEnd_wrote {written : List Record} {s c : State} {mode : ClosingMode}
    (h : Closed written (s.closing mode) c) (v : Verdict) (cause : EndCause) :
    Wrote written s (c.runEnd v cause) := by
  obtain ⟨o, b, bn, ns, nd, lanes, lines, e, -⟩ := runEnd_spec v cause c
  obtain ⟨hcount, hlog, hfull, hlost⟩ := h.wrote
  rw [e]
  exact ⟨hcount, hlog, hfull, hlost⟩

/-- A run end after a closing (R28). -/
theorem Closed.runEnd {written : List Record} {s c : State} {mode : ClosingMode}
    (h : Closed written (s.closing mode) c) (v : Verdict) (cause : EndCause) :
    RunEnded v cause s (c.runEnd v cause) := by
  obtain ⟨f, n, d, rfl⟩ := h.only
  exact runEnd_ended h.groups ⟨rfl, rfl, rfl⟩ rfl rfl

/-- The RUN notice follows the FAULT notices of the closing (R28, R148). -/
theorem Closed.runEnd_notices {written : List Record} {s c : State} {mode : ClosingMode}
    (h : Closed written (s.closing mode) c) (v : Verdict) (cause : EndCause)
    (hn : s.bus.notices.length + written.length + 1 ≤ 8)
    (hl : s.fcu.log.length + written.length ≤ 64) :
    (c.runEnd v cause).bus.notices =
      s.bus.notices ++ (s.indexed written).map (fun r => ⟨.fault r, 0⟩) ++
        [⟨.run (c.runNotice v cause), 0⟩] := by
  have hnotices : c.bus.notices =
      s.bus.notices ++ (s.indexed written).map (fun r => ⟨.fault r, 0⟩) :=
    h.notices (show s.bus.notices.length + written.length ≤ 8 by omega) hl
  obtain ⟨o, b, bn, ns, nd, lanes, lines, e, -, hns, -⟩ := runEnd_spec v cause c
  rw [e]
  dsimp only
  rw [hns (by rw [hnotices]; simp [indexed_length]; omega), hnotices]

/-- What a closing in COMPLETING leaves to `finishCompletion` is the run's completion (R19, R147). -/
theorem Closed.completes {written : List Record} {s c : State}
    (h : Closed written (s.closing .completing) c) : RunCompleted written s c.finishCompletion := by
  obtain ⟨hends, hproceeds⟩ := h.completing rfl
  have hcount : c.fcu.recordCount = s.fcu.recordCount + written.length := h.wrote.count
  have hfin : ∃ v cause, c.finishCompletion = c.runEnd v cause := by
    unfold State.finishCompletion
    (repeat' split) <;> exact ⟨_, _, rfl⟩
  have hstep : c.rcu.step = s.rcu.step := by
    obtain ⟨f, n, d, rfl⟩ := h.only
    rfl
  have hnever : c.fcu.recordCount = 0 → ¬s.reachesMaxFaults written.length := fun h0 hr => by
    have := hr.1
    have := hr.2
    omega
  refine ⟨fun h0 => ?_, fun hpos hr => ?_, fun hr => ?_, ?_, fun hn hl => ?_⟩
  · rw [← hcount] at h0
    rw [State.finishCompletion, if_neg (by rw [hproceeds (hnever h0)]; decide), if_pos h0]
    exact h.runEnd _ _
  · rw [State.finishCompletion, if_neg (by rw [hproceeds hr]; decide),
      if_neg (by rw [hcount]; omega)]
    exact h.runEnd _ _
  · rw [State.finishCompletion, if_pos (hends hr)]
    exact h.runEnd _ _
  · obtain ⟨v, cause, e⟩ := hfin
    rw [e]
    exact runEnd_wrote h v cause
  · obtain ⟨v, cause, e⟩ := hfin
    have hended := h.runEnd v cause
    rw [e]
    exact ⟨c.runNotice v cause, h.runEnd_notices v cause hn hl, hended.verdict.symm,
      hended.cause.symm, hstep, hcount⟩

/-- A completion is one of every state with its position, its clocks, its view, its configuration, its
log and its notices. -/
theorem RunCompleted.of_place {written : List Record} {s s' t : State} (h : RunCompleted written s t)
    (position : t.rcu.step = s'.rcu.step ∧ t.rcu.phase = s'.rcu.phase ∧
      t.rcu.iteration = s'.rcu.iteration)
    (step : s.rcu.step = s'.rcu.step)
    (clocks : s.tmu = s'.tmu) (view : s.bgu.peers = s'.bgu.peers) (cfl : s.cfl = s'.cfl)
    (log : s.fcu.log = s'.fcu.log ∧ s.fcu.recordCount = s'.fcu.recordCount ∧
      s.fcu.logFull = s'.fcu.logFull ∧ s.fcu.lostCount = s'.fcu.lostCount)
    (notices : s.bus.notices = s'.bus.notices) : RunCompleted written s' t := by
  obtain ⟨hlog, hcount, hfull, hlost⟩ := log
  have hcfg : s.cfg = s'.cfg := by rw [State.cfg, State.cfg, cfl]
  have hindexed : s.indexed written = s'.indexed written := by rw [State.indexed, State.indexed, hlog]
  have hreaches : s.reachesMaxFaults written.length ↔ s'.reachesMaxFaults written.length := by
    rw [State.reachesMaxFaults, State.reachesMaxFaults, hcount, hcfg]
  obtain ⟨hpassed, hfailed, hlimited, hwrote, hnotices⟩ := h
  obtain ⟨wcount, wlog, wfull, wlost⟩ := hwrote
  rw [hcount] at hpassed hfailed hnotices wcount
  rw [hreaches] at hfailed hlimited
  rw [hlog, hindexed] at wlog hnotices
  rw [hlog] at wfull wlost
  rw [hfull] at wfull
  rw [hlost] at wlost
  rw [notices, step] at hnotices
  exact ⟨fun hn => (hpassed hn).of_place position clocks view,
    fun hn hr => (hfailed hn hr).of_place position clocks view,
    fun hr => (hlimited hr).of_place position clocks view, ⟨wcount, wlog, wfull, wlost⟩, hnotices⟩

/-! ### Raises that become records at once (R26, R138) -/

/-- The record of a raise holds its circumstances (R133, R137). -/
theorem formRecord_raised (asc : Asc) (kind : FaultKind) (points : List Nat) (value : Int)
    (s : State) : Raised kind points value s (s.formRecord asc kind points value) where
  kind := rfl
  points := rfl
  value := rfl
  times := ⟨rfl, rfl⟩
  position := ⟨rfl, rfl, rfl⟩
  context := by
    show s.contextFrom asc = none ↔ s.sou.level0 = 0
    unfold State.contextFrom
    split <;> simp_all

/-- With no coalescing a record that is not the last that max_faults allows stands in the log, and
nothing else happens but its FAULT notice (R138, R146, R147). -/
theorem captureRaise_recorded {asc : Asc} {kind : FaultKind} {points : List Nat} {value : Int}
    {s u : State} (hcoalesce : u.cfg.coalesceMs = 0)
    (hroom : u.fcu.log.length < 64) (hallowed : u.fcu.recordCount + 1 ≠ u.cfg.maxFaults)
    (hfcu : u.fcu = s.fcu) (hbus : u.bus.notices = s.bus.notices) :
    ∃ t r, u.captureRaise (s.formRecord asc kind points value) = t ∧
      Recorded kind points value s t r ∧ LogOnly u t := by
  have hraised := formRecord_raised asc kind points value s
  generalize s.formRecord asc kind points value = r at hraised
  have hwritten : u.captureRaise r = u.writeRecord r := by
    unfold State.captureRaise State.writeInRun
    dsimp only
    rw [if_pos hcoalesce, writeRecord_stored hroom]
    exact if_neg hallowed
  refine ⟨_, { r with index := s.fcu.log.length }, rfl, ?_, hwritten ▸ writeRecord_logOnly r u⟩
  rw [hwritten, writeRecord_stored hroom, hfcu]
  obtain ⟨hkind, hpoints, hvalue, htimes, hposition, hcontext⟩ := hraised
  refine ⟨?_, rfl, hkind, hpoints, hvalue, htimes, hposition, hcontext, fun hn => ?_⟩
  · dsimp only
    rw [if_neg fun h => hallowed (by rw [hfcu]; exact h.1)]
  · dsimp only
    rw [queueNotice_room (by rw [hbus]; exact hn), hbus]

/-- A raise of the step policy CONTINUE that is recorded at once (R26, R138). -/
theorem raiseSeeing_recorded {asc : Asc} {kind : FaultKind} {points : List Nat} {value : Int}
    {s : State} (h : s.RecordsAtOnce) (hforced : kind.forced = none) (hkind : kind ≠ .notReached) :
    ∃ t r, s.raiseSeeing asc kind points value = t ∧ Recorded kind points value s t r ∧
      LogOnly s t := by
  obtain ⟨hactive, hpolicy, hcoalesce, hroom, hallowed⟩ := h
  have hgoOn : s.goOnAction kind = s := if_neg fun hk => hkind hk.1
  have hraise : s.raiseSeeing asc kind points value =
      s.captureRaise (s.formRecord asc kind points value) := by
    unfold State.raiseSeeing
    rw [if_pos hactive]
    simp only [State.policyOf, hforced, Option.getD_none, hpolicy, hgoOn]
  rw [hraise]
  exact captureRaise_recorded hcoalesce hroom hallowed rfl rfl

/-! ### Raises that end the run (R27, R144) -/

theorem raiseSeeing_stops {asc : Asc} {kind : FaultKind} {points : List Nat} {value : Int}
    {s : State} (hactive : s.rcu.run.active = true) (hpolicy : s.policyOf kind = .stop) :
    s.raiseSeeing asc kind points value =
      (s.raiseClosing .ending (s.formRecord asc kind points value)).runEnd .fail kind.stopCause := by
  unfold State.raiseSeeing
  rw [if_pos hactive]
  simp only [hpolicy]

theorem raiseSeeing_aborts {asc : Asc} {kind : FaultKind} {points : List Nat} {value : Int}
    {s : State} (hactive : s.rcu.run.active = true) (hpolicy : s.policyOf kind = .abort) :
    s.raiseSeeing asc kind points value =
      (s.raiseClosing .ending (s.formRecord asc kind points value)).runEnd .aborted
        kind.abortCause := by
  unfold State.raiseSeeing
  rw [if_pos hactive]
  simp only [hpolicy]

/-- What a run end after a closing leaves alone, and the outputs (R28). -/
theorem Closed.runEnd_kept {written : List Record} {s c : State} {mode : ClosingMode}
    (h : Closed written (s.closing mode) c) (v : Verdict) (cause : EndCause) :
    (c.runEnd v cause).asc = s.asc ∧ (c.runEnd v cause).cfl = s.cfl ∧
      (c.runEnd v cause).sou = s.sou.runEnd s.cfg cause ∧
      (c.runEnd v cause).bgu.overdrawEpisodes = s.bgu.overdrawEpisodes ∧
      ((c.runEnd v cause).bgu.overdrawSamples = 0 ∨
        (c.runEnd v cause).bgu.overdrawSamples = s.bgu.overdrawSamples) ∧
      (c.runEnd v cause).wck.points = s.wck.points := by
  obtain ⟨f, n, d, rfl⟩ := h.only
  obtain ⟨o, b, bn, ns, nd, lanes, lines, e, ho, -⟩ :=
    runEnd_spec v cause { s.closing mode with
      fcu := f, bus := { (s.closing mode).bus with notices := n, noticeDrops := d } }
  rw [e]
  exact ⟨rfl, rfl, rfl, rfl, ho, rfl⟩

/-- With room for all of them the last record written stands last in the log (R146). -/
theorem Wrote.last {a : List Record} {r : Record} {s t : State} (h : Wrote (a ++ [r]) s t)
    (hroom : s.fcu.log.length + a.length < 64) :
    t.fcu.log.getLast? = some { r with index := s.fcu.log.length + a.length } := by
  rw [h.log, List.take_of_length_le (by rw [indexed_length]; simp; omega), State.indexed,
    List.mapIdx_append]
  simp

theorem openRecords_length (s : State) : s.openRecords.length = s.fcu.groups.length :=
  List.length_map _

/-- What O40 asks of a forced raise without points that ends the run: the open groups and its record
written last (R144). -/
theorem forcedRaise_ends {kind : FaultKind} {value : Int} {v : Verdict} {cause : EndCause} {s : State}
    (hless : kind.pointLess = true)
    (hraise : s.raise kind [] value = (s.raiseClosing .ending
      (s.formRecord s.asc kind [] value)).runEnd v cause) :
    RunEnded v cause s (s.raise kind [] value) ∧ (s.raise kind [] value).asc = s.asc ∧
      (s.raise kind [] value).cfl = s.cfl ∧
      (s.raise kind [] value).sou = s.sou.runEnd s.cfg cause ∧
      (s.raise kind [] value).fcu.recordCount = s.fcu.recordCount + s.fcu.groups.length + 1 ∧
      (s.fcu.log.length + s.fcu.groups.length < 64 →
        ∃ r, (s.raise kind [] value).fcu.log.getLast? = some r ∧ r.kind = kind ∧ r.points = [] ∧
          r.value = min value 2147483647) := by
  rw [hraise]
  obtain ⟨hkind, hpoints, hvalue, -⟩ := formRecord_raised s.asc kind [] value s
  generalize s.formRecord s.asc kind [] value = r at *
  have hclosed := raiseClosing_pointLess (mode := .ending) (s := s) (hkind ▸ hless)
  obtain ⟨hasc, hcfl, hsou, -⟩ := hclosed.runEnd_kept v cause
  have hwrote := runEnd_wrote hclosed v cause
  refine ⟨hclosed.runEnd v cause, hasc, hcfl, hsou, ?_, fun hroom => ?_⟩
  · rw [hwrote.count, List.length_append, openRecords_length]
    rfl
  · exact ⟨_, hwrote.last (by rwa [openRecords_length]), hkind, hpoints, hvalue⟩

/-- Settles O40: the three forced raises through `forcedRaise_ends`. -/
theorem forcedRaisesEndTheRun : Obligations.ForcedRaisesEndTheRun := by
  intro s hlive hactive
  refine ⟨fun hdue => ?_, fun hsense => ?_, fun hwait hlong => ?_⟩
  · have hexec : exec .outputLimitTimerExpiry s = .next
        (State.raise .outputLimit [] s.sou.level0
          { s with sou := { s.sou with limit := .expired } }) :=
      (live_next hlive).trans (congrArg _ (if_pos hdue))
    obtain ⟨hended, hasc, hcfl, -, hcount, hlast⟩ := forcedRaise_ends (kind := .outputLimit)
      (value := s.sou.level0) (s := { s with sou := { s.sou with limit := .expired } }) rfl
      (raiseSeeing_stops hactive rfl)
    exact ⟨_, hexec, { hended with }, hasc, hcfl, hcount, hlast⟩
  · have hexec : exec (.supplySenseChange false) s = .next
        (State.raise .supplyLost [] s.sou.level0
          { s with sou := { s.sou with sensePresent := false } }) := by
      simp only [exec, execSupplySenseChange, hlive, Bool.false_eq_true, if_false, senseChanges,
        hsense, Bool.not_false, Bool.and_self, if_true, hactive]
    obtain ⟨hended, hasc, hcfl, hsou, hcount, hlast⟩ := forcedRaise_ends (kind := .supplyLost)
      (value := s.sou.level0) (s := { s with sou := { s.sou with sensePresent := false } }) rfl
      (raiseSeeing_aborts hactive rfl)
    have hsafe := (runEnd_safe s.cfg .supplyLost { s.sou with sensePresent := false }).1 (.inr rfl)
    obtain ⟨-, -, -, -, hpresent, -⟩ :=
      runEnd_outputs s.cfg .supplyLost { s.sou with sensePresent := false }
    refine ⟨_, hexec, { hended with }, hasc, hcfl, ?_, ?_, ?_, ?_, ?_, hcount, hlast⟩
    all_goals rw [hsou]
    · exact hpresent
    · exact hsafe.1
    · exact hsafe.2.1
    · exact hsafe.2.2.1
    · exact hsafe.2.2.2
  · have hexec : exec .waitingLimitReached s = .next
        (s.raise .budgetTimeout [] s.bgu.refusals) :=
      (live_next hlive).trans (congrArg _ (if_pos ⟨Option.isSome_iff_ne_none.mpr hwait, hlong⟩))
    obtain ⟨hended, hasc, hcfl, -, hcount, hlast⟩ := forcedRaise_ends (kind := .budgetTimeout)
      (value := s.bgu.refusals) (s := s) rfl (raiseSeeing_aborts hactive rfl)
    exact ⟨_, hexec, hended, hasc, hcfl, hcount, hlast⟩

end Sys2Proof.Machine
end

section
/-! SUPPORT. Scans, conversions and windows as equations: the next enabled point, the judgement of the
power, what a conversion leaves where its sample raises nothing, the filter's range and the turns of a
window. After them the statements on measurement. -/

namespace Sys2Proof.Machine

/-! ### The next enabled point (R73, R83) -/

/-- The points below a number in the scan order are those before it. -/
theorem points_split (j : Fin 8) : ∃ as bs : List (Fin 8),
    [0, 1, 2, 3, 4, 5, 6, 7] = as ++ j :: bs ∧ ∀ a ∈ as, a < j :=
  ⟨([0, 1, 2, 3, 4, 5, 6, 7] : List (Fin 8)).take j.val,
    ([0, 1, 2, 3, 4, 5, 6, 7] : List (Fin 8)).drop (j.val + 1), by revert j; decide,
    by revert j; decide⟩

theorem nextEnabled_eq_some {points : Oct PointRec} {k : Nat} {j : Fin 8} (hk : k ≤ j.val)
    (hj : (points.get j).range ≠ .off)
    (hoff : ∀ n : Fin 8, k ≤ n.val → n < j → (points.get n).range = .off) :
    nextEnabled points k = some j := by
  obtain ⟨as, bs, hsplit, hbefore⟩ := points_split j
  refine List.find?_eq_some_iff_append.mpr ⟨by simp [hk, hj], as, bs, hsplit, fun n hn => ?_⟩
  by_cases hle : k ≤ n.val
  · simp [hoff n hle (hbefore n hn)]
  · simp [hle]

theorem nextEnabled_eq_none {points : Oct PointRec} {k : Nat}
    (hoff : ∀ n : Fin 8, k ≤ n.val → (points.get n).range = .off) : nextEnabled points k = none := by
  refine List.find?_eq_none.mpr fun n _ => ?_
  by_cases hle : k ≤ n.val
  · simp [hoff n hle]
  · simp [hle]

/-! ### The power (R67, R68, R84) -/

/-- The limit is 1.125 times the claim (R67). -/
theorem overdrawLimit_lt_iff (claim power : Nat) :
    overdrawLimit claim < power ↔ 90 * claim < 8 * power := by
  unfold overdrawLimit
  omega

/-- Without power over the limit the count of overdrawn scans starts again (R67). -/
theorem judgeOverdraw_within {seen : Asc} {s : State}
    (h : s.sou.level0 = 0 ∨ 8 * s.asc.power ≤ 90 * s.bgu.committed) :
    s.judgeOverdraw seen = { s with bgu := { s.bgu with overdrawSamples := 0 } } := by
  unfold State.judgeOverdraw
  by_cases h0 : s.sou.level0 = 0
  · rw [if_pos h0]
  · rw [if_neg h0, if_neg fun hover => by rw [overdrawLimit_lt_iff] at hover; omega]

theorem judgeOverdraw_counts {seen : Asc} {s : State} (h0 : 0 < s.sou.level0)
    (hover : 90 * s.bgu.committed < 8 * s.asc.power)
    (hcount : s.bgu.overdrawSamples + 1 < s.cfg.overdrawCount) :
    s.judgeOverdraw seen =
      { s with bgu := { s.bgu with overdrawSamples := s.bgu.overdrawSamples + 1 } } := by
  unfold State.judgeOverdraw
  rw [if_neg (Nat.ne_of_gt h0), if_pos ((overdrawLimit_lt_iff _ _).mpr hover),
    if_neg (Nat.not_le.mpr hcount)]

theorem judgeOverdraw_raises {seen : Asc} {s : State} (h0 : 0 < s.sou.level0)
    (hover : 90 * s.bgu.committed < 8 * s.asc.power)
    (hcount : s.cfg.overdrawCount ≤ s.bgu.overdrawSamples + 1) :
    s.judgeOverdraw seen = State.raiseSeeing seen .overdraw [0, 1] s.asc.power
      { s with bgu := { s.bgu with
        overdrawSamples := 0
        overdrawEpisodes := min (s.bgu.overdrawEpisodes + 1) 65535 } } := by
  unfold State.judgeOverdraw
  rw [if_neg (Nat.ne_of_gt h0), if_pos ((overdrawLimit_lt_iff _ _).mpr hover), if_pos hcount]
  rfl

/-! ### Scan starts (R73) -/

theorem startScan_of_between {next : Uptime} {s : State} (h : s.asc.scanner = .between next) :
    startScan s = if reached s.tmu.uptime next then
      s.beginScan (next + BitVec.ofNat 48 (scanPeriod s.cfg)) else s := by
  simp only [startScan, h]

/-- Settles O42, by the scanner's state and by the first enabled point. -/
theorem scanStartsAtTheLowestPoint : Obligations.ScanStartsAtTheLowestPoint := by
  have hexec {s : State} (h : s.inReset = false) : exec .scanStart s = .next (startScan s) :=
    live_next h
  refine ⟨fun next s hlive hscan => ⟨fun i hdue hi hoff => ?_, fun hdue hoff => ?_, fun hearly => ?_⟩,
    fun s hlive hscan => ?_⟩
  · rw [hexec hlive, startScan_of_between hscan,
      if_pos (show reached _ _ = true from decide_eq_true hdue), State.beginScan,
      nextEnabled_eq_some (Nat.zero_le _) hi fun n _ hn => hoff n hn]
    rfl
  · rw [hexec hlive, startScan_of_between hscan,
      if_pos (show reached _ _ = true from decide_eq_true hdue), State.beginScan,
      nextEnabled_eq_none fun n _ => hoff n]
    refine ⟨_, rfl, ?_, fun h0 => ?_⟩
    · exact (judgeOverdraw_moves _ _).asc
    · have hwithin := judgeOverdraw_within (seen := s.asc) (s := { s with asc := { s.asc with
        scanner := .between (next + BitVec.ofNat 48 (scanPeriod s.cfg))
        power := boardPower (s.asc.points.get 0).y (s.asc.points.get 1).y } }) (.inl h0)
      unfold State.completeScan
      rw [hwithin]
  · rw [hexec hlive, startScan_of_between hscan,
      if_neg (by simp only [reached, decide_eq_true_eq]; omega)]
  · rw [hexec hlive]
    rcases hscan with hscan | ⟨next, i, hscan⟩ <;> simp only [startScan, hscan]

/-! ### Conversions (R75 to R83) -/

theorem codeOf_eq (uv : Int) : codeOf uv = min 4095 ((4096 * uv + 1250000) / 2500000).toNat := by
  unfold codeOf
  omega

/-- The stages of a conversion, written out (R75 to R81). -/
theorem convert_eq {uv raw m y : Int} {c k : Nat} {p : PointRec} {v : PointValue}
    (hc : c = min 4095 ((4096 * uv + 1250000) / 2500000).toNat)
    (hraw : raw = (c * p.range.fullScale + 2048) / 4096 - (if p.range = .temp then 500 else 0))
    (hm : m = (raw * p.gain + 16384) / 32768 + p.offset)
    (hk : k = (match p.filter with | .none => 0 | .short => 2 | .medium => 4 | .long => 6))
    (hy : y = if v.running = true then (v.acc + m - v.acc / 2 ^ k) / 2 ^ k else m) :
    v.convert p uv = { v with
      code := c, underRange := decide (c = 0), overRange := decide (c = 4095), m := m, y := y
      running := true
      acc := if v.running = true then v.acc + m - v.acc / 2 ^ k else m * 2 ^ k } := by
  have hshift : p.filter.shift = k := hk ▸ rfl
  rw [← codeOf_eq] at hc
  have hcal : calibrate p.gain p.offset (scaleCode p.range (codeOf uv)) = m := by
    rw [hm, hraw, hc]
    rfl
  have e : v.convert p uv = PointValue.filter p.filter m
      { v with code := c, underRange := decide (c = 0), overRange := decide (c = 4095) } := by
    rw [← hcal, hc]
    rfl
  rw [e, PointValue.filter, hshift]
  cases hr : v.running
  · rw [hr, if_neg Bool.false_ne_true] at hy
    simp [hy]
  · rw [hr, if_pos rfl] at hy
    simp [hy]

/-- The point at the scan position with its sample taken, before the sample is judged. -/
def State.converted (uv : Int) (i : Fin 8) (s : State) : State :=
  { s with
    asc := { s.asc with
      points := s.asc.points.set i ((s.asc.points.get i).convert (s.cfg.points.get i) uv) }
    free := s.free + 1 }

/-- What a context of the conversion reads of the scanner (log entry 8). -/
def State.seenAt (uv : Int) (i : Fin 8) (s : State) : Asc :=
  if Config.contextReadsAfter s.free then (s.converted uv i).asc else s.asc

/-- The conversion with the point's sample judged. -/
def State.sampled (uv : Int) (i : Fin 8) (s : State) : State :=
  (s.converted uv i).takeSample (s.seenAt uv i) i
    ((s.asc.points.get i).convert (s.cfg.points.get i) uv).y

/-- The conversion of the point at the scan position goes on to the next enabled point, or ends the
scan (R73, R83). -/
def State.scanOn (seen : Asc) (next : Uptime) (s : State) : Option (Fin 8) → State
  | some j => { s with asc := { s.asc with scanner := .scanning next j } }
  | none => s.completeScan seen next

theorem completeConversion_of_scanning {uv : Int} {next : Uptime} {i : Fin 8} {s : State}
    (hscan : s.asc.scanner = .scanning next i) :
    completeConversion uv s = (s.sampled uv i).scanOn (s.seenAt uv i) next
      (nextEnabled (s.sampled uv i).cfg.points (i.val + 1)) := by
  unfold completeConversion
  split
  · next next' i' h =>
    obtain ⟨rfl, rfl⟩ := Scanner.scanning.inj (hscan.symm.trans h)
    rfl
  · next h => cases hscan.symm.trans h
  · next h => cases hscan.symm.trans h

/-- The next enabled point follows (R83). -/
theorem exec_conversion_next {uv : Int} {next : Uptime} {i j : Fin 8} {s : State}
    (hlive : s.inReset = false) (hscan : s.asc.scanner = .scanning next i) (hij : i < j)
    (hj : (s.cfg.points.get j).range ≠ .off)
    (hoff : ∀ n, i < n → n < j → (s.cfg.points.get n).range = .off)
    (hcfl : (s.sampled uv i).cfl = s.cfl) :
    exec (.conversionCompletion uv) s = .next { s.sampled uv i with
      asc := { (s.sampled uv i).asc with scanner := .scanning next j } } := by
  refine (live_next hlive).trans (congrArg _ ?_)
  have hnext : nextEnabled (s.sampled uv i).cfg.points (i.val + 1) = some j := by
    rw [State.cfg, hcfl]
    exact nextEnabled_eq_some hij hj fun n hn => hoff n hn
  rw [completeConversion_of_scanning hscan, hnext]
  rfl

/-- After the last enabled point the scan completes (R73, R84). -/
theorem exec_conversion_last {uv : Int} {next : Uptime} {i : Fin 8} {s : State}
    (hlive : s.inReset = false) (hscan : s.asc.scanner = .scanning next i)
    (hoff : ∀ n, i < n → (s.cfg.points.get n).range = .off)
    (hcfl : (s.sampled uv i).cfl = s.cfl) :
    exec (.conversionCompletion uv) s =
      .next ((s.sampled uv i).completeScan (s.seenAt uv i) next) := by
  refine (live_next hlive).trans (congrArg _ ?_)
  have hnext : nextEnabled (s.sampled uv i).cfg.points (i.val + 1) = none := by
    rw [State.cfg, hcfl]
    exact nextEnabled_eq_none fun n hn => hoff n hn
  rw [completeConversion_of_scanning hscan, hnext]
  rfl

/-! ### Samples (R94, R100 to R102) -/

theorem windowSample_of_unjudged {seen : Asc} {i : Fin 8} {y : Int} {s : State}
    (h : s.judges i = false) : s.windowSample seen i y = s :=
  if_neg (by rw [h]; exact Bool.false_ne_true)

/-- A sample of a point that no open request watches is judged for its window alone (R83). -/
theorem takeSample_of_unwatched {seen : Asc} {i : Fin 8} {y : Int} {s : State}
    (h : ∀ r, s.wck.reach = some r → r.point ≠ i.val) :
    s.takeSample seen i y = s.windowSample seen i y := by
  have hopen : s.reachOpenOn i = false := by
    unfold State.reachOpenOn
    split
    · rfl
    · next r hr => exact decide_eq_false (h r hr)
  simp [State.takeSample, hopen]

/-- A reach sample of a point that is not judged uses up a second free value (log entry 7). -/
theorem takeSample_of_watched {seen : Asc} {i : Fin 8} {y : Int} {r : ReachRequest} {s : State}
    (hjudges : s.judges i = false) (hr : s.wck.reach = some r) (hpoint : r.point = i.val)
    (hafter : (({ s with free := s.free + 1 } : State).reachSample i y).judges i = false) :
    s.takeSample seen i y = ({ s with free := s.free + 1 } : State).reachSample i y := by
  have hopen : s.reachOpenOn i = true := by
    simp [State.reachOpenOn, hr, hpoint]
  unfold State.takeSample
  rw [if_pos hopen]
  dsimp only
  split
  · exact windowSample_of_unjudged hafter
  · rw [windowSample_of_unjudged (s := { s with free := s.free + 1 }) hjudges]

theorem reachSample_of_outside {i : Fin 8} {y : Int} {r : ReachRequest} {s : State}
    (hr : s.wck.reach = some r) (hy : y < r.target - r.band ∨ r.target + r.band < y) :
    s.reachSample i y = s := by
  simp only [State.reachSample, hr]
  refine if_neg fun h => ?_
  have := of_decide_eq_true h.2
  omega

theorem reachSample_of_inside {i : Fin 8} {y : Int} {r : ReachRequest} {s : State}
    (hr : s.wck.reach = some r) (hpoint : r.point = i.val) (hlow : r.target - r.band ≤ y)
    (hhigh : y ≤ r.target + r.band) :
    s.reachSample i y = ({ s with wck := { s.wck with reach := none } } : State).reachMet := by
  simp only [State.reachSample, hr]
  exact if_pos ⟨hpoint, decide_eq_true ⟨hlow, hhigh⟩⟩

theorem reachMet_of_reaching {s : State} (hrun : s.rcu.run = .running)
    (hphase : s.rcu.phase = .reaching) : s.reachMet = s.enterTiming := by
  rw [State.reachMet, if_neg (by rw [hrun]; decide), if_pos hphase]

theorem reachMet_of_paused {s : State} (hrun : s.rcu.run = .paused) :
    s.reachMet = { s with rcu := { s.rcu with heldReach := true } } := if_pos hrun

/-- The reach condition does not make a point judged that was not: the board-on flag, the blanking
flag and the governing step stand. -/
theorem reachMet_judges (i : Fin 8) (s : State)
    (h : s.rcu.run = .running ∧ s.rcu.phase = .reaching ∨ s.rcu.run = .paused) :
    s.reachMet.judges i = s.judges i := by
  rcases h with ⟨hrun, hphase⟩ | hrun
  · rw [reachMet_of_reaching hrun hphase]
    rfl
  · rw [reachMet_of_paused hrun]
    rfl

/-! ### The filter (R80, R81) -/

/-- A running filter whose accumulator lies within its samples' range. -/
structure PointValue.Within (f : Filter) (lo hi : Int) (v : PointValue) : Prop where
  running : v.running = true
  low : lo ≤ v.y
  high : v.y ≤ hi
  accLow : lo * 2 ^ f.shift ≤ v.acc
  accHigh : v.acc ≤ hi * 2 ^ f.shift

theorem filter_first {f : Filter} {lo hi m : Int} {v : PointValue} (h : v.running = false)
    (hlo : lo ≤ m) (hhi : m ≤ hi) : (v.filter f m).Within f lo hi := by
  have hpos : (0 : Int) ≤ 2 ^ f.shift := by positivity
  have e : v.filter f m = { v with m := m, acc := m * 2 ^ f.shift, y := m, running := true } := by
    simp [PointValue.filter, h]
  rw [e]
  exact ⟨rfl, hlo, hhi, Int.mul_le_mul_of_nonneg_right hlo hpos,
    Int.mul_le_mul_of_nonneg_right hhi hpos⟩

/-- One step of the accumulator stays between the bounds of its samples (R80). -/
theorem acc_step_within {S acc m lo hi : Int} (hS : 0 < S) (hlow : lo * S ≤ acc)
    (hhigh : acc ≤ hi * S) (hlo : lo ≤ m) (hhi : m ≤ hi) :
    lo * S ≤ acc + m - acc / S ∧ acc + m - acc / S ≤ hi * S := by
  have hq : lo ≤ acc / S := (Int.le_ediv_iff_mul_le hS).mpr hlow
  have hdiv := Int.mul_ediv_add_emod acc S
  have hr := Int.emod_nonneg acc (Int.ne_of_gt hS)
  have hlt := Int.emod_lt_of_pos acc hS
  generalize acc / S = q at *
  generalize acc % S = r at *
  constructor
  · nlinarith
  · rcases lt_or_ge q hi with h | h
    · nlinarith
    · nlinarith

theorem filter_within {f : Filter} {lo hi m : Int} {v : PointValue} (h : v.Within f lo hi)
    (hlo : lo ≤ m) (hhi : m ≤ hi) : (v.filter f m).Within f lo hi := by
  obtain ⟨hrun, -, -, haccLow, haccHigh⟩ := h
  have hpos : (0 : Int) < 2 ^ f.shift := by positivity
  obtain ⟨hlow, hhigh⟩ := acc_step_within hpos haccLow haccHigh hlo hhi
  have e : v.filter f m = { v with
      m := m, acc := v.acc + m - v.acc / 2 ^ f.shift
      y := (v.acc + m - v.acc / 2 ^ f.shift) / 2 ^ f.shift } := by
    simp [PointValue.filter, hrun]
  rw [e]
  exact ⟨hrun, (Int.le_ediv_iff_mul_le hpos).mpr hlow,
    Int.ediv_le_of_le_mul hpos hhigh, hlow, hhigh⟩

theorem foldl_filter_within {f : Filter} {lo hi : Int} {samples : List Int} {v : PointValue}
    (h : v.Within f lo hi) (hs : ∀ m ∈ samples, lo ≤ m ∧ m ≤ hi) :
    (samples.foldl (fun w m => w.filter f m) v).Within f lo hi := by
  induction samples generalizing v with
  | nil => exact h
  | cons m ms ih =>
    obtain ⟨hlo, hhi⟩ := hs m List.mem_cons_self
    exact ih (filter_within h hlo hhi) fun n hn => hs n (List.mem_cons_of_mem m hn)

theorem codeOf_mono {x y : Int} (h : x ≤ y) : codeOf x ≤ codeOf y ∧ codeOf y ≤ 4095 := by
  unfold codeOf
  omega

/-- Settles O43: the equations of a conversion by the reach request, and the filter's range by the
accumulator's. -/
theorem conversionScalesCalibratesAndFilters : Obligations.ConversionScalesCalibratesAndFilters := by
  refine ⟨fun uv next i j c raw m y k v s hlive hscan hjudges hij hj hoff hc hraw hm hk hy hv => ?_,
    fun x y h => codeOf_mono h, fun f lo hi first samples v hv hlo hhi hs => ?_,
    fun f m n v hv => ?_⟩
  · have hconv : (s.asc.points.get i).convert (s.cfg.points.get i) uv = v :=
      (convert_eq hc hraw hm hk hy).trans hv.symm
    have hvy : v.y = y := by rw [hv]
    -- What the sample leaves behind is what the command leaves, but for the scan position.
    have hexec {t : State} (hsample : s.sampled uv i = t) (hcfl : t.cfl = s.cfl) :
        exec (.conversionCompletion uv) s =
          .next { t with asc := { t.asc with scanner := .scanning next j } } := by
      subst hsample
      exact exec_conversion_next hlive hscan hij hj hoff hcfl
    have hconverted : s.converted uv i = { s with
        asc := { s.asc with points := s.asc.points.set i v }, free := s.free + 1 } := by
      rw [State.converted, hconv]
    have hunwatched (h : ∀ r, s.wck.reach = some r → r.point ≠ i.val) :
        s.sampled uv i = s.converted uv i :=
      (takeSample_of_unwatched (s := s.converted uv i) h).trans
        (windowSample_of_unjudged (s := s.converted uv i) hjudges)
    have hwatched {r : ReachRequest} (hreach : s.wck.reach = some r) (hpoint : r.point = i.val)
        (hafter : (({ s.converted uv i with free := s.free + 2 } : State).reachSample i y).judges i =
          false) :
        s.sampled uv i = ({ s.converted uv i with free := s.free + 2 } : State).reachSample i y := by
      rw [← hvy, ← hconv] at hafter ⊢
      exact takeSample_of_watched (s := s.converted uv i) hjudges hreach hpoint hafter
    have hmet {r : ReachRequest} (hreach : s.wck.reach = some r) (hpoint : r.point = i.val)
        (hlow : r.target - r.band ≤ y) (hhigh : y ≤ r.target + r.band)
        (hrun : s.rcu.run = .running ∧ s.rcu.phase = .reaching ∨ s.rcu.run = .paused) :
        s.sampled uv i = State.reachMet { s.converted uv i with
          wck := { s.wck with reach := none }, free := s.free + 2 } := by
      have hinside := reachSample_of_inside
        (s := { s.converted uv i with free := s.free + 2 }) hreach hpoint hlow hhigh
      rw [hwatched hreach hpoint (by
        rw [hinside]
        exact (reachMet_judges i { s.converted uv i with
          wck := { s.wck with reach := none }, free := s.free + 2 } hrun).trans hjudges), hinside]
      rfl
    refine ⟨fun hreach => ?_, fun r hreach => ⟨fun hpoint => ?_, fun hpoint hout => ?_,
      fun hpoint hlow hhigh => ⟨fun hrun hphase => ?_, fun hrun => ?_⟩⟩⟩
    · rw [hexec ((hunwatched (by rw [hreach]; nofun)).trans hconverted) rfl]
    · rw [hexec ((hunwatched (by rw [hreach]; rintro _ ⟨⟩; exact hpoint)).trans hconverted) rfl]
    · have houtside := reachSample_of_outside (i := i)
        (s := { s.converted uv i with free := s.free + 2 }) hreach hout
      rw [hexec ((hwatched hreach hpoint (by rw [houtside]; exact hjudges)).trans houtside) rfl, hconverted]
    · rw [hexec ((hmet hreach hpoint hlow hhigh (.inl ⟨hrun, hphase⟩)).trans
        (reachMet_of_reaching hrun hphase)) rfl, hconverted]
      rfl
    · rw [hexec ((hmet hreach hpoint hlow hhigh (.inr hrun)).trans (reachMet_of_paused hrun)) rfl,
        hconverted]
  · have := foldl_filter_within (filter_first (f := f) hv hlo hhi) hs
    exact ⟨this.low, this.high⟩
  · have := foldl_filter_within (filter_first (f := f) (lo := m) (hi := m) hv le_rfl le_rfl)
      (samples := List.replicate n m) fun x hx => by
        rw [List.eq_of_mem_replicate hx]
        exact ⟨le_rfl, le_rfl⟩
    exact le_antisymm this.high this.low

/-! ### Windows (R92 to R97) -/

theorem judge_in_inside (p x r e : Nat) :
    Window.judge p .inside ⟨false, x, r, e⟩ = (⟨false, 0, r, e⟩, false) := by
  simp [Window.judge]

theorem judge_out_outside {c : SampleClass} (hc : c ≠ .inside) (p x r e : Nat) :
    Window.judge p c ⟨true, x, r, e⟩ = (⟨true, x, 0, e⟩, false) := by
  simp [Window.judge, hc]

theorem judge_in_outside {c : SampleClass} (hc : c ≠ .inside) (p x r e : Nat) :
    Window.judge p c ⟨false, x, r, e⟩ =
      if p ≤ x + 1 then (⟨true, 0, 0, min (e + 1) 65535⟩, true)
      else (⟨false, x + 1, r, e⟩, false) := by
  simp only [Window.judge, Bool.false_eq_true, if_false, if_neg hc]
  rfl

theorem judge_out_inside (p x r e : Nat) :
    Window.judge p .inside ⟨true, x, r, e⟩ =
      if p ≤ r + 1 then (⟨false, 0, 0, e⟩, false) else (⟨true, x, r + 1, e⟩, false) := by
  simp only [Window.judge, if_true]

/-- A run of samples outside the bounds turns a point OUT at the persistence-th (R96). -/
theorem iterate_judge_outside {c : SampleClass} (hc : c ≠ .inside) {p : Nat} (hp : 0 < p) (e n : Nat) :
    (fun w => (Window.judge p c w).1)^[n] ⟨false, 0, 0, e⟩ =
      if n < p then ⟨false, n, 0, e⟩ else ⟨true, 0, 0, min (e + 1) 65535⟩ := by
  induction n with
  | zero => exact (if_pos hp).symm
  | succ n ih =>
    rw [Function.iterate_succ_apply', ih]
    rcases Nat.lt_trichotomy (n + 1) p with h | h | h
    · rw [if_pos (by omega), judge_in_outside hc, if_neg (by omega), if_pos h]
    · rw [if_pos (by omega), judge_in_outside hc, if_pos (by omega), if_neg (by omega)]
    · rw [if_neg (by omega), judge_out_outside hc, if_neg (by omega)]

/-- A run of samples inside the bounds brings a point back IN at the persistence-th (R97). -/
theorem iterate_judge_inside {p : Nat} (hp : 0 < p) (e n : Nat) :
    (fun w => (Window.judge p .inside w).1)^[n] ⟨true, 0, 0, e⟩ =
      if n < p then ⟨true, 0, n, e⟩ else ⟨false, 0, 0, e⟩ := by
  induction n with
  | zero => exact (if_pos hp).symm
  | succ n ih =>
    rw [Function.iterate_succ_apply', ih]
    rcases Nat.lt_trichotomy (n + 1) p with h | h | h
    · rw [if_pos (by omega), judge_out_inside, if_neg (by omega), if_pos h]
    · rw [if_pos (by omega), judge_out_inside, if_pos (by omega), if_neg (by omega)]
    · rw [if_neg (by omega), judge_in_inside, if_neg (by omega)]

/-- Of a run of samples outside the bounds the persistence-th raises, and no other (R96). -/
theorem judge_raises_iff {c : SampleClass} (hc : c ≠ .inside) {p : Nat} (hp : 0 < p) (e n : Nat) :
    (Window.judge p c ((fun w => (Window.judge p c w).1)^[n] ⟨false, 0, 0, e⟩)).2 =
      decide (n + 1 = p) := by
  rw [iterate_judge_outside hc hp]
  rcases Nat.lt_trichotomy (n + 1) p with h | h | h
  · rw [if_pos (by omega), judge_in_outside hc, if_neg (by omega)]
    exact (decide_eq_false (by omega)).symm
  · rw [if_pos (by omega), judge_in_outside hc, if_pos (by omega)]
    exact (decide_eq_true h).symm
  · rw [if_neg (by omega), judge_out_outside hc]
    exact (decide_eq_false (by omega)).symm

/-- With a tolerance of at most 50 % the lower bound lies at the nominal less the half-width (R93). -/
theorem windowLow_cast {nominal tolerance : Nat} (h : tolerance ≤ 5000) :
    (windowLow nominal tolerance : Int) = nominal - nominal * tolerance / 10000 := by
  have hhalf : nominal * tolerance / 10000 ≤ nominal := by
    refine Nat.div_le_of_le_mul ?_
    rw [Nat.mul_comm]
    exact Nat.mul_le_mul_right nominal (by omega)
  rw [windowLow, halfWidth, Nat.cast_sub hhalf]
  norm_cast

theorem windowHigh_cast (nominal tolerance : Nat) :
    (windowHigh nominal tolerance : Int) =
      min 32767 ((nominal : Int) + nominal * tolerance / 10000) := by
  rw [windowHigh, halfWidth]
  norm_cast

theorem classify_low_iff {nominal tolerance : Nat} {y : Int} :
    classify nominal tolerance y = .low ↔ y < windowLow nominal tolerance := by
  unfold classify
  (repeat' split) <;> simp_all

theorem classify_high_iff {nominal tolerance : Nat} {y : Int} :
    classify nominal tolerance y = .high ↔
      (windowHigh nominal tolerance : Int) < y ∧ (windowLow nominal tolerance : Int) ≤ y := by
  unfold classify
  (repeat' split)
  · simp_all
  · simp_all
  · simp_all

/-- A judged sample that turns no point OUT moves its window only (R95 to R97). -/
theorem windowSample_of_quiet {seen : Asc} {i : Fin 8} {y : Int} {after : Window} {s : State}
    (h : s.judges i = true)
    (hjudge : (s.wck.points.get i).judge (s.cfg.points.get i).persistence
      (classify (s.nominal i) (s.tolerance i) y) = (after, false)) :
    s.windowSample seen i y =
      { s with wck := { s.wck with points := s.wck.points.set i after } } := by
  unfold State.windowSample
  rw [if_pos h]
  dsimp only
  rw [hjudge]
  rfl

/-- A judged sample that turns its point OUT raises its excursion (R96). -/
theorem windowSample_of_turn {seen : Asc} {i : Fin 8} {y : Int} {after : Window} {s : State}
    (h : s.judges i = true)
    (hjudge : (s.wck.points.get i).judge (s.cfg.points.get i).persistence
      (classify (s.nominal i) (s.tolerance i) y) = (after, true)) :
    s.windowSample seen i y = State.raiseSeeing seen
      (if classify (s.nominal i) (s.tolerance i) y = .low then .excursionLow else .excursionHigh)
      [i.val] y { s with wck := { s.wck with points := s.wck.points.set i after } } := by
  unfold State.windowSample
  rw [if_pos h]
  dsimp only
  rw [hjudge]
  rfl

/-- What a judged sample leaves of its window where it does not turn the point OUT, case by case. -/
theorem judge_quiet {p : Nat} {c : SampleClass} {w after : Window}
    (h : w.out = true ∨ c = .inside ∨ w.excursionRun + 1 < p)
    (hafter : after = (if w.out = true ∧ c = .inside then
        if p ≤ w.returnRun + 1 then { w with out := false, excursionRun := 0, returnRun := 0 }
        else { w with returnRun := w.returnRun + 1 }
      else if w.out = true then { w with returnRun := 0 }
      else if c = .inside then { w with excursionRun := 0 }
      else { w with excursionRun := w.excursionRun + 1 })) :
    w.judge p c = (after, false) := by
  obtain ⟨out, x, r, e⟩ := w
  subst hafter
  cases out
  · by_cases hc : c = .inside
    · subst hc
      simp [judge_in_inside]
    · have hx : x + 1 < p := by simpa [hc] using h
      simp [judge_in_outside hc, hc, Nat.not_le.mpr hx]
  · by_cases hc : c = .inside
    · subst hc
      rw [judge_out_inside]
      split <;> simp_all
    · simp [judge_out_outside hc, hc]

/-- Settles O44: the turns by induction over the samples, and the conversion of a judged point through
`windowSample_of_turn` and `windowSample_of_quiet`. -/
theorem windowsTurnAtTheirPersistence : Obligations.WindowsTurnAtTheirPersistence := by
  refine ⟨fun p e n c hp _ => ⟨fun hc => ⟨iterate_judge_outside hc hp e n, judge_raises_iff hc hp e n⟩,
    iterate_judge_inside hp e n, fun r _ => judge_in_inside p r 0 e,
    fun r hc => judge_out_outside hc p 0 r e⟩,
    fun nominal tolerance y h => ⟨?_, ?_⟩, fun uv y next i j s hlive hscan hjudges hreach hij hj hoff
      hin hrun hy hc hrec => ?_, fun uv next i j v w after c s hlive hscan hjudges hreach hij hj hoff hv
      hw hc hquiet hafter => ?_⟩
  · rw [classify_low_iff, windowLow_cast h]
  · rw [classify_high_iff, windowLow_cast h, windowHigh_cast]
  · have hjudge : (s.wck.points.get i).judge (s.cfg.points.get i).persistence
        (classify (s.nominal i) (s.tolerance i) y) =
        (⟨true, 0, 0, min ((s.wck.points.get i).episodes + 1) 65535⟩, true) := by
      generalize s.wck.points.get i = w at hin hrun ⊢
      obtain ⟨out, x, r, e⟩ := w
      obtain rfl : out = false := hin
      rw [judge_in_outside hc, if_pos hrun]
    have hsampled := (takeSample_of_unwatched (seen := s.seenAt uv i) (i := i) (y := y)
      (s := s.converted uv i) (by rw [show (s.converted uv i).wck = s.wck from rfl, hreach]; nofun)).trans
      (windowSample_of_turn (s := s.converted uv i) hjudges hjudge)
    rw [show (s.converted uv i).takeSample (s.seenAt uv i) i y = s.sampled uv i by
      rw [hy, State.sampled]] at hsampled
    have hkind : (if classify ((s.converted uv i).nominal i) ((s.converted uv i).tolerance i) y = .low
        then FaultKind.excursionLow else .excursionHigh) =
        (if y < windowLow (s.nominal i) (s.tolerance i) then .excursionLow else .excursionHigh) :=
      if_congr classify_low_iff rfl rfl
    rw [hkind] at hsampled
    generalize hk : (if y < windowLow (s.nominal i) (s.tolerance i) then FaultKind.excursionLow
      else .excursionHigh) = kind at hsampled ⊢
    have hforced : kind.forced = none ∧ kind ≠ .notReached := by
      rw [← hk]
      split <;> exact ⟨rfl, nofun⟩
    obtain ⟨t, r, ht, hrecorded, f, n, d, hlog⟩ := raiseSeeing_recorded (asc := s.seenAt uv i)
      (points := [i.val]) (value := y) (s := { s.converted uv i with wck := { s.wck with
        points := s.wck.points.set i ⟨true, 0, 0, min ((s.wck.points.get i).episodes + 1) 65535⟩ } })
      ⟨hrec.active, hrec.policy, hrec.coalesce, hrec.room, hrec.allowed⟩ hforced.1 hforced.2
    rw [exec_conversion_next hlive hscan hij hj hoff (by rw [hsampled]; exact ht ▸ hlog ▸ rfl),
      hsampled.trans ht]
    refine ⟨_, r, rfl, { hrecorded with }, ?_, fun m hm => ?_, ?_⟩
    all_goals rw [hlog]
    · exact Oct.get_set_self ..
    · exact Oct.get_set_of_ne _ _ hm
    · exact ⟨rfl, rfl, rfl, rfl, rfl, rfl, rfl⟩
  · have hsampled := (takeSample_of_unwatched (seen := s.seenAt uv i) (i := i) (y := v.y)
      (s := s.converted uv i) (by rw [show (s.converted uv i).wck = s.wck from rfl, hreach]; nofun)).trans
      (windowSample_of_quiet (s := s.converted uv i) hjudges
        (judge_quiet (w := s.wck.points.get i) (hw ▸ hc ▸ hquiet) (hw ▸ hc ▸ hafter)))
    rw [show (s.converted uv i).takeSample (s.seenAt uv i) i v.y = s.sampled uv i by
      rw [hv, State.sampled]] at hsampled
    rw [exec_conversion_next hlive hscan hij hj hoff (by rw [hsampled]; rfl), hsampled, hv]
    rfl

/-! ### Overdraw (R67, R68) -/

/-- The scanner at the end of a scan, with the power computed (R73, R84). -/
def State.scanned (pts : Oct PointValue) (next : Uptime) (power : Nat) (s : State) : State :=
  { s with
    asc := { s.asc with points := pts, scanner := .between next, power := power }
    free := s.free + 1 }

/-- The Budget Unit at an overdraw episode (R68). -/
def State.overdrawn (s : State) : State :=
  { s with bgu := { s.bgu with
    overdrawSamples := 0, overdrawEpisodes := min (s.bgu.overdrawEpisodes + 1) 65535 } }

/-- Settles O45: the sample raises nothing, and the scan's end is judged by `judgeOverdraw`'s
equations. -/
theorem scanCompletionJudgesThePower : Obligations.ScanCompletionJudgesThePower := by
  intro uv next i pts power s hlive hscan hjudges hreach hoff hpts hpower
  have hsampled : s.sampled uv i =
      { s with asc := { s.asc with points := pts }, free := s.free + 1 } := by
    refine ((takeSample_of_unwatched (s := s.converted uv i)
      (by rw [show (s.converted uv i).wck = s.wck from rfl, hreach]; nofun)).trans
      (windowSample_of_unjudged (s := s.converted uv i) hjudges)).trans ?_
    rw [State.converted, hpts]
  have hexec : exec (.conversionCompletion uv) s =
      .next ((s.scanned pts next power).judgeOverdraw (s.seenAt uv i)) := by
    rw [exec_conversion_last hlive hscan hoff (by rw [hsampled]), hsampled, hpower]
    rfl
  rw [hexec]
  refine ⟨fun hwithin => ?_, fun h0 hover hcount => ?_, fun h0 hover hcount hactive => ?_⟩
  · rw [judgeOverdraw_within (s := s.scanned pts next power) hwithin]
    rfl
  · rw [judgeOverdraw_counts (s := s.scanned pts next power) h0 hover hcount]
    rfl
  · have hraise : (s.scanned pts next power).judgeOverdraw (s.seenAt uv i) =
        State.raiseSeeing (s.seenAt uv i) .overdraw [0, 1] power
          (s.scanned pts next power).overdrawn :=
      judgeOverdraw_raises (s := s.scanned pts next power) h0 hover hcount
    rw [hraise, raiseSeeing_stops (s := (s.scanned pts next power).overdrawn) hactive rfl]
    have hraised := formRecord_raised (s.seenAt uv i) .overdraw [0, 1] power
      (s.scanned pts next power).overdrawn
    generalize State.formRecord (s.seenAt uv i) .overdraw [0, 1] power _ = r at hraised ⊢
    have hclosed := raiseClosing_closed (mode := .ending) (r := r)
      (s := (s.scanned pts next power).overdrawn) (hraised.kind ▸ rfl)
    obtain ⟨hasc, -, -, hepisodes, hsamples, -⟩ := hclosed.runEnd_kept .fail .overdraw
    have hwrote := runEnd_wrote hclosed .fail .overdraw
    have hended := hclosed.runEnd .fail .overdraw
    exact ⟨_, r, rfl, { hended with }, { hraised with }, { hwrote with },
      hsamples.elim id id, hepisodes, hasc⟩

end Sys2Proof.Machine
end

section
/-! SUPPORT. The arrival of a group on a lane as one change of that lane where nothing is raised, and
with its records where something is. After it the statements on the lanes. -/

namespace Sys2Proof.Machine

/-! ### The classes of the patterns (R105, R106) -/

theorem mem_codeTable_iff (p : BitVec 10) :
    p ∈ codeTable ↔ (∃ b, p = dataGroup b) ∨ p = markerGroup ∨ ∃ n, p = fillGroup n := by
  constructor
  · intro h
    obtain ⟨n, hn, rfl⟩ := List.mem_iff_getElem.mp h
    have hlt : n < 260 := codeTable_spec.1 ▸ hn
    have hget (m : Nat) (hm : m = n) : codeTable[n] = codeTable.getD m 0 := by
      subst hm
      exact (List.getD_eq_getElem _ _ hn).symm
    rcases Nat.lt_trichotomy n 256 with h | h | h
    · refine .inl ⟨BitVec.ofNat 8 n, hget _ ?_⟩
      rw [BitVec.toNat_ofNat]
      omega
    · exact .inr (.inl (hget _ h.symm))
    · exact .inr (.inr ⟨⟨n - 257, by omega⟩, hget _ (by dsimp only; omega)⟩)
  · rintro (⟨b, rfl⟩ | rfl | ⟨n, rfl⟩)
    · exact codeTable_getD_mem (by have := b.isLt; omega)
    · exact codeTable_getD_mem (by decide)
    · exact codeTable_getD_mem (by omega)

theorem markerGroup_mem : markerGroup ∈ codeTable := (mem_codeTable_iff _).mpr (.inr (.inl rfl))

/-- A pattern outside the table is UNKNOWN (R106). -/
theorem groupOf_of_not_mem {p : BitVec 10} (h : p ∉ codeTable) : groupOf p = .unknown := by
  have hm : p ≠ markerGroup := fun e => h (e ▸ markerGroup_mem)
  unfold groupOf
  split
  · rfl
  · rw [if_neg hm, if_neg h]

/-- A pattern of the table is the MARKER or DATA, with its weight (R106). -/
theorem groupOf_of_mem {p : BitVec 10} (h : p ∈ codeTable) : ∃ w, weightOf p = some w ∧
    groupOf p = if p = markerGroup then .marker w else .data w := by
  obtain ⟨w, hw⟩ := codeTable_spec.2.2 p h
  exact ⟨w, hw, by simp only [groupOf, hw, if_pos h]⟩

theorem groupOf_unknown_iff (p : BitVec 10) : groupOf p = .unknown ↔ p ∉ codeTable := by
  refine ⟨fun h hmem => ?_, groupOf_of_not_mem⟩
  obtain ⟨w, -, e⟩ := groupOf_of_mem hmem
  rw [e] at h
  split at h <;> cases h

theorem groupOf_marker_iff (p : BitVec 10) (w : Weight) :
    groupOf p = .marker w ↔ p = markerGroup ∧ weightOf p = some w := by
  by_cases hmem : p ∈ codeTable
  · obtain ⟨v, hv, e⟩ := groupOf_of_mem hmem
    rw [e, hv]
    split <;> simp_all
  · have hm : p ≠ markerGroup := fun e => hmem (e ▸ markerGroup_mem)
    simp [groupOf_of_not_mem hmem, hm]

theorem groupOf_data_iff (p : BitVec 10) (w : Weight) :
    groupOf p = .data w ↔ p ∈ codeTable ∧ p ≠ markerGroup ∧ weightOf p = some w := by
  by_cases hmem : p ∈ codeTable
  · obtain ⟨v, hv, e⟩ := groupOf_of_mem hmem
    rw [e, hv]
    split <;> simp_all
  · simp [groupOf_of_not_mem hmem, hmem]

theorem groupMarker_groupOf (p : BitVec 10) :
    groupMarker (groupOf p) = decide (p = markerGroup) := by
  by_cases hmem : p ∈ codeTable
  · obtain ⟨v, -, e⟩ := groupOf_of_mem hmem
    rw [e]
    split <;> simp_all [groupMarker]
  · have hm : p ≠ markerGroup := fun e => hmem (e ▸ markerGroup_mem)
    simp [groupOf_of_not_mem hmem, hm, groupMarker]

/-! ### The counters (R114 to R116) -/

/-- A counter after a counted error of its class, the threshold's flag and auto-clear with it. -/
def ErrorCounter.counted (c : ErrorClass) (e : ErrorCounter) : ErrorCounter :=
  if (e.bump c.roll).2 ∧ (e.bump c.roll).1.count = c.threshold then
    ⟨if c.autoClear then 0 else c.threshold, true⟩
  else (e.bump c.roll).1

theorem bump_below {roll : Bool} {e : ErrorCounter} (h : e.count < 255) :
    e.bump roll = (⟨e.count + 1, e.terminal⟩, true) := if_neg (by omega)

theorem counted_below {c : ErrorClass} {e : ErrorCounter} (h : e.count < 255)
    (hne : e.count + 1 ≠ c.threshold) : e.counted c = ⟨e.count + 1, e.terminal⟩ := by
  rw [ErrorCounter.counted, bump_below h, if_neg fun hr => hne hr.2]

theorem counted_counts (c : ErrorClass) (e : ErrorCounter) :
    ErrorCounter.counts c e (e.counted c) := by
  obtain ⟨n, flag⟩ := e
  refine ⟨fun h hne => counted_below h hne, fun h heq => ?_, fun h hroll => ?_,
    fun h hroll hpos => ?_⟩
  · rw [ErrorCounter.counted, bump_below h]
    exact if_pos ⟨rfl, heq⟩
  · obtain rfl : n = 255 := h
    simp [ErrorCounter.counted, ErrorCounter.bump, hroll]
  · obtain rfl : n = 255 := h
    simp [ErrorCounter.counted, ErrorCounter.bump, hroll, Nat.ne_of_lt hpos]

@[simp] theorem counter_setCounter_self (k : ErrorKind) (e : ErrorCounter) (l : Lane) :
    (l.setCounter k e).counter k = e := by cases k <;> rfl

theorem counter_setCounter_of_ne {k m : ErrorKind} (h : m ≠ k) (e : ErrorCounter) (l : Lane) :
    (l.setCounter k e).counter m = l.counter m := by
  cases k <;> cases m
  case sign.sign => exact absurd rfl h
  case code.code => exact absurd rfl h
  case mark.mark => exact absurd rfl h
  all_goals rfl

theorem setCounter_setCounter (k : ErrorKind) (e f : ErrorCounter) (l : Lane) :
    (l.setCounter k e).setCounter k f = l.setCounter k f := by cases k <;> rfl

/-- The receiver changes neither the lock nor the counters of a lane (R106, R110 to R112). -/
theorem receive_spec (g : CodeGroup) (l : Lane) : ∃ sign run unknown d position marks,
    l.receive g = { l with
      sign := sign, searchRun := run, unknownRun := unknown, distance := d
      framePosition := position, markErrorRun := marks } := by
  unfold Lane.receive
  dsimp only
  split
  · exact ⟨l.sign, l.searchRun, l.unknownRun, l.distance, l.framePosition, l.markErrorRun, rfl⟩
  all_goals exact ⟨_, _, _, _, _, _, rfl⟩

@[simp] theorem counter_receive (k : ErrorKind) (g : CodeGroup) (l : Lane) :
    (l.receive g).counter k = l.counter k := by
  obtain ⟨sign, run, unknown, d, position, marks, e⟩ := receive_spec g l
  rw [e]
  cases k <;> rfl

@[simp] theorem counter_enter (k : ErrorKind) (dest : Lock) (l : Lane) :
    (l.enter dest).counter k = l.counter k := by
  cases k <;> cases dest <;> rfl

theorem counter_lockLosses (k : ErrorKind) (n : Nat) (l : Lane) :
    ({ l with lockLosses := n } : Lane).counter k = l.counter k := by cases k <;> rfl

/-! ### A counted error (R115, R116) -/

/-- An error that reaches its threshold. -/
def State.reaches (i : Fin 4) (k : ErrorKind) (s : State) : Prop :=
  (((s.lanes.get i).counter k).bump (s.cfg.errorClass k).roll).2 = true ∧
    (((s.lanes.get i).counter k).bump (s.cfg.errorClass k).roll).1.count =
      (s.cfg.errorClass k).threshold

/-- A lane with an error of a class counted. -/
def Lane.count (c : LoadedConfig) (k : ErrorKind) (l : Lane) : Lane :=
  l.setCounter k ((l.counter k).counted (c.errorClass k))

theorem setLane_setLane (i : Fin 4) (l m : Lane) (s : State) :
    (s.setLane i l).setLane i m = s.setLane i m := by
  unfold State.setLane
  rw [Quad.set_set]

/-- The auto-clear of a counter that has reached its threshold (R116). -/
def State.clearAt (i : Fin 4) (k : ErrorKind) (auto : Bool) (s : State) : State :=
  if auto then
    s.setLane i ((s.lanes.get i).setCounter k { (s.lanes.get i).counter k with count := 0 })
  else s

/-- The lane with a counter's terminal flag set at its threshold (R116). -/
def State.flagged (i : Fin 4) (k : ErrorKind) (s : State) : State :=
  s.setLane i ((s.lanes.get i).setCounter k ⟨(s.cfg.errorClass k).threshold, true⟩)

theorem countError_of_reaches {i : Fin 4} {k : ErrorKind} {s : State} (h : s.reaches i k) :
    s.countError i k = State.clearAt i k (s.cfg.errorClass k).autoClear
      (if s.laneRaises i then
        (s.flagged i k).raise .laneErrors [8 + i.val] (s.cfg.errorClass k).threshold
      else s.flagged i k) := by
  have hcount := h.2
  unfold State.reaches at h
  unfold State.countError
  dsimp only
  rw [if_pos h, hcount]
  rfl

theorem countError_of_not_reaches {i : Fin 4} {k : ErrorKind} {s : State} (h : ¬s.reaches i k) :
    s.countError i k = s.setLane i ((s.lanes.get i).count s.cfg k) := by
  unfold State.reaches at h
  unfold State.countError
  dsimp only
  rw [if_neg h, Lane.count, ErrorCounter.counted, if_neg h]

theorem setLane_get_self (i : Fin 4) (s : State) : s.setLane i (s.lanes.get i) = s := by
  rw [State.setLane, Quad.set_get_self]

/-- A flagged counter is cleared or stands on the threshold. -/
theorem clearAt_flagged {i : Fin 4} {k : ErrorKind} {auto : Bool} {n : Nat} {l : Lane} {s : State}
    (h : s.lanes.get i = l.setCounter k ⟨n, true⟩) :
    s.clearAt i k auto = s.setLane i (l.setCounter k ⟨if auto then 0 else n, true⟩) := by
  unfold State.clearAt
  cases auto
  · rw [if_neg Bool.false_ne_true, if_neg Bool.false_ne_true, ← h, setLane_get_self]
  · rw [if_pos rfl, if_pos rfl, h, counter_setCounter_self, setCounter_setCounter]

theorem count_of_reaches {i : Fin 4} {k : ErrorKind} {s : State} (h : s.reaches i k) :
    (s.lanes.get i).count s.cfg k = (s.lanes.get i).setCounter k
      ⟨if (s.cfg.errorClass k).autoClear then 0 else (s.cfg.errorClass k).threshold, true⟩ := by
  unfold State.reaches at h
  rw [Lane.count, ErrorCounter.counted, if_pos h]

/-- Where nothing is raised a counted error changes its counter only. -/
theorem countError_of_quiet {i : Fin 4} {k : ErrorKind} {s : State}
    (h : s.laneRaises i = false ∨ ¬s.reaches i k) :
    s.countError i k = s.setLane i ((s.lanes.get i).count s.cfg k) := by
  by_cases hr : s.reaches i k
  · have hsilent := h.resolve_right fun hn => hn hr
    rw [countError_of_reaches hr, hsilent, if_neg Bool.false_ne_true, count_of_reaches hr,
      clearAt_flagged (l := s.lanes.get i) (Quad.get_set_self ..), State.flagged, setLane_setLane]
  · exact countError_of_not_reaches hr

/-- An error that reaches its threshold on a lane whose faults are raised becomes a record, and the
counter is as without it (R116). -/
theorem countError_recorded {i : Fin 4} {k : ErrorKind} {s : State} (hr : s.reaches i k)
    (hraises : s.laneRaises i = true) (hrec : s.RecordsAtOnce) :
    ∃ t r f n d, s.countError i k = t ∧
      Recorded .laneErrors [8 + i.val] (s.cfg.errorClass k).threshold s t r ∧
      t = { s.setLane i ((s.lanes.get i).count s.cfg k) with
        fcu := f, bus := { s.bus with notices := n, noticeDrops := d } } := by
  obtain ⟨u, r, hu, hrecorded, f, n, d, hlog⟩ := raiseSeeing_recorded (asc := s.asc)
    (kind := .laneErrors) (points := [8 + i.val]) (value := (s.cfg.errorClass k).threshold)
    (s := s.flagged i k) ⟨hrec.active, hrec.policy, hrec.coalesce, hrec.room, hrec.allowed⟩ rfl nofun
  rw [countError_of_reaches hr, hraises, if_pos rfl,
    show State.raise .laneErrors [8 + i.val] (s.cfg.errorClass k).threshold (s.flagged i k) = u from hu,
    clearAt_flagged (l := s.lanes.get i) (by rw [hlog]; exact Quad.get_set_self ..), count_of_reaches hr]
  refine ⟨_, r, f, n, d, rfl, ?_, ?_⟩
  · exact { hrecorded with }
  · rw [hlog, State.flagged]
    unfold State.setLane
    rw [Quad.set_set]

/-- An error that is counted on a lane as the group has left it. -/
theorem countError_setLane_recorded {i : Fin 4} {k : ErrorKind} {l : Lane} {s : State}
    (hr : (s.setLane i l).reaches i k) (hraises : s.laneRaises i = true) (hrec : s.RecordsAtOnce) :
    ∃ t r f n d, (s.setLane i l).countError i k = t ∧
      Recorded .laneErrors [8 + i.val] (s.cfg.errorClass k).threshold s t r ∧
      t = { s.setLane i (l.count s.cfg k) with
        fcu := f, bus := { s.bus with notices := n, noticeDrops := d } } := by
  obtain ⟨t, r, f, n, d, ht, hrecorded, hlane⟩ := countError_recorded hr hraises
    ⟨hrec.active, hrec.policy, hrec.coalesce, hrec.room, hrec.allowed⟩
  rw [setLane_setLane, show (s.setLane i l).lanes.get i = l from Quad.get_set_self ..] at hlane
  exact ⟨t, r, f, n, d, ht, { hrecorded with }, hlane⟩

/-! ### An arrival where nothing is raised -/

/-- A lane with an error counted where there is one. -/
def Lane.countIf (b : Bool) (c : LoadedConfig) (k : ErrorKind) (l : Lane) : Lane :=
  if b then l.count c k else l

/-- A lane with a group received and all its errors counted (R106, R110 to R117). -/
def Lane.take (c : LoadedConfig) (g : CodeGroup) (l : Lane) : Lane :=
  (((l.receive g).countIf (l.errs .sign g) c .sign).countIf (l.errs .code g) c .code).countIf
    (l.errs .mark g) c .mark

@[simp] theorem counter_count_self (c : LoadedConfig) (k : ErrorKind) (l : Lane) :
    (l.count c k).counter k = (l.counter k).counted (c.errorClass k) :=
  counter_setCounter_self ..

theorem counter_count_of_ne {k m : ErrorKind} (h : m ≠ k) (c : LoadedConfig) (l : Lane) :
    (l.count c k).counter m = l.counter m := counter_setCounter_of_ne h ..

theorem counter_countIf_of_ne {k m : ErrorKind} (h : m ≠ k) (b : Bool) (c : LoadedConfig)
    (l : Lane) : (l.countIf b c k).counter m = l.counter m := by
  unfold Lane.countIf
  split
  · exact counter_count_of_ne h c l
  · rfl

theorem counter_countIf_self (b : Bool) (c : LoadedConfig) (k : ErrorKind) (l : Lane) :
    (l.countIf b c k).counter k = if b then (l.counter k).counted (c.errorClass k)
      else l.counter k := by
  unfold Lane.countIf
  split
  · exact counter_count_self c k l
  · rfl

/-- Each counter follows the errors of its own class (R114). -/
theorem counter_take (c : LoadedConfig) (g : CodeGroup) (k : ErrorKind) (l : Lane) :
    (l.take c g).counter k = if l.errs k g then (l.counter k).counted (c.errorClass k)
      else l.counter k := by
  unfold Lane.take
  cases k
  · rw [counter_countIf_of_ne (by decide), counter_countIf_of_ne (by decide), counter_countIf_self,
      counter_receive]
  · rw [counter_countIf_of_ne (by decide), counter_countIf_self,
      counter_countIf_of_ne (by decide), counter_receive]
  · rw [counter_countIf_self, counter_countIf_of_ne (by decide), counter_countIf_of_ne (by decide),
      counter_receive]

theorem setCounter_spec (k : ErrorKind) (e : ErrorCounter) (l : Lane) : ∃ x y z,
    l.setCounter k e = { l with signErrors := x, codeErrors := y, markErrors := z } := by
  cases k <;> exact ⟨_, _, _, rfl⟩

theorem countIf_spec (b : Bool) (c : LoadedConfig) (k : ErrorKind) (l : Lane) : ∃ x y z,
    l.countIf b c k = { l with signErrors := x, codeErrors := y, markErrors := z } := by
  unfold Lane.countIf
  split
  · exact setCounter_spec ..
  · exact ⟨l.signErrors, l.codeErrors, l.markErrors, rfl⟩

/-- The counting changes a lane's counters only, each as `counter_take` says. -/
theorem take_eq (c : LoadedConfig) (g : CodeGroup) (l : Lane) : l.take c g =
    { l.receive g with
      signErrors := if l.errs .sign g then l.signErrors.counted c.signClass else l.signErrors
      codeErrors := if l.errs .code g then l.codeErrors.counted c.codeClass else l.codeErrors
      markErrors := if l.errs .mark g then l.markErrors.counted c.markClass else l.markErrors } := by
  have hs := counter_take c g .sign l
  have hc := counter_take c g .code l
  have hm := counter_take c g .mark l
  simp only [Lane.counter, LoadedConfig.errorClass] at hs hc hm
  rw [← hs, ← hc, ← hm]
  obtain ⟨x, y, z, e1⟩ := countIf_spec (l.errs .sign g) c .sign (l.receive g)
  obtain ⟨x', y', z', e2⟩ := countIf_spec (l.errs .code g) c .code
    ((l.receive g).countIf (l.errs .sign g) c .sign)
  obtain ⟨x'', y'', z'', e3⟩ := countIf_spec (l.errs .mark g) c .mark
    (((l.receive g).countIf (l.errs .sign g) c .sign).countIf (l.errs .code g) c .code)
  unfold Lane.take
  rw [e3, e2, e1]

/-- What becomes of the lock after the counting (R109 to R113). -/
def State.followLock (i : Fin 4) (before : Lock) (dest : Option Lock) (s : State) : State :=
  dest.elim s fun d => s.changeLock i before d

/-- An arrival on a lane that is not OFF: its errors are counted and its lock follows. -/
theorem groupArrives_eq {i : Fin 4} {g : CodeGroup} {l : Lane} {s : State} (hl : l = s.lanes.get i)
    (hlock : l.lock ≠ .off) : groupArrives i g s =
      ((((s.setLane i (l.receive g)).countIf (l.errs .sign g) i .sign).countIf
        (l.errs .code g) i .code).countIf (l.errs .mark g) i .mark).followLock i l.lock
        (lockChange g l (l.receive g)) := by
  subst hl
  unfold groupArrives State.followLock
  dsimp only
  rw [if_neg hlock]
  cases lockChange g (s.lanes.get i) ((s.lanes.get i).receive g) <;> rfl

/-- An error that is not raised changes the lane only, where there is one. -/
theorem countIf_of_quiet {b : Bool} {i : Fin 4} {k : ErrorKind} {l : Lane} {s : State}
    (h : b = true → s.laneRaises i = false ∨ ¬(s.setLane i l).reaches i k) :
    (s.setLane i l).countIf b i k = s.setLane i (l.countIf b s.cfg k) := by
  cases b
  · rfl
  · refine (countError_of_quiet (h rfl)).trans ?_
    rw [setLane_setLane, show (s.setLane i l).lanes.get i = l from Quad.get_set_self ..]
    rfl

/-- Whether an error reaches its threshold is a matter of its own counter. -/
theorem reaches_setLane {i : Fin 4} {k : ErrorKind} {l : Lane} {s : State}
    (h : l.counter k = (s.lanes.get i).counter k) :
    (s.setLane i l).reaches i k ↔ s.reaches i k := by
  unfold State.reaches
  rw [show (s.setLane i l).lanes.get i = l from Quad.get_set_self .., h]
  rfl

/-- An arrival of which nothing is raised while its errors are counted. -/
theorem groupArrives_of_quiet {i : Fin 4} {g : CodeGroup} {l : Lane} {s : State}
    (hl : l = s.lanes.get i) (hlock : l.lock ≠ .off)
    (h : s.laneRaises i = false ∨ ∀ k, l.errs k g = true → ¬s.reaches i k) :
    groupArrives i g s = (s.setLane i (l.take s.cfg g)).followLock i l.lock
      (lockChange g l (l.receive g)) := by
  have hquiet (k : ErrorKind) (m : Lane) (hm : m.counter k = l.counter k) (hk : l.errs k g = true) :
      s.laneRaises i = false ∨ ¬(s.setLane i m).reaches i k :=
    h.imp_right fun hr => by
      rw [reaches_setLane (hm.trans (by rw [hl]))]
      exact hr k hk
  rw [groupArrives_eq hl hlock, countIf_of_quiet (hquiet _ _ (counter_receive ..)),
    countIf_of_quiet (hquiet _ _ ((counter_countIf_of_ne (by decide) ..).trans (counter_receive ..))),
    countIf_of_quiet (hquiet _ _ ((counter_countIf_of_ne (by decide) ..).trans
      ((counter_countIf_of_ne (by decide) ..).trans (counter_receive ..))))]
  rfl

/-! ### The lock after an arrival (R109 to R113) -/

theorem take_lock (c : LoadedConfig) (g : CodeGroup) (l : Lane) : (l.take c g).lock = l.lock := by
  rw [take_eq]
  exact receive_lock g l

theorem take_lockLosses (c : LoadedConfig) (g : CodeGroup) (l : Lane) :
    (l.take c g).lockLosses = l.lockLosses := by
  obtain ⟨sign, run, unknown, d, position, marks, e⟩ := receive_spec g l
  rw [take_eq, e]

@[simp] theorem enter_lockLosses (dest : Lock) (l : Lane) :
    (l.enter dest).lockLosses = l.lockLosses := by cases dest <;> rfl

@[simp] theorem enter_lock (dest : Lock) (l : Lane) : (l.enter dest).lock = dest := by
  cases dest <;> rfl

theorem followLock_none (i : Fin 4) (before : Lock) (s : State) :
    s.followLock i before none = s := rfl

/-- A change of the lock that is no loss changes the lane only. -/
theorem followLock_enters {i : Fin 4} {before dest : Lock} {l : Lane} {s : State}
    (hlock : l.lock = before) (hb : before ≠ .frameLock) :
    (s.setLane i l).followLock i before (some dest) = s.setLane i (l.enter dest) := by
  have hl : (s.setLane i l).lanes.get i = l := Quad.get_set_self ..
  show State.changeLock i before dest (s.setLane i l) = _
  unfold State.changeLock
  dsimp only
  rw [hl, if_pos hlock, if_neg hb, setLane_setLane]

/-- A lane that has lost its frame lock (R113). -/
def Lane.lost (dest : Lock) (l : Lane) : Lane :=
  { l.enter dest with lockLosses := min (l.lockLosses + 1) 65535 }

/-- A lock loss is counted, and raised where the lane's faults are (R113). -/
theorem followLock_loses {i : Fin 4} {dest : Lock} {l : Lane} {s : State}
    (hlock : l.lock = .frameLock) :
    (s.setLane i l).followLock i .frameLock (some dest) =
      if s.laneRaises i then
        (s.setLane i (l.lost dest)).raise .laneLost [8 + i.val] ((min (l.lockLosses + 1) 65535 : Nat) : Int)
      else s.setLane i (l.lost dest) := by
  have hl : (s.setLane i l).lanes.get i = l := Quad.get_set_self ..
  have henter : ((s.setLane i l).setLane i (l.enter dest)).lanes.get i = l.enter dest :=
    Quad.get_set_self ..
  show State.changeLock i .frameLock dest (s.setLane i l) = _
  unfold State.changeLock State.loseLock
  dsimp only
  rw [hl, if_pos hlock, if_pos rfl, henter, setLane_setLane, setLane_setLane, enter_lockLosses]
  rfl

/-- The record of a lock loss, and the lane with it. -/
theorem followLock_recorded {i : Fin 4} {dest : Lock} {l : Lane} {s : State}
    (hlock : l.lock = .frameLock) (hraises : s.laneRaises i = true) (hrec : s.RecordsAtOnce) :
    ∃ t r f n d, (s.setLane i l).followLock i .frameLock (some dest) = t ∧
      Recorded .laneLost [8 + i.val] ((min (l.lockLosses + 1) 65535 : Nat) : Int) s t r ∧
      t = { s.setLane i (l.lost dest) with
        fcu := f, bus := { s.bus with notices := n, noticeDrops := d } } := by
  obtain ⟨u, r, hu, hrecorded, f, n, d, hlog⟩ := raiseSeeing_recorded (asc := s.asc)
    (kind := .laneLost) (points := [8 + i.val])
    (value := ((min (l.lockLosses + 1) 65535 : Nat) : Int)) (s := s.setLane i (l.lost dest))
    ⟨hrec.active, hrec.policy, hrec.coalesce, hrec.room, hrec.allowed⟩ rfl nofun
  rw [followLock_loses hlock, hraises, if_pos rfl]
  exact ⟨u, r, f, n, d, hu, { hrecorded with }, hlog⟩

/-- What becomes of the lock changes no counter, and only the lane where no loss is raised. -/
theorem followLock_of_quiet {i : Fin 4} {before : Lock} {dest : Option Lock} {l : Lane} {s : State}
    (hlock : l.lock = before) (h : s.laneRaises i = false) :
    ∃ m, (s.setLane i l).followLock i before dest = s.setLane i m ∧
      ∀ k, m.counter k = l.counter k := by
  cases dest with
  | none => exact ⟨l, rfl, fun _ => rfl⟩
  | some d =>
    by_cases hb : before = .frameLock
    · subst hb
      rw [followLock_loses hlock, h]
      exact ⟨l.lost d, rfl, fun k => (counter_lockLosses k _ _).trans (counter_enter k d l)⟩
    · exact ⟨l.enter d, followLock_enters hlock hb, fun k => counter_enter k d l⟩

/-! ### The terms of the statements on lanes -/

theorem laneSilent_iff (i : Fin 4) (s : State) : s.laneSilent i ↔ s.laneRaises i = false := by
  unfold State.laneSilent State.laneRaises
  cases s.checked (8 + i.val) <;> cases s.rcu.blanking <;> simp

theorem laneRaises_of_not_silent {i : Fin 4} {s : State} (h : ¬s.laneSilent i) :
    s.laneRaises i = true :=
  Bool.not_eq_false _ ▸ fun e => h ((laneSilent_iff i s).mpr e)

/-- Below its threshold an error does not reach it. -/
theorem not_reaches_of_below {i : Fin 4} {g : CodeGroup} {s : State} (h : s.belowThresholds i g)
    {k : ErrorKind} (hk : (s.lanes.get i).errs k g = true) : ¬s.reaches i k := by
  obtain ⟨hlt, hne⟩ := h k hk
  unfold State.reaches
  rw [bump_below hlt]
  exact fun hr => hne hr.2

theorem exec_codeGroupArrival {i : Fin 4} {p : BitVec 10} {s : State} (h : s.inReset = false) :
    exec (.codeGroupArrival i p) s = .next (groupArrives i (groupOf p) s) := live_next h

/-- An arrival of which the counting raises nothing, as the command. -/
theorem exec_arrival_of_quiet {i : Fin 4} {p : BitVec 10} {g : CodeGroup} {l : Lane} {s : State}
    (hlive : s.inReset = false) (hl : l = s.lanes.get i) (hg : groupOf p = g)
    (hlock : l.lock ≠ .off) (h : s.laneSilent i ∨ s.belowThresholds i g) :
    exec (.codeGroupArrival i p) s = .next ((s.setLane i (l.take s.cfg g)).followLock i l.lock
      (lockChange g l (l.receive g))) := by
  rw [exec_codeGroupArrival hlive, hg]
  refine congrArg _ (groupArrives_of_quiet hl hlock (h.imp (laneSilent_iff i s).mp fun hb k hk => ?_))
  exact not_reaches_of_below hb (hl ▸ hk)

/-- An arrival without an error. -/
theorem exec_arrival_of_errorless {i : Fin 4} {p : BitVec 10} {g : CodeGroup} {l : Lane} {s : State}
    (hlive : s.inReset = false) (hl : l = s.lanes.get i) (hg : groupOf p = g)
    (hlock : l.lock ≠ .off) (h : ∀ k, l.errs k g = false) :
    exec (.codeGroupArrival i p) s = .next ((s.setLane i (l.receive g)).followLock i l.lock
      (lockChange g l (l.receive g))) := by
  rw [exec_arrival_of_quiet hlive hl hg hlock (.inr fun k hk => by rw [← hl, h k] at hk; cases hk)]
  simp only [Lane.take, h, Lane.countIf, Bool.false_eq_true, if_false]

theorem errs_of_search {l : Lane} (h : l.lock = .search) (k : ErrorKind) (g : CodeGroup) :
    l.errs k g = false := by
  cases k <;> simp [Lane.errs, h]

theorem receive_of_search {l : Lane} (h : l.lock = .search) (g : CodeGroup) : l.receive g =
    { l with sign := signAfter (groupWeight g) l.sign
             searchRun := if groupUnknown g then 0 else l.searchRun + 1 } := by
  simp only [Lane.receive, h]

theorem receive_of_codeLock {l : Lane} (h : l.lock = .codeLock) (g : CodeGroup) : l.receive g =
    { l with sign := signAfter (groupWeight g) l.sign
             unknownRun := if groupUnknown g then l.unknownRun + 1 else 0
             distance := nextDistance (groupMarker g) l.distance } := by
  simp only [Lane.receive, h]

theorem receive_of_frameLock {l : Lane} (h : l.lock = .frameLock) (g : CodeGroup) : l.receive g =
    { l with sign := signAfter (groupWeight g) l.sign
             unknownRun := if groupUnknown g then l.unknownRun + 1 else 0
             distance := nextDistance (groupMarker g) l.distance
             framePosition := (l.framePosition + 1) % 256
             markErrorRun := nextMarkRun ((l.framePosition + 1) % 256) (groupMarker g)
               l.markErrorRun } := by
  simp only [Lane.receive, h]

theorem groupUnknown_iff (g : CodeGroup) : groupUnknown g = true ↔ g = .unknown := by
  cases g <;> simp [groupUnknown]

/-! ### Arrivals by the lock (R110 to R113) -/

/-- A group in SEARCH that keeps the lane there. -/
theorem exec_arrival_search {i : Fin 4} {p : BitVec 10} {l : Lane} {s : State}
    (hlive : s.inReset = false) (hl : l = s.lanes.get i) (hlock : l.lock = .search)
    (hrun : (l.receive (groupOf p)).searchRun < 16) :
    exec (.codeGroupArrival i p) s = .next (s.setLane i (l.receive (groupOf p))) := by
  have hstay : lockChange (groupOf p) l (l.receive (groupOf p)) = none := by
    simp only [lockChange, hlock]
    exact if_neg (Nat.not_le.mpr hrun)
  rw [exec_arrival_of_errorless hlive hl rfl (by rw [hlock]; decide)
    fun k => errs_of_search hlock k _, hstay, followLock_none]

/-- The 16th good group in SEARCH brings CODE_LOCK (R110). -/
theorem exec_arrival_locks {i : Fin 4} {p : BitVec 10} {l : Lane} {s : State}
    (hlive : s.inReset = false) (hl : l = s.lanes.get i) (hlock : l.lock = .search)
    (hrun : 16 ≤ (l.receive (groupOf p)).searchRun) :
    exec (.codeGroupArrival i p) s =
      .next (s.setLane i ((l.receive (groupOf p)).enter .codeLock)) := by
  have hgo : lockChange (groupOf p) l (l.receive (groupOf p)) = some .codeLock := by
    simp only [lockChange, hlock]
    exact if_pos hrun
  rw [exec_arrival_of_errorless hlive hl rfl (by rw [hlock]; decide)
    fun k => errs_of_search hlock k _, hgo,
    followLock_enters (receive_lock _ l) (by rw [hlock]; decide)]

/-- A valid group of no sign violation is no SIGN and no CODE error. -/
theorem errs_of_good {g : CodeGroup} {l : Lane} (hg : groupUnknown g = false)
    (hsign : signViolation (groupWeight g) l.sign = false)
    (hmark : l.lock = .frameLock → markError ((l.framePosition + 1) % 256) (groupMarker g) = false)
    (k : ErrorKind) : l.errs k g = false := by
  cases hlock : l.lock <;> cases k <;> simp_all [Lane.errs]

/-- In CODE_LOCK a group that is no fourth UNKNOWN and no MARKER at distance 255 keeps the lock. -/
theorem lockChange_codeLock_none {g : CodeGroup} {l : Lane} (hlock : l.lock = .codeLock)
    (hmarker : groupMarker g = true → l.distance ≠ some 255)
    (hunknown : groupUnknown g = true → l.unknownRun < 3) :
    lockChange g l (l.receive g) = none := by
  simp only [lockChange, hlock, receive_of_codeLock hlock]
  rw [if_neg fun h => hmarker h.1 h.2, if_neg]
  split
  · next h =>
    have := hunknown h
    omega
  · decide

/-- In FRAME_LOCK a group that ends no run of four keeps the lock. -/
theorem lockChange_frameLock_none {g : CodeGroup} {l : Lane} (hlock : l.lock = .frameLock)
    (hmark : nextMarkRun ((l.framePosition + 1) % 256) (groupMarker g) l.markErrorRun < 4)
    (hunknown : groupUnknown g = true → l.unknownRun < 3) :
    lockChange g l (l.receive g) = none := by
  simp only [lockChange, hlock, receive_of_frameLock hlock]
  rw [if_neg, if_neg (Nat.not_le.mpr hmark)]
  split
  · next h =>
    have := hunknown h
    omega
  · decide

/-- The fourth UNKNOWN group in a row takes either lock back to SEARCH (R110, R112). -/
theorem lockChange_unknown {l : Lane} (hlock : l.lock = .codeLock ∨ l.lock = .frameLock)
    (h : l.unknownRun = 3) : lockChange .unknown l (l.receive .unknown) = some .search := by
  rcases hlock with hlock | hlock
  · simp only [lockChange, hlock, receive_of_codeLock hlock, groupMarker, groupUnknown, h]
    rfl
  · simp only [lockChange, hlock, receive_of_frameLock hlock, groupUnknown, h]
    rfl

/-- The fourth MARK error in a row takes FRAME_LOCK back to CODE_LOCK (R112). -/
theorem lockChange_marks {g : CodeGroup} {l : Lane} (hlock : l.lock = .frameLock)
    (hunknown : groupUnknown g = true → l.unknownRun < 3)
    (hmark : markError ((l.framePosition + 1) % 256) (groupMarker g) = true)
    (h : l.markErrorRun = 3) : lockChange g l (l.receive g) = some .codeLock := by
  simp only [lockChange, hlock, receive_of_frameLock hlock, nextMarkRun, hmark, if_true]
  rw [if_neg, if_pos (by omega)]
  split
  · next hu =>
    have := hunknown hu
    omega
  · decide

/-- A MARKER away from frame position 0, or another group at it, is a MARK error (R112). -/
theorem markError_of {n : Nat} {m : Bool}
    (h : m = true ∧ n < 255 ∨ m = false ∧ n = 255) : markError ((n + 1) % 256) m = true := by
  rcases h with ⟨rfl, hn⟩ | ⟨rfl, rfl⟩
  · rw [markError, if_neg (by omega)]
  · rfl

/-- What the lane that leaves FRAME_LOCK stands at, but for its counters (R112, R113). -/
theorem lost_take {c : LoadedConfig} {p : BitVec 10} {dest : Lock} {next l : Lane}
    (hlock : l.lock = .frameLock)
    (hcase : (groupOf p = .unknown ∧ l.unknownRun = 3 ∧ dest = .search ∧
        next = { l with
          lock := .search, sign := .undetermined, searchRun := 0, unknownRun := 0
          markErrorRun := 0, framePosition := 0, distance := none }) ∨
      ((groupOf p = .unknown → l.unknownRun < 3) ∧ l.markErrorRun = 3 ∧
        (p = markerGroup ∧ l.framePosition < 255 ∨
          p ≠ markerGroup ∧ l.framePosition = 255) ∧ dest = .codeLock ∧
        next = { l with
          lock := .codeLock, sign := signAfter (groupWeight (groupOf p)) l.sign
          unknownRun := 0, markErrorRun := 4, framePosition := (l.framePosition + 1) % 256
          distance := nextDistance (decide (p = markerGroup)) l.distance })) :
    lockChange (groupOf p) l (l.receive (groupOf p)) = some dest ∧
      (l.take c (groupOf p)).lost dest = { next with
        lockLosses := min (l.lockLosses + 1) 65535
        signErrors := (l.take c (groupOf p)).signErrors
        codeErrors := (l.take c (groupOf p)).codeErrors
        markErrors := (l.take c (groupOf p)).markErrors } := by
  rcases hcase with ⟨hg, hrun, rfl, rfl⟩ | ⟨hunknown, hrun, hat, rfl, rfl⟩
  · rw [hg]
    refine ⟨lockChange_unknown (.inr hlock) hrun, ?_⟩
    rw [take_eq, receive_of_frameLock hlock]
    rfl
  · have hmark : markError ((l.framePosition + 1) % 256) (groupMarker (groupOf p)) = true := by
      refine markError_of ?_
      rw [groupMarker_groupOf]
      simpa using hat
    refine ⟨lockChange_marks hlock (fun h => hunknown ((groupUnknown_iff _).mp h)) hmark hrun, ?_⟩
    rw [take_eq, receive_of_frameLock hlock, nextMarkRun, hmark, ← groupMarker_groupOf, hrun]
    simp [Lane.lost, Lane.enter, hlock]

theorem weightOf_iff (p : BitVec 10) :
    (weightOf p = some .neutral ↔ onesOf p = 5) ∧ (weightOf p = some .plus ↔ onesOf p = 6) ∧
      (weightOf p = some .minus ↔ onesOf p = 4) := by
  unfold weightOf
  generalize onesOf p = n
  (repeat' split) <;> simp_all

theorem signViolation_iff (w : Weight) (x : Sign) :
    signViolation w x = true ↔ (w = .plus ∧ x = .pos) ∨ (w = .minus ∧ x = .neg) := by
  cases w <;> cases x <;> decide

/-- Away from the frame's end a group that is no MARKER is no MARK error and keeps the run (R112). -/
theorem nextMarkRun_of_data {n : Nat} (h : n < 255) (run : Nat) :
    markError ((n + 1) % 256) false = false ∧ (n + 1) % 256 = n + 1 ∧
      nextMarkRun ((n + 1) % 256) false run = run := by
  have hpos : (n + 1) % 256 = n + 1 := Nat.mod_eq_of_lt (by omega)
  simp [hpos, nextMarkRun, markError]

/-- Settles O46: the table by its places, and the arrivals by the lock and by what the group is. -/
theorem lanesLockByTheirGroups : Obligations.LanesLockByTheirGroups := by
  refine ⟨⟨codeTable_spec.1, codeTable_spec.2.1, mem_codeTable_iff, groupOf_unknown_iff,
    groupOf_marker_iff, groupOf_data_iff, weightOf_iff⟩,
    ⟨signViolation_iff, fun _ => ⟨rfl, rfl, rfl⟩, fun _ => rfl, rfl, fun _ => rfl⟩,
    fun i p w l s hlive hl => ⟨fun hlock => ?_, fun hlock hg hrun => ?_, fun hlock hg => ?_,
      fun hlock hg hrun => ?_, fun hlock hsign => ⟨fun hg => ?_, fun hg hd => ?_, fun hg hd => ?_⟩,
      fun hlock hg hrun hquiet => ?_, fun hlock hsign => ⟨fun hg hpos hrun => ?_, fun hg hpos => ?_⟩,
      fun dest next hlock hcase => ⟨fun hsilent => ?_, fun hnot hrec hbelow => ?_⟩⟩⟩
  · rw [exec_codeGroupArrival hlive]
    exact congrArg _ (if_pos (hl ▸ hlock))
  · have hu : groupUnknown (groupOf p) = false :=
      Bool.eq_false_iff.mpr fun h => hg ((groupUnknown_iff _).mp h)
    rw [exec_arrival_search hlive hl hlock (by rw [receive_of_search hlock, hu]; simp; omega),
      receive_of_search hlock, hu]
    rfl
  · rw [exec_arrival_search hlive hl hlock (by rw [receive_of_search hlock, hg]; exact Nat.zero_lt_succ _),
      receive_of_search hlock, hg]
    rfl
  · have hu : groupUnknown (groupOf p) = false :=
      Bool.eq_false_iff.mpr fun h => hg ((groupUnknown_iff _).mp h)
    rw [exec_arrival_locks hlive hl hlock (by rw [receive_of_search hlock, hu, hrun]; exact le_rfl),
      receive_of_search hlock, hu, hrun]
    simp [Lane.enter, hlock, State.setLane]
  · rw [exec_arrival_of_errorless hlive hl hg (by rw [hlock]; decide)
      (errs_of_good rfl hsign (by rw [hlock]; nofun)),
      lockChange_codeLock_none hlock (by simp [groupMarker]) (by simp [groupUnknown]),
      receive_of_codeLock hlock]
    rfl
  · rw [exec_arrival_of_errorless hlive hl hg (by rw [hlock]; decide)
      (errs_of_good rfl hsign (by rw [hlock]; nofun)),
      lockChange_codeLock_none hlock (fun _ => hd) (by simp [groupUnknown]),
      receive_of_codeLock hlock]
    rfl
  · have hgo : lockChange (.marker w) l (l.receive (.marker w)) = some .frameLock := by
      simp [lockChange, hlock, groupMarker, hd]
    rw [exec_arrival_of_errorless hlive hl hg (by rw [hlock]; decide)
      (errs_of_good rfl hsign (by rw [hlock]; nofun)), hgo,
      followLock_enters (receive_lock _ l) (by rw [hlock]; decide), receive_of_codeLock hlock]
    rfl
  · rw [exec_arrival_of_quiet hlive hl hg (by rw [hlock]; decide) (hg ▸ hquiet),
      lockChange_unknown (.inl hlock) hrun,
      followLock_enters (take_lock ..) (by rw [hlock]; decide)]
    refine ⟨_, rfl, ?_, ?_, ?_, ?_, fun n hn => Quad.get_set_of_ne _ _ hn, rfl, rfl⟩
    all_goals rw [show (s.setLane i _).lanes.get i = _ from Quad.get_set_self ..]
    · exact enter_lock _ _
    · rfl
    · rfl
    · exact (enter_lockLosses _ _).trans (take_lockLosses ..)
  · obtain ⟨hmark, hnext, hkeep⟩ := nextMarkRun_of_data hpos l.markErrorRun
    rw [exec_arrival_of_errorless hlive hl hg (by rw [hlock]; decide)
      (errs_of_good rfl hsign fun _ => hmark),
      lockChange_frameLock_none hlock (by rw [groupMarker, hkeep]; exact hrun)
        (by simp [groupUnknown]), receive_of_frameLock hlock]
    simp only [groupMarker, hnext]
    rfl
  · rw [exec_arrival_of_errorless hlive hl hg (by rw [hlock]; decide)
      (errs_of_good rfl hsign fun _ => by rw [hpos]; rfl),
      lockChange_frameLock_none hlock (by rw [hpos]; exact Nat.zero_lt_succ _)
        (by simp [groupUnknown]), receive_of_frameLock hlock, hpos]
    rfl
  · obtain ⟨hgo, hlost⟩ := lost_take (c := s.cfg) hlock hcase
    rw [exec_arrival_of_quiet hlive hl rfl (by rw [hlock]; decide) (.inl hsilent), hgo, hlock,
      followLock_loses ((take_lock ..).trans hlock), (laneSilent_iff i s).mp hsilent,
      if_neg Bool.false_ne_true, hlost]
    refine ⟨_, rfl, ?_, fun n hn => Quad.get_set_of_ne _ _ hn, rfl, rfl⟩
    rw [show (s.setLane i _).lanes.get i = _ from Quad.get_set_self ..]
  · obtain ⟨hgo, hlost⟩ := lost_take (c := s.cfg) hlock hcase
    rw [exec_arrival_of_quiet hlive hl rfl (by rw [hlock]; decide) (.inr hbelow), hgo, hlock]
    obtain ⟨t, r, f, m, d, ht, hrecorded, rfl⟩ := followLock_recorded (dest := dest)
      ((take_lock s.cfg (groupOf p) l).trans hlock) (laneRaises_of_not_silent hnot) hrec
    rw [take_lockLosses, Nat.cast_min, Nat.cast_add] at hrecorded
    refine ⟨_, r, congrArg _ ht, hrecorded, ?_, ?_, ?_, fun n hn => Quad.get_set_of_ne _ _ hn, rfl⟩
    all_goals rw [show (State.lanes { s.setLane i _ with
      fcu := f, bus := { s.bus with notices := m, noticeDrops := d } }).get i = _ from
        Quad.get_set_self ..]
    · exact enter_lock _ _
    · rw [hlost]
    · rw [hlost]

/-! ### The errors of an arrival (R114 to R117) -/

theorem bump_eq (roll flag : Bool) (n : Nat) (h : n < 256) : ErrorCounter.bump roll ⟨n, flag⟩ =
    if n < 255 then (⟨n + 1, flag⟩, true) else if roll then (⟨0, flag⟩, true)
    else (⟨255, flag⟩, false) := by
  by_cases hn : n < 255
  · rw [if_pos hn, bump_below hn]
  · obtain rfl : n = 255 := by omega
    cases roll <;> rfl

theorem markError_iff (n : Nat) (g : CodeGroup) :
    markError n (groupMarker g) = true ↔ (n = 0 ↔ ∀ w, g ≠ .marker w) := by
  unfold markError
  cases g <;> by_cases h : n = 0 <;> simp [h, groupMarker]

/-- Whether a group is an error of a class, by the lock and the group (R114). -/
theorem errs_iff (k : ErrorKind) (g : CodeGroup) (l : Lane) : l.errs k g = true ↔
    (l.lock = .codeLock ∨ l.lock = .frameLock) ∧ match k with
      | .sign => ∃ w, (g = .marker w ∨ g = .data w) ∧ signViolation w l.sign = true
      | .code => g = .unknown
      | .mark => l.lock = .frameLock ∧
          ((l.framePosition + 1) % 256 = 0 ↔ ∀ w, g ≠ .marker w) := by
  have hsign : signViolation (groupWeight g) l.sign = true ↔
      ∃ w, (g = .marker w ∨ g = .data w) ∧ signViolation w l.sign = true := by
    cases g <;> simp [groupWeight, signViolation]
  cases k
  · cases hlock : l.lock <;> simp [Lane.errs, hlock, hsign]
  · cases hlock : l.lock <;> simp [Lane.errs, hlock, groupUnknown_iff]
  · cases hlock : l.lock <;> simp [Lane.errs, hlock, ← markError_iff]

/-- An arrival that raises nothing changes its lane only, and its counters by the classes of its
errors. -/
theorem groupArrives_of_silent {i : Fin 4} {g : CodeGroup} {s : State} (h : s.laneSilent i) :
    ∃ m, groupArrives i g s = s.setLane i m ∧ ∀ k, m.counter k =
      if (s.lanes.get i).errs k g then ((s.lanes.get i).counter k).counted (s.cfg.errorClass k)
      else (s.lanes.get i).counter k := by
  have hsilent := (laneSilent_iff i s).mp h
  by_cases hlock : (s.lanes.get i).lock = .off
  · refine ⟨s.lanes.get i, (if_pos hlock).trans (setLane_get_self i s).symm, fun k => ?_⟩
    rw [if_neg]
    cases k <;> simp [Lane.errs, hlock]
  · obtain ⟨m, hm, hcounters⟩ := followLock_of_quiet
      (dest := lockChange g (s.lanes.get i) ((s.lanes.get i).receive g))
      (take_lock s.cfg g (s.lanes.get i)) hsilent
    rw [groupArrives_of_quiet rfl hlock (.inl hsilent), hm]
    exact ⟨m, rfl, fun k => (hcounters k).trans (counter_take ..)⟩

/-- An arrival whose one error reaches its threshold on a lane whose faults are raised (R116). -/
theorem groupArrives_recorded {i : Fin 4} {g : CodeGroup} {k : ErrorKind} {l : Lane} {s : State}
    (hl : l = s.lanes.get i) (hk : l.errs k g = true) (hother : ∀ m, m ≠ k → l.errs m g = false)
    (hraises : s.laneRaises i = true) (hrec : s.RecordsAtOnce) (hlt : (l.counter k).count < 255)
    (hat : (l.counter k).count + 1 = (s.cfg.errorClass k).threshold) :
    ∃ t r f n d, groupArrives i g s = t.followLock i l.lock (lockChange g l (l.receive g)) ∧
      Recorded .laneErrors [8 + i.val] (s.cfg.errorClass k).threshold s t r ∧
      t = { s.setLane i (l.take s.cfg g) with
        fcu := f, bus := { s.bus with notices := n, noticeDrops := d } } := by
  have hlock : l.lock ≠ .off := fun h => by
    rcases ((errs_iff k g l).mp hk).1 with h' | h' <;> rw [h] at h' <;> cases h'
  have hreach : (s.setLane i (l.receive g)).reaches i k := by
    refine (reaches_setLane (by rw [counter_receive, hl])).mpr ?_
    unfold State.reaches
    rw [← hl, bump_below hlt]
    exact ⟨rfl, hat⟩
  obtain ⟨t, r, f, n, d, ht, hrecorded, hlane⟩ := countError_setLane_recorded hreach hraises hrec
  have htaken : (l.receive g).count s.cfg k = l.take s.cfg g := by
    unfold Lane.take
    cases k
    · rw [hk, hother .code (by decide), hother .mark (by decide)]
      rfl
    · rw [hk, hother .sign (by decide), hother .mark (by decide)]
      rfl
    · rw [hk, hother .sign (by decide), hother .code (by decide)]
      rfl
  have hcounted : (((s.setLane i (l.receive g)).countIf (l.errs .sign g) i .sign).countIf
      (l.errs .code g) i .code).countIf (l.errs .mark g) i .mark = t := by
    cases k
    · rw [hk, hother .code (by decide), hother .mark (by decide)]
      exact ht
    · rw [hk, hother .sign (by decide), hother .mark (by decide)]
      exact ht
    · rw [hk, hother .sign (by decide), hother .code (by decide)]
      exact ht
  rw [groupArrives_eq hl hlock, hcounted]
  exact ⟨t, r, f, n, d, rfl, hrecorded, htaken ▸ hlane⟩

theorem nextMarkRun_le (n : Nat) (m : Bool) (run : Nat) :
    nextMarkRun n m run ≤ if markError n m then run + 1 else run := by
  unfold nextMarkRun
  (repeat' split) <;> omega

/-- A threshold that is reached brings no change of the lock where no run of four ends with it. -/
theorem lockChange_none_of_error {p : BitVec 10} {k : ErrorKind} {l : Lane}
    (hk : l.errs k (groupOf p) = true) (hother : ∀ m, m ≠ k → l.errs m (groupOf p) = false)
    (hunknown : l.unknownRun < 3)
    (hmarks : l.lock = .frameLock → l.markErrorRun < 3 ∨ k ≠ .mark ∧ l.markErrorRun = 3)
    (hmarker : l.lock = .codeLock → p = markerGroup → l.distance ≠ some 255) :
    lockChange (groupOf p) l (l.receive (groupOf p)) = none := by
  rcases ((errs_iff k _ l).mp hk).1 with hlock | hlock
  · refine lockChange_codeLock_none hlock (fun hm => hmarker hlock ?_) fun _ => hunknown
    rw [groupMarker_groupOf] at hm
    exact of_decide_eq_true hm
  · refine lockChange_frameLock_none hlock ?_ fun _ => hunknown
    have hle := nextMarkRun_le ((l.framePosition + 1) % 256) (groupMarker (groupOf p)) l.markErrorRun
    rcases hmarks hlock with hrun | ⟨hne, hrun⟩
    · split at hle <;> omega
    · have hnone : markError ((l.framePosition + 1) % 256) (groupMarker (groupOf p)) = false := by
        have := hother .mark (Ne.symm hne)
        simpa [Lane.errs, hlock] using this
      rw [hnone, if_neg Bool.false_ne_true] at hle
      omega

/-- A lane that takes an UNKNOWN group below its thresholds (R107, R112). -/
theorem take_unknown {l : Lane} {s : State} {i : Fin 4} (hl : l = s.lanes.get i)
    (hbelow : s.belowThresholds i .unknown) (hlock : l.lock = .codeLock ∨ l.lock = .frameLock) :
    l.take s.cfg .unknown = { l.receive .unknown with
      codeErrors := ⟨l.codeErrors.count + 1, l.codeErrors.terminal⟩
      markErrors := if l.errs .mark .unknown then ⟨l.markErrors.count + 1, l.markErrors.terminal⟩
        else l.markErrors } := by
  have hsign : l.errs .sign .unknown = false := by
    rcases hlock with hlock | hlock <;> simp [Lane.errs, hlock, groupWeight, signViolation]
  have hcode : l.errs .code .unknown = true := by
    rcases hlock with hlock | hlock <;> simp [Lane.errs, hlock, groupUnknown]
  obtain ⟨hclt, hcne⟩ := hbelow .code (hl ▸ hcode)
  obtain ⟨sign, run, unknown, d, position, marks, e⟩ := receive_spec .unknown l
  rw [take_eq, hsign, hcode, if_neg Bool.false_ne_true, if_pos rfl,
    show l.codeErrors.counted s.cfg.codeClass = _ from counted_below (hl ▸ hclt) (hl ▸ hcne), e]
  cases hmark : l.errs .mark .unknown
  · rw [if_neg Bool.false_ne_true, if_neg Bool.false_ne_true]
  · obtain ⟨hmlt, hmne⟩ := hbelow .mark (hl ▸ hmark)
    rw [if_pos rfl, if_pos rfl,
      show l.markErrors.counted s.cfg.markClass = _ from counted_below (hl ▸ hmlt) (hl ▸ hmne)]

/-- A lane that takes a group of one error, of a class of its own, below that class's threshold. -/
theorem take_one {c : LoadedConfig} {g : CodeGroup} {k : ErrorKind} {l : Lane}
    (hk : l.errs k g = true) (hother : ∀ m, m ≠ k → l.errs m g = false)
    (hlt : (l.counter k).count < 255)
    (hne : (l.counter k).count + 1 ≠ (c.errorClass k).threshold) :
    l.take c g =
      (l.receive g).setCounter k ⟨(l.counter k).count + 1, (l.counter k).terminal⟩ := by
  have hcounted := counted_below hlt hne
  unfold Lane.take Lane.countIf Lane.count
  cases k
  · rw [hk, hother .code (by decide), hother .mark (by decide), if_pos rfl,
      if_neg Bool.false_ne_true, if_neg Bool.false_ne_true, counter_receive, hcounted]
  · rw [hk, hother .sign (by decide), hother .mark (by decide), if_pos rfl,
      if_neg Bool.false_ne_true, if_neg Bool.false_ne_true, counter_receive, hcounted]
  · rw [hk, hother .sign (by decide), hother .code (by decide), if_pos rfl,
      if_neg Bool.false_ne_true, if_neg Bool.false_ne_true, counter_receive, hcounted]

/-- An arrival of one error that is below its threshold. -/
theorem exec_arrival_of_one {i : Fin 4} {p : BitVec 10} {g : CodeGroup} {k : ErrorKind} {l : Lane}
    {s : State} (hlive : s.inReset = false) (hl : l = s.lanes.get i) (hg : groupOf p = g)
    (hk : l.errs k g = true) (hother : ∀ m, m ≠ k → l.errs m g = false)
    (hlt : (l.counter k).count < 255)
    (hne : (l.counter k).count + 1 ≠ (s.cfg.errorClass k).threshold)
    (hstay : lockChange g l (l.receive g) = none) :
    exec (.codeGroupArrival i p) s = .next (s.setLane i
      ((l.receive g).setCounter k ⟨(l.counter k).count + 1, (l.counter k).terminal⟩)) := by
  have hbelow : s.belowThresholds i g := fun m hm => by
    rw [← hl] at hm ⊢
    by_cases hmk : m = k
    · exact hmk ▸ ⟨hlt, hne⟩
    · rw [hother m hmk] at hm
      cases hm
  have hlock : l.lock ≠ .off := fun h => by
    rcases ((errs_iff k g l).mp hk).1 with h' | h' <;> rw [h] at h' <;> cases h'
  rw [exec_arrival_of_quiet hlive hl hg hlock (.inr hbelow), hstay, followLock_none,
    take_one hk hother hlt hne]

/-- Settles O47: the classes by `errs_iff`, what raises nothing by `groupArrives_of_silent`, and the
threshold's record by `groupArrives_recorded`. -/
theorem laneErrorsCountToTheirThreshold : Obligations.LaneErrorsCountToTheirThreshold := by
  refine ⟨bump_eq, errs_iff, fun i p s hlive hsilent => ?_,
    fun i p k l s hlive hl hk hother hnot hrec hlt hat => ⟨fun hunknown hmarks hmarker => ?_,
      fun hmark hrun hroom hallowed => ?_⟩,
    fun i p l s hlive hl hg hrun hbelow => ⟨fun hlock => ?_, fun hlock hpos hmarks => ?_,
      fun hlock hpos hmarks => ?_⟩,
    fun i p w l s hlive hl => ⟨fun hlock hg hsign hlt hne => ?_,
      fun hlock hsign hmarks hlt hne => ⟨fun hg hpos => ?_, fun hg hpos => ?_⟩⟩⟩
  · obtain ⟨m, hm, hcounters⟩ := groupArrives_of_silent (g := groupOf p) hsilent
    rw [exec_codeGroupArrival hlive, hm]
    refine ⟨_, rfl, fun k => ?_, fun n hn => Quad.get_set_of_ne _ _ hn, rfl, rfl, rfl, rfl, rfl, rfl⟩
    rw [show (s.setLane i m).lanes.get i = m from Quad.get_set_self .., hcounters k]
    refine ⟨fun hk => ?_, fun hk => ?_⟩
    · rw [if_pos hk]
      exact counted_counts _ _
    · rw [if_neg (by rw [hk]; decide)]
  · obtain ⟨t, r, f, m, d, ht, hrecorded, rfl⟩ := groupArrives_recorded hl hk hother
      (laneRaises_of_not_silent hnot) hrec hlt hat
    rw [lockChange_none_of_error hk hother hunknown hmarks hmarker, followLock_none] at ht
    have hcounted := (counted_counts (s.cfg.errorClass k) (l.counter k)).2.1 hlt hat
    rw [exec_codeGroupArrival hlive]
    refine ⟨_, r, congrArg _ ht, hrecorded, ?_, fun n hn => ?_, ?_,
      fun n hn => Quad.get_set_of_ne _ _ hn, rfl, rfl, rfl, rfl⟩
    all_goals rw [show (State.lanes { s.setLane i (l.take s.cfg (groupOf p)) with
      fcu := f, bus := { s.bus with notices := m, noticeDrops := d } }).get i =
        l.take s.cfg (groupOf p) from Quad.get_set_self ..]
    · rw [counter_take, if_pos hk, hcounted]
    · rw [counter_take, if_neg (by rw [hother n hn]; decide)]
    · exact take_lock ..
  · subst hmark
    obtain ⟨t, q, f, m, d, ht, hq, rfl⟩ := groupArrives_recorded hl hk hother
      (laneRaises_of_not_silent hnot) hrec hlt hat
    have hlock : l.lock = .frameLock := ((errs_iff .mark _ l).mp hk).2.1
    have herror : markError ((l.framePosition + 1) % 256) (groupMarker (groupOf p)) = true := by
      simpa [Lane.errs, hlock] using hk
    have hknown : groupUnknown (groupOf p) = false := by
      simpa [Lane.errs, hlock] using hother .code (by decide)
    have hlog : f = { s.fcu with
        log := s.fcu.log ++ [q], recordCount := s.fcu.recordCount + 1 } := hq.log
    obtain ⟨u, r, f', m', d', hu, hr, rfl⟩ := followLock_recorded (i := i) (dest := .codeLock)
      (s := { s with fcu := f, bus := { s.bus with notices := m, noticeDrops := d } })
      ((take_lock s.cfg (groupOf p) l).trans hlock) (laneRaises_of_not_silent hnot)
      ⟨hrec.active, hrec.policy, hrec.coalesce,
        by rw [hlog]; simp; omega, by rw [hlog]; exact hallowed⟩
    have hlog' : f' = { f with log := f.log ++ [r], recordCount := f.recordCount + 1 } := hr.log
    rw [lockChange_marks hlock (fun h => by rw [hknown] at h; cases h) herror hrun, hlock] at ht
    rw [exec_codeGroupArrival hlive]
    refine ⟨_, q, r, congrArg _ (ht.trans hu), ?_, hq.kind, hq.points, hq.value, hr.kind, hr.points,
      ?_, ?_⟩
    · simp [hlog', hlog]
    · rw [hr.value, take_lockLosses]
      omega
    · rw [show (State.lanes { State.setLane i _ _ with fcu := f', bus := _ }).get i =
        (l.take s.cfg (groupOf p)).lost .codeLock from Quad.get_set_self ..]
      exact enter_lock _ _
  · rw [exec_arrival_of_quiet hlive hl hg (by rw [hlock]; decide) (.inr (hg ▸ hbelow)),
      lockChange_codeLock_none hlock (by simp [groupMarker]) fun _ => hrun, followLock_none,
      take_unknown hl (hg ▸ hbelow) (.inl hlock), receive_of_codeLock hlock]
    simp [Lane.errs, hlock, State.setLane, groupUnknown, groupMarker, groupWeight, signAfter]
  · obtain ⟨hmark, hnext, hkeep⟩ := nextMarkRun_of_data hpos l.markErrorRun
    rw [exec_arrival_of_quiet hlive hl hg (by rw [hlock]; decide) (.inr (hg ▸ hbelow)),
      lockChange_frameLock_none hlock (by rw [groupMarker, hkeep]; exact hmarks) fun _ => hrun,
      followLock_none, take_unknown hl (hg ▸ hbelow) (.inr hlock), receive_of_frameLock hlock,
      groupMarker, hkeep, hnext]
    rw [hnext] at hmark
    simp [Lane.errs, hlock, State.setLane, groupUnknown, groupMarker, groupWeight, signAfter, hmark,
      hnext]
  · rw [exec_arrival_of_quiet hlive hl hg (by rw [hlock]; decide) (.inr (hg ▸ hbelow)),
      lockChange_frameLock_none hlock (by rw [hpos]; exact Nat.succ_lt_succ hmarks) fun _ => hrun,
      followLock_none, take_unknown hl (hg ▸ hbelow) (.inr hlock), receive_of_frameLock hlock, hpos]
    simp [Lane.errs, hlock, State.setLane, groupUnknown, groupMarker, groupWeight, signAfter, hpos,
      markError, nextMarkRun]
  · rw [exec_arrival_of_one (k := .sign) hlive hl hg (by simp [Lane.errs, hlock, groupWeight, hsign])
      (fun m hm => by cases m <;> simp_all [Lane.errs, groupUnknown]) hlt hne
      (lockChange_codeLock_none hlock (by simp [groupMarker]) (by simp [groupUnknown])),
      receive_of_codeLock hlock]
    rfl
  · have herror : markError ((l.framePosition + 1) % 256) true = true := markError_of (.inl ⟨rfl, hpos⟩)
    rw [exec_arrival_of_one (k := .mark) hlive hl hg (by simp [Lane.errs, hlock, groupMarker, herror])
      (fun m hm => by cases m <;> simp_all [Lane.errs, groupUnknown, groupWeight]) hlt hne
      (lockChange_frameLock_none hlock (by
        rw [groupMarker, nextMarkRun, herror]
        exact Nat.succ_lt_succ hmarks) (by simp [groupUnknown])), receive_of_frameLock hlock,
      nextMarkRun, groupMarker, herror, Nat.mod_eq_of_lt (by omega)]
    rfl
  · rw [exec_arrival_of_one (k := .mark) hlive hl hg
      (by simp [Lane.errs, hlock, groupMarker, hpos, markError])
      (fun m hm => by cases m <;> simp_all [Lane.errs, groupUnknown, groupWeight]) hlt hne
      (lockChange_frameLock_none hlock (by rw [hpos]; exact Nat.succ_lt_succ hmarks)
        (by simp [groupUnknown])), receive_of_frameLock hlock, hpos]
    rfl

end Sys2Proof.Machine
end

section
/-! SUPPORT. The supervision of the watch lines by their roles as equations: what an edge and a timer
leave of a line, and the raises of the lines that are checked. After them the statement on the roles. -/

namespace Sys2Proof.Machine

/-! ### Raises of a line (R124) -/

theorem raiseLine_of_unchecked {i : Fin 4} {kind : FaultKind} {value : Int} {s : State}
    (h : s.checked (12 + i.val) = false) : s.raiseLine i kind value = s :=
  if_neg (by rw [h]; exact Bool.false_ne_true)

theorem raiseLine_of_checked {i : Fin 4} {kind : FaultKind} {value : Int} {s : State}
    (h : s.checked (12 + i.val) = true) :
    s.raiseLine i kind value = s.raise kind [12 + i.val] value := if_pos h

/-- The raise of a checked line becomes a record, and the line stays as the event has left it. -/
theorem raiseLine_recorded {i : Fin 4} {kind : FaultKind} {value : Int} {l : Line} {s : State}
    (hchecked : s.checked (12 + i.val) = true) (hrec : s.RecordsAtOnce) (hforced : kind.forced = none)
    (hkind : kind ≠ .notReached) :
    ∃ t r, (s.setLine i l).raiseLine i kind value = t ∧ Recorded kind [12 + i.val] value s t r ∧
      t.lines.get i = l ∧ t.rcu = s.rcu ∧ t.sou = s.sou := by
  obtain ⟨t, r, ht, hrecorded, f, n, d, rfl⟩ := raiseSeeing_recorded (asc := s.asc)
    (points := [12 + i.val]) (value := value) (s := s.setLine i l)
    ⟨hrec.active, hrec.policy, hrec.coalesce, hrec.room, hrec.allowed⟩ hforced hkind
  exact ⟨_, r, (raiseLine_of_checked (s := s.setLine i l) hchecked).trans ht, { hrecorded with },
    Quad.get_set_self .., rfl, rfl⟩

theorem setLine_setLine (i : Fin 4) (l m : Line) (s : State) :
    (s.setLine i l).setLine i m = s.setLine i m := by
  unfold State.setLine
  rw [Quad.set_set]

/-! ### Edges (R125 to R130) -/

/-- A line after a rise has been supervised, outside a power-good wait (R125, R126, R129, R130). -/
def Line.risen (hbMaxMs : Nat) (now : Uptime) (l : Line) : Line :=
  { l with
    sup := match l.sup with
      | .heartbeat .hung => .heartbeat .armed
      | .powerGood .unseen => .powerGood (.up now)
      | .resetWatch _ => .resetWatch false
      | other => other
    timer := match l.sup with
      | .heartbeat .armed => some hbMaxMs
      | .heartbeat .hung => some hbMaxMs
      | _ => l.timer
    windowCount := match l.sup with
      | .rate true _ => min (l.windowCount + 1) 65535
      | _ => l.windowCount }

theorem superviseRise_setLine {i : Fin 4} {l : Line} {s : State} (h : l.sup ≠ .powerGood .waiting) :
    (s.setLine i l).superviseRise i =
      s.setLine i (l.risen (s.cfg.lines.get i).hbMaxMs s.tmu.uptime) := by
  have hl : (s.setLine i l).lines.get i = l := Quad.get_set_self ..
  unfold State.superviseRise
  dsimp only
  rw [hl]
  obtain ⟨high, pulses, rack, uptime, sup, timer, count, episodes⟩ := l
  rcases sup with _ | (_ | _ | _) | ⟨_ | _, o⟩ | (_ | _ | u | _) | (_ | _)
  case powerGood.waiting => exact absurd rfl h
  all_goals simp only [setLine_setLine]
  all_goals rfl

/-- A fall of a line that is neither UP nor watched for a reset does no more than R123. -/
theorem superviseFall_of_other {i : Fin 4} {s : State}
    (hup : ∀ u, (s.lines.get i).sup ≠ .powerGood (.up u))
    (hreset : (s.lines.get i).sup ≠ .resetWatch false) : s.superviseFall i = s := by
  unfold State.superviseFall
  dsimp only
  split
  case h_6 u h => exact absurd h (hup u)
  case h_9 h => exact absurd h hreset
  all_goals rfl

/-- A POWER_GOOD line that falls is UNSEEN, with one episode and its raise (R129). -/
theorem superviseFall_of_up {i : Fin 4} {l : Line} {u : Uptime} {s : State}
    (h : l.sup = .powerGood (.up u)) : (s.setLine i l).superviseFall i =
      (s.setLine i { l with
        sup := .powerGood .unseen, episodes := min (l.episodes + 1) 65535 }).raiseLine i .pgDrop
          (elapsed s.tmu.uptime u) := by
  have hl : (s.setLine i l).lines.get i = l := Quad.get_set_self ..
  simp only [State.superviseFall, hl, h, setLine_setLine]
  rfl

/-- A RESET_WATCH line that falls under supervision is ASSERTED, with one episode and its raise
(R130). -/
theorem superviseFall_of_clear {i : Fin 4} {l : Line} {s : State}
    (h : l.sup = .resetWatch false) : (s.setLine i l).superviseFall i =
      if s.supervising then
        (s.setLine i { l with
          sup := .resetWatch true, episodes := min (l.episodes + 1) 65535 }).raiseLine i
            .spontaneousReset l.pulses.toNat
      else s.setLine i l := by
  have hl : (s.setLine i l).lines.get i = l := Quad.get_set_self ..
  simp only [State.superviseFall, hl, h, setLine_setLine]
  rfl

/-! ### Timers (R125, R126) -/

theorem exec_heartbeatIntervalExpiry {i : Fin 4} {s : State} (hlive : s.inReset = false)
    (hsup : (s.lines.get i).sup = .heartbeat .armed) (hdue : (s.lines.get i).timer = some 0) :
    exec (.heartbeatIntervalExpiry i) s = .next ((s.setLine i { s.lines.get i with
      sup := .heartbeat .hung, timer := none
      episodes := min ((s.lines.get i).episodes + 1) 65535 }).raiseLine i .hang
        (s.cfg.lines.get i).hbMaxMs) :=
  (live_next hlive).trans (congrArg _ (if_pos ⟨hsup, by rw [hdue]; rfl⟩))

/-- A RATE window is judged by its count, and only the first bad one of an episode raises (R126). -/
theorem exec_rateWindowExpiry {i : Fin 4} {o bad : Bool} {s : State} (hlive : s.inReset = false)
    (hsup : (s.lines.get i).sup = .rate true o) (hdue : (s.lines.get i).timer = some 0)
    (hbad : bad = decide ((s.lines.get i).windowCount < (s.cfg.lines.get i).rateMin ∨
      (s.cfg.lines.get i).rateMax < (s.lines.get i).windowCount)) :
    exec (.rateWindowExpiry i) s = .next (
      if bad = true ∧ o = false then
        (s.setLine i { s.lines.get i with
          sup := .rate true bad, windowCount := 0, timer := some 1000
          episodes := min ((s.lines.get i).episodes + 1) 65535 }).raiseLine i .fanRate
            (s.lines.get i).windowCount
      else s.setLine i { s.lines.get i with
        sup := .rate true bad, windowCount := 0, timer := some 1000 }) := by
  refine (live_next hlive).trans (congrArg _ ?_)
  have hrange : outOfRate (s.cfg.lines.get i) (s.lines.get i).windowCount = bad := hbad.symm
  simp only [rateWindowExpires, hsup, hdue, Timer.due, hrange, decide_true, if_true]
  cases bad <;> cases o <;> rfl

/-! ### The statement -/

/-- A check set is active in an active run only (R89). -/
theorem active_of_checked {id : Nat} {s : State} (h : s.checked id = true) :
    s.rcu.run.active = true := by
  by_contra hn
  simp [State.checked, State.profile, hn] at h

/-- A HANG under the step policy STOP ends the run (R27), with the line's episode kept. -/
theorem hang_stops {i : Fin 4} {l : Line} {value : Int} {s : State}
    (hactive : s.rcu.run.active = true) (hpolicy : s.policyStep.policy = .stop) :
    RunEnded .fail .faultPolicy s ((s.setLine i l).raise .hang [12 + i.val] value) ∧
      (((s.setLine i l).raise .hang [12 + i.val] value).lines.get i).episodes = l.episodes ∧
      (s.cfg.coalesceMs = 0 →
        ((s.setLine i l).raise .hang [12 + i.val] value).fcu.recordCount =
          s.fcu.recordCount + 1 + s.fcu.groups.length) := by
  have hraise : (s.setLine i l).raise .hang [12 + i.val] value = _ :=
    raiseSeeing_stops (s := s.setLine i l) hactive hpolicy
  have hkind := (formRecord_raised (s.setLine i l).asc .hang [12 + i.val] value (s.setLine i l)).kind
  rw [hraise]
  generalize State.formRecord (s.setLine i l).asc .hang [12 + i.val] value (s.setLine i l) = r at hkind ⊢
  have hclosed := raiseClosing_closed (mode := .ending) (r := r) (s := s.setLine i l) (hkind ▸ rfl)
  have hended := hclosed.runEnd .fail (FaultKind.hang).stopCause
  have hwrote := runEnd_wrote hclosed .fail (FaultKind.hang).stopCause
  refine ⟨{ hended with }, ?_, fun hc => ?_⟩
  · obtain ⟨f, n, d, hlog⟩ := hclosed.only
    obtain ⟨o, b, bn, ns, nd, lanes, lines, e, -, -, -, hlines⟩ := runEnd_spec .fail
      (FaultKind.hang).stopCause ((s.setLine i l).raiseClosing .ending r)
    obtain ⟨-, -, -, -, hepisodes⟩ := sync_counts false false (s.cfg.lines.get i).hbMaxMs l
    have hself : ((s.setLine i l).raiseClosing .ending r).lines.get i = l := by
      rw [hlog]
      exact Quad.get_set_self ..
    have hcfg : ((s.setLine i l).raiseClosing .ending r).cfg = s.cfg := by
      rw [hlog]
      rfl
    have hline := hlines i
    rw [hself, hcfg] at hline
    rw [e]
    exact (congrArg Line.episodes hline).trans hepisodes
  · rw [hwrote.count, State.closingRecords, if_pos (show (s.setLine i l).cfg.coalesceMs = 0 from hc),
      List.length_cons, openRecords_length]
    show s.fcu.recordCount + (s.fcu.groups.length + 1) = _
    omega

/-- Settles O49, role by role. -/
theorem rolesSuperviseTheirLines : Obligations.RolesSuperviseTheirLines := by
  refine ⟨fun i s hlive => ⟨fun hlow hsup => ?_, fun hhigh hup hreset => ?_⟩,
    fun i s hlive hunchecked => ⟨fun hsup hdue => ?_, fun o bad hsup hdue hbad => ?_,
      fun u hsup hhigh => ?_, fun hsup hhigh => ?_⟩,
    fun i s hlive hchecked hrec => ⟨fun hsup hdue => ?_, fun hsup hdue hbad => ?_,
      fun u hsup hhigh => ?_, fun hsup hhigh hon hblank => ?_⟩,
    fun i s hlive hchecked hpolicy hsup hdue => ?_⟩
  · rw [exec_watchLineEdge hlive, lineEdge_rise hlow,
      superviseRise_setLine (l := (s.lines.get i).edge true s.tmu.rack s.tmu.uptime) hsup]
    rfl
  · have hline : (s.setLine i ((s.lines.get i).edge false s.tmu.rack s.tmu.uptime)).lines.get i =
        (s.lines.get i).edge false s.tmu.rack s.tmu.uptime := Quad.get_set_self ..
    rw [exec_watchLineEdge hlive, lineEdge_fall hhigh, superviseFall_of_other
      (fun u => by rw [hline]; exact hup u) (by rw [hline]; exact hreset)]
    rfl
  · rw [exec_heartbeatIntervalExpiry hlive hsup hdue,
      raiseLine_of_unchecked (s := s.setLine i _) hunchecked]
    rfl
  · rw [exec_rateWindowExpiry hlive hsup hdue hbad]
    by_cases hbad : bad = true ∧ o = false
    · rw [if_pos hbad, raiseLine_of_unchecked (s := s.setLine i _) hunchecked, if_pos hbad]
      rfl
    · rw [if_neg hbad, if_neg hbad]
      rfl
  · rw [exec_watchLineEdge hlive, lineEdge_fall hhigh,
      superviseFall_of_up (l := (s.lines.get i).edge false s.tmu.rack s.tmu.uptime) hsup,
      raiseLine_of_unchecked (s := s.setLine i _) hunchecked]
    rfl
  · rw [exec_watchLineEdge hlive, lineEdge_fall hhigh,
      superviseFall_of_clear (l := (s.lines.get i).edge false s.tmu.rack s.tmu.uptime) hsup,
      raiseLine_of_unchecked (s := s.setLine i _) hunchecked]
    by_cases hin : s.rcu.boardOn = true ∧ s.rcu.blanking = false
    · rw [if_pos hin, if_pos (by simp [State.supervising, hin])]
      rfl
    · rw [if_neg hin, if_neg (by simpa [State.supervising] using hin)]
      rfl
  · obtain ⟨t, r, ht, hrecorded, hline, hrcu, hsou⟩ := raiseLine_recorded
      (value := (s.cfg.lines.get i).hbMaxMs) (l := { s.lines.get i with
        sup := .heartbeat .hung, timer := none
        episodes := min ((s.lines.get i).episodes + 1) 65535 }) hchecked hrec
      (kind := .hang) rfl nofun
    exact ⟨t, r, (exec_heartbeatIntervalExpiry hlive hsup hdue).trans (congrArg _ ht), hrecorded,
      by rw [hline], hrcu, hsou⟩
  · obtain ⟨t, r, ht, hrecorded, hline, hrcu, hsou⟩ := raiseLine_recorded
      (value := (s.lines.get i).windowCount) (l := { s.lines.get i with
        sup := .rate true true, windowCount := 0, timer := some 1000
        episodes := min ((s.lines.get i).episodes + 1) 65535 }) hchecked hrec
      (kind := .fanRate) rfl nofun
    exact ⟨t, r, (exec_rateWindowExpiry hlive hsup hdue (decide_eq_true hbad).symm).trans
      (congrArg _ ((if_pos ⟨rfl, rfl⟩).trans ht)), hrecorded, by rw [hline], hrcu, hsou⟩
  · obtain ⟨t, r, ht, hrecorded, hline, hrcu, hsou⟩ := raiseLine_recorded
      (value := elapsed s.tmu.uptime u) (l := { s.lines.get i with
        high := false, sup := .powerGood .unseen
        episodes := min ((s.lines.get i).episodes + 1) 65535 }) hchecked hrec
      (kind := .pgDrop) rfl nofun
    rw [exec_watchLineEdge hlive, lineEdge_fall hhigh,
      superviseFall_of_up (l := (s.lines.get i).edge false s.tmu.rack s.tmu.uptime) hsup]
    exact ⟨t, r, congrArg _ ht, hrecorded, by rw [hline], hrcu, hsou⟩
  · obtain ⟨t, r, ht, hrecorded, hline, hrcu, hsou⟩ := raiseLine_recorded
      (value := (s.lines.get i).pulses.toNat) (l := { s.lines.get i with
        high := false, sup := .resetWatch true
        episodes := min ((s.lines.get i).episodes + 1) 65535 }) hchecked hrec
      (kind := .spontaneousReset) rfl nofun
    rw [exec_watchLineEdge hlive, lineEdge_fall hhigh,
      superviseFall_of_clear (l := (s.lines.get i).edge false s.tmu.rack s.tmu.uptime) hsup,
      if_pos (by simp [State.supervising, hon, hblank])]
    exact ⟨t, r, congrArg _ ht, hrecorded, by rw [hline], hrcu, hsou⟩
  · have hactive := active_of_checked hchecked
    obtain ⟨hended, hepisodes, hcount⟩ := hang_stops (i := i)
      (value := (s.cfg.lines.get i).hbMaxMs) (l := { s.lines.get i with
        sup := .heartbeat .hung, timer := none
        episodes := min ((s.lines.get i).episodes + 1) 65535 }) hactive hpolicy
    exact ⟨_, (exec_heartbeatIntervalExpiry hlive hsup hdue).trans
      (congrArg _ (raiseLine_of_checked hchecked)), hended, hepisodes, hcount⟩

/-! ### Groups (R140 to R142) -/

theorem joinOrOpen_opens {r : Record} {s : State} (h : ∀ g ∈ s.fcu.groups, g.record.kind ≠ r.kind) :
    s.joinOrOpen r =
      { s with fcu := { s.fcu with groups := s.fcu.groups ++ [⟨r, s.cfg.coalesceMs⟩] } } := by
  have hnone : ¬(s.fcu.groups.any fun g => decide (g.record.kind = r.kind)) = true := by
    simpa using h
  unfold State.joinOrOpen
  dsimp only
  rw [if_neg hnone]

theorem joinOrOpen_joins {r : Record} {g : Machine.Group} {before after : List Machine.Group}
    {s : State} (hgroups : s.fcu.groups = before ++ g :: after) (hkind : g.record.kind = r.kind)
    (hothers : ∀ x ∈ before ++ after, x.record.kind ≠ r.kind) :
    s.joinOrOpen r = { s with fcu := { s.fcu with
      groups := before ++ { g with record := { g.record with
        points := joinPoints r.points g.record.points } } :: after } } := by
  have hone : (s.fcu.groups.any fun g => decide (g.record.kind = r.kind)) = true := by
    simp [hgroups, hkind]
  have hkeep (gs : List Machine.Group) (h : ∀ x ∈ gs, x.record.kind ≠ r.kind) :
      (gs.map fun g => if g.record.kind = r.kind then
        { g with record := { g.record with points := joinPoints r.points g.record.points } }
        else g) = gs :=
    (List.map_congr_left fun x hx => if_neg (h x hx)).trans (List.map_id _)
  unfold State.joinOrOpen
  dsimp only
  rw [if_pos hone, hgroups, List.map_append, List.map_cons, if_pos hkind,
    hkeep before fun x hx => hothers x (List.mem_append_left _ hx),
    hkeep after fun x hx => hothers x (List.mem_append_right _ hx)]

theorem mem_insertPoint (p n : Nat) (l : List Nat) : n ∈ insertPoint p l ↔ n = p ∨ n ∈ l := by
  induction l with
  | nil => simp [insertPoint]
  | cons q qs ih =>
    unfold insertPoint
    split
    · exact List.mem_cons
    · split
      · next h =>
        subst h
        simp
      · rw [List.mem_cons, ih, List.mem_cons, or_left_comm]

theorem insertPoint_pairwise (p : Nat) {l : List Nat} (h : l.Pairwise (· < ·)) :
    (insertPoint p l).Pairwise (· < ·) := by
  induction l with
  | nil => exact List.pairwise_singleton _ p
  | cons q qs ih =>
    obtain ⟨hq, hqs⟩ := List.pairwise_cons.mp h
    unfold insertPoint
    split
    · next hlt =>
      exact List.pairwise_cons.mpr ⟨fun n hn => (List.mem_cons.mp hn).elim (fun e => e ▸ hlt)
        fun hn => hlt.trans (hq n hn), h⟩
    · split
      · exact h
      · next hlt hne =>
        refine List.pairwise_cons.mpr ⟨fun n hn => ?_, ih hqs⟩
        rcases (mem_insertPoint p n qs).mp hn with rfl | hn
        · omega
        · exact hq n hn

/-- Points that join a list keep its order and bring each of them once (R141). -/
theorem joinPoints_spec (added : List Nat) {into : List Nat} (h : into.Pairwise (· < ·)) :
    (joinPoints added into).Pairwise (· < ·) ∧
      ∀ n, n ∈ joinPoints added into ↔ n ∈ added ∨ n ∈ into := by
  induction added generalizing into with
  | nil => exact ⟨h, fun n => by simp [joinPoints]⟩
  | cons p ps ih =>
    obtain ⟨hpairwise, hmem⟩ := ih (insertPoint_pairwise p h)
    refine ⟨hpairwise, fun n => (hmem n).trans ?_⟩
    rw [mem_insertPoint, List.mem_cons, or_left_comm, or_assoc]

/-- The raise of a checked line under CONTINUE is captured and does nothing else (R26, R138). -/
theorem raiseLine_captured {i : Fin 4} {kind : FaultKind} {value : Int} {s : State}
    (hchecked : s.checked (12 + i.val) = true) (hpolicy : s.policyStep.policy = .goOn)
    (hforced : kind.forced = none) (hkind : kind ≠ .notReached) :
    s.raiseLine i kind value = s.captureRaise (s.formRecord s.asc kind [12 + i.val] value) := by
  have hgoOn : s.goOnAction kind = s := if_neg fun hk => hkind hk.1
  rw [raiseLine_of_checked hchecked]
  unfold State.raise State.raiseSeeing
  rw [if_pos (active_of_checked hchecked)]
  simp only [State.policyOf, hforced, Option.getD_none, hpolicy, hgoOn]

theorem captureRaise_of_coalescing {r : Record} {s : State} (h : 0 < s.cfg.coalesceMs) :
    s.captureRaise r = s.joinOrOpen r := if_neg (Nat.ne_of_gt h)

/-- A record that finds room and is not the last that max_faults allows is all that its write brings
(R142, R147). -/
theorem writeInRun_stored {r : Record} {s : State} (hroom : s.fcu.log.length < 64)
    (hallowed : s.fcu.recordCount + 1 ≠ s.cfg.maxFaults) : s.writeInRun r = { s with
      fcu := { s.fcu with
        log := s.fcu.log ++ [{ r with index := s.fcu.log.length }]
        recordCount := s.fcu.recordCount + 1 }
      bus := s.bus.queueNotice (.fault { r with index := s.fcu.log.length }) } := by
  have hmode : (if s.fcu.recordCount + 1 = s.cfg.maxFaults ∧ s.fcu.mode = .completing then
      ClosingMode.ending else s.fcu.mode) = s.fcu.mode := if_neg fun h => hallowed h.1
  unfold State.writeInRun
  dsimp only
  rw [writeRecord_stored hroom]
  refine (if_neg hallowed).trans ?_
  dsimp only
  rw [hmode]

/-- The record that reaches max_faults ends the run, the open groups written behind it (R147). -/
theorem writeInRun_limit {r : Record} {s : State}
    (h : s.fcu.recordCount + 1 = s.cfg.maxFaults) :
    RunEnded .fail .faultLimit s (s.writeInRun r) ∧
      Wrote (r :: s.openRecords) s (s.writeInRun r) := by
  obtain ⟨hcount, hgroups, -⟩ := writeRecord_counts r s
  have hone := writeRecord_closed r s
  have hend : s.writeInRun r = (s.writeRecord r).faultLimitEnd := by
    unfold State.writeInRun
    dsimp only
    rw [if_pos (by rw [hcount, hone.only.cfg, h])]
  have hrest := finalClosing_closed .ending (s.writeRecord r)
  rw [State.openRecords, hgroups] at hrest
  have hwrote := runEnd_wrote hrest .fail .faultLimit
  have hended := hrest.runEnd .fail .faultLimit
  obtain ⟨f, n, d, hlog⟩ := hone.only
  rw [hend]
  refine ⟨hended.of_place ?_ ?_ ?_, hone.wrote.trans hwrote⟩
  · rw [hended.position.1, hended.position.2.1, hended.position.2.2, hlog]
    exact ⟨rfl, rfl, rfl⟩
  · rw [hlog]
  · rw [hlog]

/-- Settles O55: the lists by induction, a captured HANG by `raiseLine_captured`, and the writes by
`writeInRun_stored` and `writeInRun_limit`. -/
theorem groupsCollectPointsAndClose : Obligations.GroupsCollectPointsAndClose := by
  refine ⟨fun r s h => by rw [joinOrOpen_opens h],
    fun r g before after s hgroups hkind hothers => by rw [joinOrOpen_joins hgroups hkind hothers],
    fun added into h => joinPoints_spec added h,
    fun i s hlive hchecked hpolicy hcoalesce hsup hdue => ?_,
    fun g gs s hlive hgroups => ⟨fun hearly => ?_, fun hdue hroom hallowed hnotices => ?_,
      fun hdue hroom hlimit => ?_⟩,
    fun i s hlive hchecked hpolicy hcoalesce hlimit hsup hdue => ?_⟩
  · have hexec := exec_heartbeatIntervalExpiry hlive hsup hdue
    generalize ({ s.lines.get i with
      sup := .heartbeat .hung, timer := none
      episodes := min ((s.lines.get i).episodes + 1) 65535 } : Line) = l at hexec
    rw [raiseLine_captured (s := s.setLine i l) (kind := .hang) hchecked hpolicy rfl nofun,
      captureRaise_of_coalescing (s := s.setLine i l) hcoalesce] at hexec
    obtain ⟨hkind, hpoints, hvalue, htimes, hposition, -⟩ := formRecord_raised (s.setLine i l).asc .hang
      [12 + i.val] (s.cfg.lines.get i).hbMaxMs (s.setLine i l)
    generalize State.formRecord (s.setLine i l).asc .hang [12 + i.val] (s.cfg.lines.get i).hbMaxMs
      (s.setLine i l) = r at *
    refine ⟨fun hnone => ?_, fun g before after hgroups hk hothers => ?_⟩
    · rw [joinOrOpen_opens (s := s.setLine i l) fun g hg => hkind ▸ hnone g hg] at hexec
      exact ⟨_, r, hexec, rfl, hkind, hpoints, hvalue,
        ⟨htimes.1, htimes.2, hposition.1, hposition.2.1, hposition.2.2⟩, rfl, rfl, rfl⟩
    · rw [joinOrOpen_joins (s := s.setLine i l) hgroups (hk.trans hkind.symm)
        fun x hx => hkind ▸ hothers x hx, hpoints] at hexec
      exact ⟨_, hexec, rfl, rfl, rfl, rfl⟩
  · refine (live_next hlive).trans (congrArg _ ?_)
    simp only [groupExpires, hgroups]
    exact if_neg (Nat.ne_of_gt hearly)
  · refine (live_next hlive).trans (congrArg _ ?_)
    simp only [groupExpires, hgroups]
    rw [if_pos hdue, writeInRun_stored (s := { s with fcu := { s.fcu with groups := gs } }) hroom
      hallowed, queueNotice_room hnotices]
  · obtain ⟨hended, hwrote⟩ := writeInRun_limit (r := g.record)
      (s := { s with fcu := { s.fcu with groups := gs } }) hlimit
    have hexec : exec .closeTimerExpiry s =
        .next (State.writeInRun g.record { s with fcu := { s.fcu with groups := gs } }) := by
      refine (live_next hlive).trans (congrArg _ ?_)
      simp only [groupExpires, hgroups]
      exact if_pos hdue
    refine ⟨_, hexec, { hended with }, ?_⟩
    rw [hwrote.count, List.length_cons, openRecords_length]
    show s.fcu.recordCount + (gs.length + 1) = _
    omega
  · have hexec := exec_heartbeatIntervalExpiry hlive hsup hdue
    generalize ({ s.lines.get i with
      sup := .heartbeat .hung, timer := none
      episodes := min ((s.lines.get i).episodes + 1) 65535 } : Line) = l at hexec
    have hraised := formRecord_raised (s.setLine i l).asc .hang [12 + i.val]
      (s.cfg.lines.get i).hbMaxMs (s.setLine i l)
    rw [raiseLine_captured (s := s.setLine i l) (kind := .hang) hchecked hpolicy rfl nofun, State.captureRaise,
      if_pos (show (s.setLine i l).cfg.coalesceMs = 0 from hcoalesce)] at hexec
    generalize State.formRecord (s.setLine i l).asc .hang [12 + i.val] (s.cfg.lines.get i).hbMaxMs
      (s.setLine i l) = r at *
    obtain ⟨hended, hwrote⟩ := writeInRun_limit (r := r) (s := s.setLine i l) hlimit
    refine ⟨_, r, hexec, { hended with }, { hraised with }, ?_⟩
    rw [State.closingRecords, if_pos hcoalesce]
    exact { hwrote with }

end Sys2Proof.Machine
end

section
/-! SUPPORT. The fixture comes and goes (O52), the ranges of the values that a load hands on (O54), and
the two ends of a load (O53). -/

namespace Sys2Proof.Machine

/-! ### The fixture (R177, R182) -/

theorem exec_fixturePresentChange {fixture : Option (List Byte)} {s : State} (h : s.inReset = false) :
    exec (.fixturePresentChange fixture) s = .next (fixtureChanges fixture s) :=
  if_neg (h ▸ Bool.false_ne_true)

/-- A removal raises FIXTURE_REMOVED in an active run, and raises nothing otherwise (R182). -/
theorem removeFixture_of_active {s : State} (h : s.rcu.run.active = true) :
    s.removeFixture = (s.raise .fixtureRemoved [] s.sou.level0).unloadFixture := by
  unfold State.removeFixture
  rw [if_pos h]

theorem removeFixture_of_inactive {s : State} (h : s.rcu.run.active = false) :
    s.removeFixture = s.unloadFixture := by
  unfold State.removeFixture
  rw [if_neg (h ▸ Bool.false_ne_true)]

/-- The lines of a fixture that went are UNUSED and keep their counts (R121, R182). -/
theorem unloadFixture_line (i : Fin 4) (s : State) :
    (s.unloadFixture.lines.get i).sup = .unused ∧ (s.unloadFixture.lines.get i).timer = none ∧
      (s.unloadFixture.lines.get i).pulses = (s.lines.get i).pulses := by
  have h : s.unloadFixture.lines.get i = (s.lines.get i).unload := Quad.get_map ..
  rw [h]
  exact ⟨rfl, rfl, rfl⟩

/-- Settles O52: the removal from an active run by `forcedRaise_ends`. -/
theorem fixtureComesAndGoes : Obligations.FixtureComesAndGoes := by
  intro memory s hlive
  refine ⟨fun hf => ?_, fun n hf => ?_, fun hf => ⟨fun hrun hstatus => ?_, fun hidle hended => ?_⟩,
    fun hf => ?_⟩
  · simp only [exec_fixturePresentChange hlive, fixtureChanges, hf]
  · simp only [exec_fixturePresentChange hlive, fixtureChanges, hf]
  · refine ⟨State.startLoad { s with cfl := { s.cfl with fixture := .present } }, ?_, rfl,
      fun i => Oct.get_map .., rfl, rfl, rfl, rfl, rfl, rfl, rfl⟩
    exact (live_next hlive).trans (congrArg _ ((if_pos hf).trans (tryLoad_of_present
      (s := { s with cfl := { s.cfl with fixture := .present } }) rfl hstatus hrun)))
  · exact (live_next hlive).trans (congrArg _ ((if_pos hf).trans
      (if_neg fun h => h.2.2.elim hidle hended)))
  · have hexec : exec (.fixturePresentChange none) s = .next s.removeFixture := by
      simp only [exec_fixturePresentChange hlive, fixtureChanges, hf]
    rw [hexec]
    cases hactive : s.rcu.run.active with
    | false =>
      rw [removeFixture_of_inactive hactive]
      exact ⟨_, rfl, rfl, rfl, fun i => unloadFixture_line i s, nofun, fun _ => ⟨rfl, rfl, rfl, rfl⟩⟩
    | true =>
      rw [removeFixture_of_active hactive]
      have hedges := raise_sameEdges .fixtureRemoved [] s.sou.level0 s
      obtain ⟨hended, hasc, hcfl, hsou, hcount, -⟩ := forcedRaise_ends (kind := .fixtureRemoved)
        (value := s.sou.level0) (s := s) rfl (raiseSeeing_aborts hactive rfl)
      obtain ⟨h1, -, h2, -⟩ := (runEnd_safe s.cfg .fixtureRemoved s.sou).1 (.inl rfl)
      refine ⟨_, rfl, ?_, ?_, fun i => ?_, fun _ => ⟨{ hended with }, ?_, ?_, hcount⟩, nofun⟩
      · exact congrArg (fun c : Cfl => { c with
          status := .absent, reason := .none, fixture := .absent, loadTimer := .none
          modelCode := 0, serial := 0, memory := [], read := 0 }) hcfl
      · exact congrArg (fun a : Asc => { a with scanner := .stopped }) hasc
      · obtain ⟨hsup, htimer, hpulses⟩ := unloadFixture_line i (s.raise .fixtureRemoved [] s.sou.level0)
        exact ⟨hsup, htimer, hpulses.trans (congrArg (·.2.1) (hedges i))⟩
      · exact (congrArg Sou.level1 hsou).trans h1
      · exact (congrArg Sou.level2 hsou).trans h2

/-! ### Corrected values (R3, R181) -/

theorem clampNat_le {lo hi : Nat} (h : lo ≤ hi) (n : Nat) : clampNat lo hi n ≤ hi :=
  max_le h (Nat.min_le_right n hi)

theorem le_clampNat (lo hi n : Nat) : lo ≤ clampNat lo hi n := le_max_left ..

theorem orDefault_mem {dflt top : Nat} (hdflt : 1 ≤ dflt) (htop : dflt ≤ top) (n : Nat) :
    1 ≤ orDefault dflt top n ∧ orDefault dflt top n ≤ top := by
  unfold orDefault
  split <;> omega

theorem maxFaultsOf_mem (n : Nat) : 1 ≤ maxFaultsOf n ∧ maxFaultsOf n ≤ 64 := by
  unfold maxFaultsOf
  split <;> omega

theorem pressOf_mem (n : Nat) : pressOf n = 0 ∨ 50 ≤ pressOf n ∧ pressOf n ≤ 5000 := by
  unfold pressOf
  split
  · exact .inl rfl
  · exact .inr ⟨le_clampNat .., clampNat_le (by omega) _⟩

theorem signedAt_mem (b : List Byte) (o : Nat) : -32768 ≤ signedAt b o ∧ signedAt b o ≤ 32767 := by
  have hlow := BitVec.le_toInt (BitVec.ofNat 16 (wordAt b o))
  have htop := BitVec.toInt_lt (x := BitVec.ofNat 16 (wordAt b o))
  unfold signedAt
  omega

/-- A set-point lies within the main maximum (R4). -/
theorem setPoint_le (c : LoadedConfig) (t : StepRec) : setPoint c t ≤ c.mainMaxMv := by
  unfold setPoint
  omega

/-- A point's gain and offset are in range as stored, or take their defaults (R78). -/
theorem pointOf_calibration (b : List Byte) (o : Nat) :
    29491 ≤ (pointOf b o).gain ∧ (pointOf b o).gain ≤ 36045 ∧
      -500 ≤ (pointOf b o).offset ∧ (pointOf b o).offset ≤ 500 := by
  cases hgood : calibrationGood (wordAt b (o + 2)) (signedAt b (o + 4)) with
  | true => simpa [pointOf, hgood] using of_decide_eq_true hgood
  | false => simp [pointOf, hgood]

theorem pointOf_nominal_le (b : List Byte) (o : Nat) : (pointOf b o).nominal ≤ 32767 :=
  Int.toNat_le.mpr (signedAt_mem b _).2

theorem profileOf_override_le {b : List Byte} {o v : Nat} {i : Fin 8}
    (h : (profileOf b o).overrides.get i = some v) : v ≤ 5000 := by
  simp only [profileOf, Oct.get_ofFn] at h
  split at h
  · exact Option.some.inj h ▸ clampNat_le (Nat.zero_le _) _
  · cases h

theorem errorClass_threshold (b : List Byte) (k : ErrorKind) :
    1 ≤ ((configOf b).errorClass k).threshold ∧ ((configOf b).errorClass k).threshold ≤ 255 := by
  cases k <;> exact ⟨le_clampNat .., clampNat_le (by omega) _⟩

/-- Settles O54, table by table. -/
theorem loadedValuesLieInTheirRanges : Obligations.LoadedValuesLieInTheirRanges := by
  intro b
  have hcount := orDefault_mem (dflt := 40) (top := 255) (by omega) (by omega) (byteAt b 17)
  have hscan := orDefault_mem (dflt := 2) (top := 200) (by omega) (by omega) (byteAt b 10)
  have hfaults := maxFaultsOf_mem (byteAt b 18)
  refine ⟨⟨by simp [configOf], clampNat_le (by omega) _, Nat.min_le_right .., clampNat_le (by omega) _,
      clampNat_le (Nat.zero_le _) _, clampNat_le (by omega) _, hcount.1, hcount.2, hscan.1, hscan.2,
      hfaults.1, hfaults.2, Nat.min_le_right .., by simp [configOf]⟩,
    fun t ht => ?_, fun i => ?_, fun i j v h => ?_, errorClass_threshold b, fun i => ?_⟩
  · have hset := setPoint_le (configOf b) t
    obtain ⟨i, -, rfl⟩ := List.mem_map.mp ht
    have htarget := signedAt_mem b (stepOffset i + 28)
    exact ⟨le_max_left .., max_le (by omega) (Int.min_le_right ..), clampNat_le (by omega) _,
      clampNat_le (by omega) _, clampNat_le (by omega) _, le_clampNat .., clampNat_le (by omega) _,
      le_clampNat .., clampNat_le (by omega) _, le_clampNat .., clampNat_le (by omega) _,
      le_clampNat .., clampNat_le (by omega) _, clampNat_le (by omega) _, clampNat_le (by omega) _,
      pressOf_mem _, le_clampNat .., clampNat_le (by omega) _, htarget.1, htarget.2, le_clampNat ..,
      clampNat_le (by omega) _, hset⟩
  · have hpoint : (configOf b).points.get i = pointOf b (pointOffset i.val) := Oct.get_ofFn ..
    rw [hpoint]
    exact ⟨pointOf_calibration b _, pointOf_nominal_le b _, clampNat_le (by omega) _, le_clampNat ..,
      clampNat_le (by omega) _⟩
  · have hprofile : (configOf b).profiles.get i = profileOf b (profileOffset i.val) := Quad.get_ofFn ..
    exact profileOf_override_le (hprofile ▸ h)
  · have hline : (configOf b).lines.get i = lineOf b (lineOffset i.val) := Quad.get_ofFn ..
    rw [hline]
    exact ⟨le_clampNat .., clampNat_le (by omega) _, Nat.min_le_right .., clampNat_le (by omega) _,
      le_clampNat .., clampNat_le (by omega) _⟩

/-! ### The end of a load (R178, R182) -/

theorem headerFault_eq {b : List Byte} (h : 4 ≤ b.length) :
    headerFault b = if wordAt b 2 < 64 ∨ 2048 < wordAt b 2 then some .length
      else if byteAt b 0 ≠ 1 then some .version else none := if_neg (by omega)

theorem headerFault_eq_none_iff {b : List Byte} (h : 4 ≤ b.length) :
    headerFault b = none ↔ 64 ≤ wordAt b 2 ∧ wordAt b 2 ≤ 2048 ∧ byteAt b 0 = 1 := by
  rw [headerFault_eq h]
  by_cases hlength : wordAt b 2 < 64 ∨ 2048 < wordAt b 2
  · rw [if_pos hlength]
    exact ⟨nofun, fun h => by omega⟩
  · rw [if_neg hlength]
    by_cases hversion : byteAt b 0 = 1
    · rw [if_neg (not_not.mpr hversion)]
      exact iff_of_true rfl ⟨by omega, by omega, hversion⟩
    · rw [if_pos hversion]
      exact iff_of_false nofun fun h => hversion h.2.2

/-- The model code and the serial are taken where ten bytes have been read whose first four pass
(R178). -/
theorem takeIds_eq {b : List Byte} {model : BitVec 16} {serial : BitVec 32} {s : State}
    (h : (model, serial) =
      if 10 ≤ b.length ∧ 64 ≤ wordAt b 2 ∧ wordAt b 2 ≤ 2048 ∧ byteAt b 0 = 1 then
        (BitVec.ofNat 16 (wordAt b 4), BitVec.ofNat 32 (longAt b 6))
      else (s.cfl.modelCode, s.cfl.serial)) :
    s.takeIds b = { s with cfl := { s.cfl with modelCode := model, serial := serial } } := by
  have hiff : (10 ≤ b.length ∧ headerFault b = none) ↔
      10 ≤ b.length ∧ 64 ≤ wordAt b 2 ∧ wordAt b 2 ≤ 2048 ∧ byteAt b 0 = 1 :=
    and_congr_right fun hlength => headerFault_eq_none_iff (by omega)
  unfold State.takeIds
  by_cases hids : 10 ≤ b.length ∧ 64 ≤ wordAt b 2 ∧ wordAt b 2 ≤ 2048 ∧ byteAt b 0 = 1
  · rw [if_pos hids, Prod.mk.injEq] at h
    rw [if_pos (hiff.mpr hids), h.1, h.2]
  · rw [if_neg hids, Prod.mk.injEq] at h
    rw [if_neg (mt hiff.mp hids), h.1, h.2]

/-- A load that ends before its last byte has the reason of the header test that failed (R178). -/
theorem stopReason_eq (b : List Byte) : (headerFault b).getD .noResponse =
    if b.length < 4 then .noResponse
    else if wordAt b 2 < 64 ∨ 2048 < wordAt b 2 then .length
    else if byteAt b 0 ≠ 1 then .version else .noResponse := by
  by_cases hshort : b.length < 4
  · simp [headerFault, hshort]
  · rw [headerFault_eq (Nat.le_of_not_lt hshort), if_neg hshort]
    split
    · rfl
    · split <;> rfl

/-- The first scan of a load (R73): the lowest enabled point, or its completion at once with P at 0. -/
theorem beginScan_loaded (c : LoadedConfig) (next : Uptime) (s : State) : ∃ scanner power samples,
    (s.loaded c).beginScan next = { s.loaded c with
      asc := { (s.loaded c).asc with scanner := scanner, power := power }
      bgu := { s.bgu with overdrawSamples := samples } } ∧
    (∀ i : Fin 8, (c.points.get i).range ≠ .off → (∀ j, j < i → (c.points.get j).range = .off) →
      scanner = .scanning next i ∧ power = s.asc.power ∧ samples = s.bgu.overdrawSamples) ∧
    ((∀ i : Fin 8, (c.points.get i).range = .off) →
      scanner = .between next ∧ power = 0 ∧ samples = 0) := by
  have hpoints : (s.loaded c).cfg.points = c.points := rfl
  by_cases hoff : ∀ i : Fin 8, (c.points.get i).range = .off
  · have hnone : nextEnabled c.points 0 = none := nextEnabled_eq_none fun i _ => hoff i
    have hzero (i : Fin 8) : ((s.loaded c).asc.points.get i).y = 0 := by
      simp [State.loaded, PointValue.load, hoff, PointValue.reset]
    have hpower : boardPower ((s.loaded c).asc.points.get 0).y ((s.loaded c).asc.points.get 1).y = 0 := by
      rw [hzero, hzero]
      rfl
    refine ⟨.between next, 0, 0, ?_, fun i hi _ => absurd (hoff i) hi, fun _ => ⟨rfl, rfl, rfl⟩⟩
    unfold State.beginScan
    rw [hpoints, hnone]
    dsimp only
    unfold State.completeScan
    rw [hpower]
    exact judgeOverdraw_within (s := { s.loaded c with
      asc := { (s.loaded c).asc with scanner := .between next, power := 0 } }) (.inr (by simp))
  · cases hfirst : nextEnabled c.points 0 with
    | none =>
      refine absurd (fun i => ?_) hoff
      simpa using List.find?_eq_none.mp hfirst i (by fin_cases i <;> simp)
    | some j =>
      refine ⟨.scanning next j, s.asc.power, s.bgu.overdrawSamples, ?_, fun i hi hbefore => ?_,
        fun h => absurd h hoff⟩
      · unfold State.beginScan
        rw [hpoints, hfirst]
        rfl
      · have hsome := nextEnabled_eq_some (Nat.zero_le _) hi fun n _ hn => hbefore n hn
        exact ⟨by rw [Option.some.inj (hfirst.symm.trans hsome)], rfl, rfl⟩

/-! ### The tests of a block (R178 to R180) -/

theorem roleCount_le_one_iff (b : List Byte) (code : Nat) : roleCount b code ≤ 1 ↔
    ∀ i j, i < 4 → j < 4 → i ≠ j → byteAt b (119 + 9 * i) = code → byteAt b (119 + 9 * j) ≠ code := by
  have hcard : roleCount b code =
      ((Finset.range 4).filter fun i => byteAt b (119 + 9 * i) = code).card := rfl
  rw [hcard, Finset.card_le_one]
  simp only [Finset.mem_filter, Finset.mem_range]
  exact ⟨fun h i j hi hj hne hci hcj => hne (h i ⟨hi, hci⟩ j ⟨hj, hcj⟩),
    fun h i hi j hj => by_contra fun hne => h i j hi.1 hj.1 hne hi.2 hj.2⟩

theorem stepStructureGood_iff (b : List Byte) (i : Nat) : stepStructureGood b (stepOffset i) = true ↔
    byteAt b (245 + 34 * i) ≤ 2 ∧ byteAt b (246 + 34 * i) ≤ 2 ∧ byteAt b (254 + 34 * i) ≤ 3 ∧
      (byteAt b (245 + 34 * i) ≠ 1 → byteAt b (271 + 34 * i) ≠ 0 → byteAt b (272 + 34 * i) ≤ 7) := by
  have hpolicy : stepOffset i + 1 = 246 + 34 * i := Nat.add_right_comm ..
  have hprofile : stepOffset i + 9 = 254 + 34 * i := Nat.add_right_comm ..
  have hpresent : stepOffset i + 26 = 271 + 34 * i := Nat.add_right_comm ..
  have hpoint : stepOffset i + 27 = 272 + 34 * i := Nat.add_right_comm ..
  have hkind : stepOffset i = 245 + 34 * i := rfl
  simp only [stepStructureGood, hpolicy, hprofile, hpresent, hpoint, Bool.and_eq_true, Bool.or_eq_true,
    decide_eq_true_eq, and_assoc]
  rw [hkind]
  refine and_congr_right fun _ => and_congr_right fun _ => and_congr_right fun _ => ?_
  omega

theorem structureGood_iff (b : List Byte) : structureGood b = true ↔
    1 ≤ byteAt b 1 ∧ byteAt b 1 ≤ 32 ∧ wordAt b 2 = 247 + 34 * byteAt b 1 ∧
      (∀ i, i < byteAt b 1 → byteAt b (245 + 34 * i) ≤ 2 ∧ byteAt b (246 + 34 * i) ≤ 2 ∧
        byteAt b (254 + 34 * i) ≤ 3 ∧ (byteAt b (245 + 34 * i) ≠ 1 →
          byteAt b (271 + 34 * i) ≠ 0 → byteAt b (272 + 34 * i) ≤ 7)) ∧
      (∀ i, i < 8 → byteAt b (31 + 11 * i) ≤ 6) ∧ (∀ i, i < 4 → byteAt b (119 + 9 * i) ≤ 4) ∧
      (∀ i j, i < 4 → j < 4 → i ≠ j → byteAt b (119 + 9 * i) = 3 → byteAt b (119 + 9 * j) ≠ 3) ∧
      (∀ i j, i < 4 → j < 4 → i ≠ j → byteAt b (119 + 9 * i) = 1 → byteAt b (119 + 9 * j) ≠ 1) := by
  simp only [structureGood, Bool.and_eq_true, decide_eq_true_eq, List.all_eq_true, List.mem_range,
    stepStructureGood_iff, roleCount_le_one_iff, and_assoc]
  exact Iff.rfl

/-- The tests of a block in their order (R178 to R180). -/
theorem blockFault_eq {b : List Byte} (h : 4 ≤ b.length) : blockFault b =
    if wordAt b 2 < 64 ∨ 2048 < wordAt b 2 then some .length
    else if byteAt b 0 ≠ 1 then some .version
    else if b.length < wordAt b 2 then some .noResponse
    else if (crc16 (b.take (wordAt b 2 - 2))).toNat ≠ wordAt b (wordAt b 2 - 2) then some .checksum
    else if structureGood b = false then some .badStructure else none := by
  have hcheck : blockCheckGood b = false ↔
      (crc16 (b.take (wordAt b 2 - 2))).toNat ≠ wordAt b (wordAt b 2 - 2) := decide_eq_false_iff_not
  unfold blockFault
  rw [if_neg (by omega), headerFault_eq h]
  by_cases hlength : wordAt b 2 < 64 ∨ 2048 < wordAt b 2
  · rw [if_pos hlength, if_pos hlength]
  · rw [if_neg hlength, if_neg hlength]
    by_cases hversion : byteAt b 0 ≠ 1
    · rw [if_pos hversion, if_pos hversion]
    · rw [if_neg hversion, if_neg hversion]
      simp only [blockLength, hcheck]

/-- Settles O53: the end of a load by `takeIds_eq` and `beginScan_loaded`, its tests by
`blockFault_eq` and `structureGood_iff`. -/
theorem loadsEndValidOrInvalid : Obligations.LoadsEndValidOrInvalid := by
  refine ⟨fun answered b model serial s hlive hload hb hids => ?_, fun b h4 => ⟨fun hlength => ?_,
    fun hlo hhi => ⟨fun hversion => ?_, fun hversion hshort => ?_, fun hversion hlong =>
      ⟨fun hcheck => ?_, fun good hgood hcheck => ⟨fun h => ?_, fun h => ?_⟩⟩⟩⟩⟩
  · have htaken := takeIds_eq hids
    have hread : s.cfl.bytesRead answered = b := hb.symm
    have hexec : exec (.loadCompletion answered) s = .next (match blockFault b with
        | some r => (s.takeIds b).failLoad r
        | none => (s.takeIds b).completeLoad (configOf b)) := by
      refine (live_next hlive).trans (congrArg _ ?_)
      rw [← hread]
      exact if_pos hload
    have hstops : loadStops b s = { s with
        cfl := { s.cfl with
          status := .invalid, loadTimer := none, modelCode := model, serial := serial, read := 0
          reason := if b.length < 4 then .noResponse
            else if wordAt b 2 < 64 ∨ 2048 < wordAt b 2 then .length
            else if byteAt b 0 ≠ 1 then .version else .noResponse } } := by
      rw [loadStops, htaken, stopReason_eq]
      rfl
    refine ⟨fun hgood => ?_, fun r hfault => ?_, fun c hc => ?_, fun htimer => ?_⟩
    · rw [hgood, htaken, completeLoad_eq] at hexec
      obtain ⟨scanner, power, samples, hscan, hon, hoff⟩ := beginScan_loaded (configOf b)
        (s.tmu.uptime + BitVec.ofNat 48 (scanPeriod (configOf b)))
        { s with cfl := { s.cfl with modelCode := model, serial := serial } }
      refine ⟨_, hexec.trans (congrArg _ hscan), rfl, fun i hi hbefore => ?_, fun h => ?_, fun n => ?_,
        fun n => ?_, fun n => ?_, rfl, rfl, rfl, rfl, rfl, rfl, rfl⟩
      · obtain ⟨hscanner, hpower, hsamples⟩ := hon i hi hbefore
        exact ⟨hscanner, hpower, by rw [hsamples]⟩
      · obtain ⟨hscanner, hpower, hsamples⟩ := hoff h
        exact ⟨hscanner, hpower, by rw [hsamples]⟩
      · exact Oct.get_mapIdx ..
      · refine (congrArg Line.sup (Quad.get_mapIdx ..)).trans ?_
        show Role.first _ = _
        cases ((configOf b).lines.get n).role <;> rfl
      · simp only [State.loaded, Quad.get_mapIdx, Line.load, and_self]
    · rw [hfault, htaken] at hexec
      exact hexec
    · rcases hc with rfl | ⟨rfl, hdue⟩
      · refine (live_next hlive).trans (congrArg _ (Eq.trans ?_ hstops))
        rw [← hread]
        exact if_pos hload
      · refine (live_next hlive).trans (congrArg _ (Eq.trans ?_ hstops))
        rw [← hread]
        exact if_pos ⟨hload, by rw [hdue]; rfl⟩
    · exact (live_next hlive).trans (congrArg _ (if_neg fun h => htimer (of_decide_eq_true h.2)))
  · rw [blockFault_eq h4, if_pos hlength]
  · rw [blockFault_eq h4, if_neg (by omega), if_pos hversion]
  · rw [blockFault_eq h4, if_neg (by omega), if_neg (by omega), if_pos hshort]
  · rw [blockFault_eq h4, if_neg (by omega), if_neg (by omega), if_neg (by omega), if_pos hcheck]
  · rw [blockFault_eq h4, if_neg (by omega), if_neg (by omega), if_neg (by omega),
      if_neg (not_not.mpr hcheck), (structureGood_iff b).mpr (hgood.mp h), if_neg nofun]
  · rw [blockFault_eq h4, if_neg (by omega), if_neg (by omega), if_neg (by omega),
      if_neg (not_not.mpr hcheck), if_pos]
    exact Bool.eq_false_iff.mpr fun hs => h (hgood.mpr ((structureGood_iff b).mp hs))

end Sys2Proof.Machine
end

section
/-! SUPPORT. Arrivals (R10 to R12, R15, R16, R18, R66): what an arrival leaves, case by case, and the tick
and its landing (O29, O30). -/

namespace Sys2Proof.Machine

/-! ### What a state's plan and lines say to the arrival -/

theorem theStep_congr {s t : State} (hcfl : t.cfl = s.cfl) (hstep : t.rcu.step = s.rcu.step) :
    t.theStep = s.theStep := by
  simp only [State.theStep, State.stepAt, State.cfg, hcfl, hstep]

/-- The role POWER_GOOD shows in a line's supervision (R121). -/
def Supervision.isPowerGood : Supervision → Bool
  | .powerGood _ => true
  | _ => false

theorem powerGoodLine_eq (s : State) : s.powerGoodLine =
    if (s.lines.get 0).sup.isPowerGood then some 0 else if (s.lines.get 1).sup.isPowerGood then some 1
    else if (s.lines.get 2).sup.isPowerGood then some 2
    else if (s.lines.get 3).sup.isPowerGood then some 3 else none := rfl

theorem powerGoodLine_congr {s t : State}
    (h : ∀ i, (t.lines.get i).sup.isPowerGood = (s.lines.get i).sup.isPowerGood) :
    t.powerGoodLine = s.powerGoodLine := by
  simp only [powerGoodLine_eq, h]

/-- What an arrival reads of a line: its level, its last rise and its role. -/
def Line.reading (l : Line) : Bool × Option Uptime × Bool := (l.high, l.riseUptime, l.sup.isPowerGood)

theorem sync_reading (on force : Bool) (hb : Nat) (l : Line) :
    (l.sync on force hb).reading = l.reading := by
  unfold Line.sync Line.reading
  (repeat' split) <;> simp_all [Supervision.isPowerGood]

theorem refresh_reading (s : State) (i : Fin 4) :
    (s.refresh.lines.get i).reading = (s.lines.get i).reading :=
  (congrArg Line.reading (Quad.get_mapIdx ..)).trans (sync_reading ..)

/-! ### The arrival up to its power-on sequence -/

theorem commitPending_of_none {s : State} (h : s.bgu.pendingLower = none) : s.commitPending = s := by
  simp only [State.commitPending, h]

theorem commitPending_of_some {w : Nat} {s : State} (h : s.bgu.pendingLower = some w) :
    s.commitPending = { s with
      bgu := { s.bgu with committed := w, pendingLower := none, overdrawSamples := 0 }
      bus := s.bus.queueBudget .commit } := by
  simp only [State.commitPending, h]
  rfl

/-- A lower claim that stands pending is committed, and nothing else changes (R66). -/
structure Lowered (s t : State) : Prop where
  rest : t = { s with bgu := t.bgu, bus := t.bus }
  kept : s.bgu.pendingLower = none → t.bgu = s.bgu ∧ t.bus = s.bus
  lowered : ∀ w, s.bgu.pendingLower = some w →
    t.bgu = { s.bgu with committed := w, pendingLower := none, overdrawSamples := 0 } ∧
    (s.bus.attempt = none → t.bus = { s.bus with budget := some ⟨.commit, 0⟩ })
  outbox : t.bus = { s.bus with budget := t.bus.budget, budgetNext := t.bus.budgetNext }

theorem commitPending_lowered (s : State) : Lowered s s.commitPending := by
  cases h : s.bgu.pendingLower with
  | none =>
    rw [commitPending_of_none h]
    exact ⟨rfl, fun _ => ⟨rfl, rfl⟩, fun w hw => absurd (h.symm.trans hw) nofun, rfl⟩
  | some w =>
    rw [commitPending_of_some h]
    refine ⟨rfl, fun hn => absurd (h.symm.trans hn) nofun, fun w' hw => ?_, ?_⟩
    · obtain rfl := Option.some.inj (h.symm.trans hw)
      exact ⟨rfl, fun hidle => queueBudget_idle _ _ hidle⟩
    · rcases queueBudget_spec .commit s.bus with e | e <;> rw [e]

/-- The state of an arrival of SETTLING or POWERING before its power-on sequence: the pending lower
claim committed, and the timers of the arrival started (R10, R16, R18, R66). -/
def State.arriving (s : State) : State :=
  let a := { s with rcu := { s.rcu with arrivalTaken := true } }.commitPending.startBlanking
  { a with rcu := { a.rcu with
      on := if s.rcu.phase = .powering then some a.theStep.onMs else a.rcu.on } }

theorem arrive_eq {s : State} (h : s.rcu.phase = .settling ∨ s.rcu.phase = .powering) :
    s.arrive = s.arriving.arrivalSequence := by
  rcases h with h | h
  · simp only [State.arrive, State.arriving, commitPending_rcu, h, reduceCtorEq, if_false]
  · simp only [State.arrive, State.arriving, commitPending_rcu, h, if_true]

theorem arrive_of_off {s : State} (h : s.rcu.phase = .off) :
    s.arrive = { s with rcu := { s.rcu with arrivalTaken := true } }.commitPending := by
  simp only [State.arrive, commitPending_rcu, h]

/-- What an arrival leaves before its power-on sequence (R10, R16, R18, R66). -/
structure Arriving (s a : State) : Prop where
  rest : a = { s with
    rcu := a.rcu, bgu := a.bgu, lanes := a.lanes, lines := a.lines, bus := a.bus }
  rcu : a.rcu = { s.rcu with
    arrivalTaken := true
    on := if s.rcu.phase = .powering then some s.theStep.onMs else s.rcu.on
    blanking := if s.theStep.blankingMs = 0 then false else s.rcu.blanking
    blankingTimer := if s.theStep.blankingMs = 0 then none else some s.theStep.blankingMs
    boardOn := if s.theStep.blankingMs = 0 then s.boardOnNow else s.rcu.boardOn }
  claim : Lowered s { s with bgu := a.bgu, bus := a.bus }
  still : s.theStep.blankingMs ≠ 0 → a.lanes = s.lanes ∧ a.lines = s.lines
  cleared : s.theStep.blankingMs = 0 → ∀ i,
    a.lanes.get i = (s.lanes.get i).sync s.boardOnNow (s.cfg.laneEnable.getLsbD i.val) ∧
    a.lines.get i = (s.lines.get i).sync s.boardOnNow s.boardOnNow (s.cfg.lines.get i).hbMaxMs
  readings : ∀ i, (a.lines.get i).reading = (s.lines.get i).reading

theorem startBlanking_of_zero {s : State} (h : s.theStep.blankingMs = 0) :
    s.startBlanking = s.clearBlanking := if_pos h

theorem startBlanking_of_pos {s : State} (h : s.theStep.blankingMs ≠ 0) : s.startBlanking =
    { s with rcu := { s.rcu with blankingTimer := some s.theStep.blankingMs } } := if_neg h

theorem arriving_spec (s : State) : Arriving s s.arriving := by
  obtain ⟨hrest, hkept, hlowered, houtbox⟩ :=
    commitPending_lowered { s with rcu := { s.rcu with arrivalTaken := true } }
  simp only [State.arriving]
  generalize State.commitPending { s with rcu := { s.rcu with arrivalTaken := true } } = c at *
  obtain ⟨b, n, rfl⟩ : ∃ b n, c = { s with
    rcu := { s.rcu with arrivalTaken := true }, bgu := b, bus := n } := ⟨_, _, hrest⟩
  have hclaim : Lowered s { s with bgu := b, bus := n } := ⟨rfl, hkept, hlowered, houtbox⟩
  by_cases hblank : s.theStep.blankingMs = 0
  · rw [startBlanking_of_zero (s := { s with
      rcu := { s.rcu with arrivalTaken := true }, bgu := b, bus := n }) hblank]
    have hlane (i : Fin 4) := Quad.get_mapIdx s.lanes
      (fun i l => l.sync s.boardOnNow (s.cfg.laneEnable.getLsbD i.val)) i
    have hline (i : Fin 4) := Quad.get_mapIdx s.lines (fun i l => l.sync s.boardOnNow
      (s.boardOnNow && !false) (s.cfg.lines.get i).hbMaxMs) i
    refine ⟨rfl, ?_, hclaim, fun h => absurd hblank h, fun _ i => ⟨hlane i, ?_⟩, fun i => ?_⟩
    · rw [if_pos hblank, if_pos hblank, if_pos hblank]
      rfl
    · exact (hline i).trans (by rw [Bool.not_false, Bool.and_true])
    · exact (congrArg Line.reading (hline i)).trans (sync_reading ..)
  · rw [startBlanking_of_pos (s := { s with
      rcu := { s.rcu with arrivalTaken := true }, bgu := b, bus := n }) hblank]
    refine ⟨rfl, ?_, hclaim, fun _ => ⟨rfl, rfl⟩, fun h => absurd h hblank, fun i => rfl⟩
    rw [if_neg hblank, if_neg hblank, if_neg hblank]
    rfl

/-! ### The power-on sequence (R11, R15, R127) -/

theorem advancePhase_timing {s : State} (hphase : s.rcu.phase = .settling)
    (hreach : s.theStep.reachPresent = false) : s.advancePhase = s.enterTiming := by
  simp only [State.advancePhase, hphase, hreach, Bool.false_eq_true, if_false]

theorem advancePhase_reaching {s : State} (hphase : s.rcu.phase = .settling)
    (hreach : s.theStep.reachPresent = true) : s.advancePhase = s.enterReaching := by
  simp only [State.advancePhase, hphase, hreach, if_true]

theorem advancePhase_on {s : State} (hphase : s.rcu.phase = .powering) :
    s.advancePhase = { s with rcu := { s.rcu with phase := .on } } := by
  simp only [State.advancePhase, hphase]

/-- What the end of SETTLING or POWERING may change (R11, R15). -/
theorem advancePhase_spec (s : State) : ∃ p d r w, s.advancePhase = { s with
    rcu := { s.rcu with phase := p, duration := d, reach := r }
    wck := { s.wck with reach := w } } := by
  unfold State.advancePhase
  split
  · split <;> exact ⟨_, _, _, _, rfl⟩
  all_goals exact ⟨_, _, _, _, rfl⟩

/-- The phase after SETTLING or POWERING depends on the step and the phase alone (R11, R15). -/
theorem leavesPhase_congr {a s t : State} (hstep : a.theStep = s.theStep)
    (hphase : a.rcu.phase = s.rcu.phase) (h : a.leavesPhase t) : s.leavesPhase t := by
  simpa only [State.leavesPhase, State.leavesSettling, hstep, hphase] using h

theorem advancePhase_leavesPhase (s : State) : s.leavesPhase s.advancePhase := by
  refine ⟨fun hphase => ⟨fun hreach => ?_, fun hreach => ?_⟩, fun hphase => ?_⟩
  · rw [advancePhase_timing hphase hreach]
    exact ⟨rfl, rfl⟩
  · rw [advancePhase_reaching hphase hreach]
    exact ⟨rfl, rfl, rfl⟩
  · rw [advancePhase_on hphase]

theorem startWait_of_low {i : Fin 4} {s : State} (h : (s.lines.get i).high = false) :
    s.startWait i = { s with lines := s.lines.set i { s.lines.get i with
      sup := .powerGood .waiting, timer := some (s.cfg.lines.get i).pgTimeoutMs } } := by
  simp only [State.startWait, Line.startWait, h, Bool.false_eq_true, if_false]

theorem startWait_of_high {i : Fin 4} {s : State} (h : (s.lines.get i).high = true) :
    s.startWait i = { s with lines := s.lines.set i { s.lines.get i with
      sup := .powerGood (.up ((s.lines.get i).riseUptime.getD s.tmu.uptime)), timer := none } } := by
  simp only [State.startWait, Line.startWait, h, if_true]

theorem arrivalSequence_unpowered {a : State} (h : a.rcu.powerOnPending = false) :
    a.arrivalSequence = a.advancePhase := if_neg (h ▸ Bool.false_ne_true)

theorem arrivalSequence_pressed {a : State} (h : a.rcu.powerOnPending = true)
    (hpress : 0 < a.theStep.pressMs) :
    a.arrivalSequence = { a with sou := a.sou.press a.theStep.pressMs } :=
  (if_pos h).trans (if_pos hpress)

theorem arrivalSequence_of_line {a : State} (h : a.rcu.powerOnPending = true)
    (hpress : a.theStep.pressMs = 0) : a.arrivalSequence = match a.powerGoodLine with
      | none => a.advancePhase
      | some i => if (a.lines.get i).high then (a.startWait i).advancePhase else a.startWait i :=
  (if_pos h).trans (if_neg (by omega))

theorem arrivalSequence_alone {a : State} (h : a.rcu.powerOnPending = true)
    (hpress : a.theStep.pressMs = 0) (hline : a.powerGoodLine = none) :
    a.arrivalSequence = a.advancePhase := by rw [arrivalSequence_of_line h hpress, hline]

theorem arrivalSequence_waits {a : State} {i : Fin 4} (h : a.rcu.powerOnPending = true)
    (hpress : a.theStep.pressMs = 0) (hline : a.powerGoodLine = some i)
    (hlow : (a.lines.get i).high = false) : a.arrivalSequence = a.startWait i := by
  rw [arrivalSequence_of_line h hpress, hline]
  exact if_neg (hlow ▸ Bool.false_ne_true)

theorem arrivalSequence_up {a : State} {i : Fin 4} (h : a.rcu.powerOnPending = true)
    (hpress : a.theStep.pressMs = 0) (hline : a.powerGoodLine = some i)
    (hhigh : (a.lines.get i).high = true) : a.arrivalSequence = (a.startWait i).advancePhase := by
  rw [arrivalSequence_of_line h hpress, hline]
  exact if_pos hhigh

/-- What the power-on sequence of an arrival may change: the phase with its timer and request, the
press, and one line (R11, R41, R127). -/
structure Sequenced (a t : State) : Prop where
  rest : t = { a with rcu := t.rcu, sou := t.sou, wck := t.wck, lines := t.lines }
  rcu : t.rcu = { a.rcu with
    phase := t.rcu.phase, duration := t.rcu.duration, reach := t.rcu.reach }
  sou : t.sou = { a.sou with pressed := t.sou.pressed, pressTimer := t.sou.pressTimer }
  wck : t.wck = { a.wck with reach := t.wck.reach }
  lines : a.rcu.powerOnPending = false → t.lines = a.lines

theorem advancePhase_sequenced (a : State) : Sequenced a a.advancePhase := by
  obtain ⟨p, d, r, w, e⟩ := advancePhase_spec a
  rw [e]
  exact ⟨rfl, rfl, rfl, rfl, fun _ => rfl⟩

theorem startWait_sequenced {a : State} (h : a.rcu.powerOnPending = true) (i : Fin 4) :
    Sequenced a (a.startWait i) :=
  ⟨rfl, rfl, rfl, rfl, fun hn => absurd (h.symm.trans hn) nofun⟩

theorem Sequenced.trans {a t u : State} (h : Sequenced a t) (g : Sequenced t u)
    (hpending : a.rcu.powerOnPending = true) : Sequenced a u := by
  obtain ⟨hrest, hrcu, hsou, hwck, -⟩ := h
  obtain ⟨grest, grcu, gsou, gwck, -⟩ := g
  refine ⟨grest.trans ?_, grcu.trans ?_, gsou.trans ?_, gwck.trans ?_,
    fun hn => absurd (hpending.symm.trans hn) nofun⟩
  · rw [hrest]
  · rw [hrcu]
  · rw [hsou]
  · rw [hwck]

theorem arrivalSequence_sequenced (a : State) : Sequenced a a.arrivalSequence := by
  cases h : a.rcu.powerOnPending with
  | false => exact arrivalSequence_unpowered h ▸ advancePhase_sequenced a
  | true =>
    rcases Nat.eq_zero_or_pos a.theStep.pressMs with hpress | hpress
    · cases hline : a.powerGoodLine with
      | none => exact arrivalSequence_alone h hpress hline ▸ advancePhase_sequenced a
      | some i => cases hhigh : (a.lines.get i).high with
        | false => exact arrivalSequence_waits h hpress hline hhigh ▸ startWait_sequenced h i
        | true =>
          rw [arrivalSequence_up h hpress hline hhigh]
          exact (startWait_sequenced h i).trans (advancePhase_sequenced _) h
    · rw [arrivalSequence_pressed h hpress]
      refine ⟨rfl, rfl, ?_, rfl, fun _ => rfl⟩
      unfold Sou.press
      split <;> rfl

/-! ### Arrivals (R10) -/

section
variable {s a : State}

theorem Arriving.cfl (h : Arriving s a) : a.cfl = s.cfl := by rw [h.rest]

theorem Arriving.cfg (h : Arriving s a) : a.cfg = s.cfg := by simp only [State.cfg, h.cfl]

theorem Arriving.sou (h : Arriving s a) : a.sou = s.sou := by rw [h.rest]

theorem Arriving.theStep (h : Arriving s a) : a.theStep = s.theStep :=
  theStep_congr h.cfl (by rw [h.rcu])

theorem Arriving.phase (h : Arriving s a) : a.rcu.phase = s.rcu.phase := by rw [h.rcu]

theorem Arriving.pending (h : Arriving s a) : a.rcu.powerOnPending = s.rcu.powerOnPending := by
  rw [h.rcu]

theorem Arriving.powerGoodLine (h : Arriving s a) : a.powerGoodLine = s.powerGoodLine :=
  powerGoodLine_congr fun i => congrArg (·.2.2) (h.readings i)

theorem Arriving.high (h : Arriving s a) (i : Fin 4) :
    (a.lines.get i).high = (s.lines.get i).high := congrArg (·.1) (h.readings i)

theorem Arriving.riseUptime (h : Arriving s a) (i : Fin 4) :
    (a.lines.get i).riseUptime = (s.lines.get i).riseUptime := congrArg (·.2.1) (h.readings i)

end

/-- What the arrival of SETTLING or POWERING leaves, the claim aside: the fields of `Arrived` that hold
whatever stands in the outbox. -/
structure PhaseArrived (level : Nat) (s t : State) : Prop where
  position : t.rcu.run = s.rcu.run ∧ t.rcu.arrivalTaken = true ∧ t.rcu.step = s.rcu.step ∧
    t.rcu.iteration = s.rcu.iteration ∧ t.rcu.governing = s.rcu.governing
  blanking : 0 < s.theStep.blankingMs →
    t.rcu.blankingTimer = some s.theStep.blankingMs ∧ t.rcu.blanking = s.rcu.blanking
  unblanked : s.theStep.blankingMs = 0 → t.rcu.blanking = false ∧ t.rcu.blankingTimer = none
  onTimer : s.rcu.phase = .powering → t.rcu.on = some s.theStep.onMs
  pressed : s.rcu.powerOnPending = true → 0 < s.theStep.pressMs → 0 < level →
    t.rcu.phase = s.rcu.phase ∧ t.sou.pressed = true ∧ t.sou.pressTimer = some s.theStep.pressMs
  waits : s.rcu.powerOnPending = true → s.theStep.pressMs = 0 → ∀ i, s.powerGoodLine = some i →
    ((s.lines.get i).high = false → t.rcu.phase = s.rcu.phase ∧
      (t.lines.get i).sup = .powerGood .waiting ∧
      (t.lines.get i).timer = some (s.cfg.lines.get i).pgTimeoutMs) ∧
    ((s.lines.get i).high = true → s.leavesPhase t ∧
      (t.lines.get i).sup = .powerGood (.up ((s.lines.get i).riseUptime.getD t.tmu.uptime)))
  goesOn : s.rcu.powerOnPending = false ∨ s.theStep.pressMs = 0 ∧ s.powerGoodLine = none →
    s.leavesPhase t ∧ t.sou.pressed = s.sou.pressed

theorem Arriving.leavesPhase {s a u : State} (h : Arriving s a) (hstep : u.theStep = a.theStep)
    (hphase : u.rcu.phase = a.rcu.phase) : s.leavesPhase u.advancePhase :=
  leavesPhase_congr (hstep.trans h.theStep) (hphase.trans h.phase) (advancePhase_leavesPhase u)

/-- The power-good wait of an arrival, or its end on a line that is HIGH (R127). -/
theorem Arriving.waits {s a : State} {i : Fin 4} (h : Arriving s a)
    (hpending : s.rcu.powerOnPending = true) (hpress : s.theStep.pressMs = 0)
    (hline : s.powerGoodLine = some i) :
    ((s.lines.get i).high = false → a.arrivalSequence.rcu.phase = s.rcu.phase ∧
      (a.arrivalSequence.lines.get i).sup = .powerGood .waiting ∧
      (a.arrivalSequence.lines.get i).timer = some (s.cfg.lines.get i).pgTimeoutMs) ∧
    ((s.lines.get i).high = true → s.leavesPhase a.arrivalSequence ∧
      (a.arrivalSequence.lines.get i).sup =
        .powerGood (.up ((s.lines.get i).riseUptime.getD a.tmu.uptime))) := by
  have hpending := h.pending.trans hpending
  have hpress : a.theStep.pressMs = 0 := h.theStep ▸ hpress
  have hline := h.powerGoodLine.trans hline
  refine ⟨fun hlow => ?_, fun hhigh => ?_⟩
  · have hlow := (h.high i).trans hlow
    rw [arrivalSequence_waits hpending hpress hline hlow, startWait_of_low hlow]
    refine ⟨h.phase, congrArg Line.sup (Quad.get_set_self ..), ?_⟩
    rw [← h.cfg]
    exact congrArg Line.timer (Quad.get_set_self ..)
  · have hhigh := (h.high i).trans hhigh
    obtain ⟨p, d, r, w, e⟩ := advancePhase_spec (a.startWait i)
    rw [arrivalSequence_up hpending hpress hline hhigh]
    refine ⟨h.leavesPhase (u := a.startWait i) rfl rfl, ?_⟩
    rw [e, startWait_of_high hhigh, ← h.riseUptime]
    exact congrArg Line.sup (Quad.get_set_self ..)

/-- An arrival without a power-on, or with one that has neither press nor line to wait for, ends the
phase (R11, R15). -/
theorem Arriving.goesOn {s a : State} (h : Arriving s a)
    (hgo : s.rcu.powerOnPending = false ∨ s.theStep.pressMs = 0 ∧ s.powerGoodLine = none) :
    a.arrivalSequence = a.advancePhase := by
  cases hpending : a.rcu.powerOnPending with
  | false => exact arrivalSequence_unpowered hpending
  | true =>
    rcases hgo with hgo | ⟨hpress, hline⟩
    · exact absurd (hpending.symm.trans (h.pending.trans hgo)) nofun
    · exact arrivalSequence_alone hpending (h.theStep ▸ hpress) (h.powerGoodLine.trans hline)

theorem Arriving.phaseArrived {level : Nat} {s a : State} (h : Arriving s a)
    (hlevel : s.sou.level0 = level) : PhaseArrived level s a.arrivalSequence := by
  have hseq := arrivalSequence_sequenced a
  have hrcu := hseq.rcu
  have htmu : a.arrivalSequence.tmu = a.tmu := by rw [hseq.rest]
  rw [h.rcu] at hrcu
  refine ⟨?_, fun hblank => ?_, fun hblank => ?_, fun hphase => ?_, fun hpending hpress hpos => ?_,
    fun hpending hpress i hline => htmu ▸ h.waits hpending hpress hline, fun hgo => ?_⟩
  · rw [hrcu]
    exact ⟨rfl, rfl, rfl, rfl, rfl⟩
  · rw [hrcu]
    exact ⟨if_neg (Nat.ne_of_gt hblank), if_neg (Nat.ne_of_gt hblank)⟩
  · rw [hrcu]
    exact ⟨if_pos hblank, if_pos hblank⟩
  · rw [hrcu]
    exact if_pos hphase
  · have hsou : a.sou.press a.theStep.pressMs =
        { s.sou with pressed := true, pressTimer := some s.theStep.pressMs } := by
      rw [h.sou, h.theStep]
      exact if_neg (by omega)
    rw [arrivalSequence_pressed (h.pending.trans hpending) (h.theStep ▸ hpress), hsou]
    exact ⟨h.phase, rfl, rfl⟩
  · obtain ⟨p, d, r, w, e⟩ := advancePhase_spec a
    rw [h.goesOn hgo]
    refine ⟨h.leavesPhase rfl rfl, ?_⟩
    rw [e, ← h.sou]

theorem arrive_phaseArrived {level : Nat} {s : State}
    (hphase : s.rcu.phase = .settling ∨ s.rcu.phase = .powering) (hlevel : s.sou.level0 = level) :
    PhaseArrived level s s.arrive := arrive_eq hphase ▸ (arriving_spec s).phaseArrived hlevel

/-- What an arrival does to the claim (R66). -/
theorem arrive_lowered {s : State} (hphase : s.rcu.phase = .settling ∨ s.rcu.phase = .powering) :
    Lowered s { s with bgu := s.arrive.bgu, bus := s.arrive.bus } := by
  have hseq := (arrivalSequence_sequenced s.arriving).rest
  have hbgu : s.arriving.arrivalSequence.bgu = s.arriving.bgu := by rw [hseq]
  have hbus : s.arriving.arrivalSequence.bus = s.arriving.bus := by rw [hseq]
  rw [arrive_eq hphase, hbgu, hbus]
  exact (arriving_spec s).claim

/-- What an arrival of SETTLING or POWERING leaves alone (R10). -/
theorem arrive_rest {s : State} (hphase : s.rcu.phase = .settling ∨ s.rcu.phase = .powering) :
    s.arrive = { s with
      rcu := s.arrive.rcu
      sou := { s.sou with pressed := s.arrive.sou.pressed, pressTimer := s.arrive.sou.pressTimer }
      bgu := s.arrive.bgu, wck := { s.wck with reach := s.arrive.wck.reach }
      lanes := s.arrive.lanes, lines := s.arrive.lines, bus := s.arrive.bus } := by
  rw [arrive_eq hphase]
  have ha := arriving_spec s
  have hseq := arrivalSequence_sequenced s.arriving
  generalize s.arriving = a at *
  generalize a.arrivalSequence = t at *
  have hwck : a.wck = s.wck := by rw [ha.rest]
  obtain ⟨trest, trcu, tsou, twck, -⟩ := hseq
  rw [ha.sou] at tsou
  rw [hwck] at twck
  rw [← tsou, ← twck]
  refine trest.trans ?_
  rw [ha.rest] at trest ⊢
  rw [trest]

/-- An arrival in a running run whose outbox has no attempt is one of R10. -/
theorem arrive_arrived {level : Nat} {s : State} (hrun : s.rcu.run = .running)
    (hphase : s.rcu.phase = .settling ∨ s.rcu.phase = .powering) (hidle : s.bus.attempt = none)
    (hlevel : s.sou.level0 = level) : Arrived level s s.arrive := by
  have hp := arrive_phaseArrived hphase hlevel
  obtain ⟨-, hkept, hlowered⟩ := arrive_lowered hphase
  refine { hp with
    position := ⟨hp.position.1.trans hrun, hp.position.2⟩
    lowered := fun w hw => ?_
    kept := fun hnone => ?_ }
  · obtain ⟨hb, hn⟩ := hlowered w hw
    exact ⟨congrArg Bgu.committed hb, congrArg Bgu.pendingLower hb, congrArg Bgu.overdrawSamples hb,
      congrArg Bif.budget (hn hidle)⟩
  · obtain ⟨hb, hn⟩ := hkept hnone
    exact ⟨congrArg Bgu.committed hb, congrArg Bif.budget hn⟩

/-! ### The landing report (R10, R36) -/

theorem phaseLevel_of_ne_none {s : State} (h : s.rcu.phase ≠ .none) : s.phaseLevel = some s.asks := by
  unfold State.phaseLevel State.asks
  cases hp : s.rcu.phase <;> simp_all

theorem phaseLevel_of_none {s : State} (h : s.rcu.phase = .none) : s.phaseLevel = none := by
  simp only [State.phaseLevel, h]

theorem phaseLevel_ne {s : State} (h : s.sou.level0 ≠ s.asks) : s.phaseLevel ≠ some s.sou.level0 := by
  by_cases hp : s.rcu.phase = .none
  · rw [phaseLevel_of_none hp]
    exact nofun
  · rw [phaseLevel_of_ne_none hp]
    exact fun he => h (Option.some.inj he).symm

theorem takeArrival_of_due {s : State} (hrun : s.rcu.run = .running)
    (htaken : s.rcu.arrivalTaken = false) (hphase : s.rcu.phase ≠ .none)
    (hlevel : s.sou.level0 = s.asks) : s.takeArrival = s.arrive :=
  if_pos ⟨hrun, htaken, hlevel ▸ phaseLevel_of_ne_none hphase⟩

theorem takeArrival_of_not_due {s : State} (h : s.rcu.run ≠ .running ∨ s.rcu.arrivalTaken = true ∨
    s.rcu.phase = .none ∨ s.sou.level0 ≠ s.asks) : s.takeArrival = s := by
  refine if_neg fun ⟨hrun, htaken, hlevel⟩ => ?_
  rcases h with h | h | h | h
  · exact h hrun
  · exact absurd (htaken.symm.trans h) nofun
  · exact absurd ((phaseLevel_of_none h).symm.trans hlevel) nofun
  · exact phaseLevel_ne h hlevel

theorem asks_congr {s t : State} (hcfg : t.cfg = s.cfg) (hstep : t.rcu.step = s.rcu.step)
    (hphase : t.rcu.phase = s.rcu.phase) : t.asks = s.asks := by
  simp only [State.asks, State.theStep, State.stepAt, hcfg, hstep, hphase]

/-! ### The millisecond boundary (R35, R152) -/

/-- The state of a millisecond boundary before its landing report. -/
def State.ticked (s : State) : State := s.tickTimers.readIds

theorem readIds_of_not_loading {s : State} (h : s.cfl.status ≠ .loading) : s.readIds = s := if_neg h

theorem readLimit_le (b : List Byte) : readLimit b ≤ b.length := by
  unfold readLimit
  split
  · exact Nat.le_refl _
  · split <;> omega

/-- What a load has read at a millisecond boundary (R178): how far, and what it has identified. -/
theorem readIds_reads {s : State} (h : s.cfl.status = .loading) : ∃ f k m n,
    s.readIds = { s with
      cfl := { s.cfl with read := k, modelCode := m, serial := n }, free := f } ∧
    s.cfl.read ≤ k ∧ k ≤ max s.cfl.read s.cfl.memory.length ∧
    ∀ b, b = s.cfl.memory.take k → (m, n) =
      if 10 ≤ b.length ∧ 64 ≤ wordAt b 2 ∧ wordAt b 2 ≤ 2048 ∧ byteAt b 0 = 1 then
        (BitVec.ofNat 16 (wordAt b 4), BitVec.ofNat 32 (longAt b 6))
      else (s.cfl.modelCode, s.cfl.serial) := by
  have hlimit := readLimit_le s.cfl.memory
  have hk : State.readIds s = State.readOn (Config.bytesAnswered s.free) { s with free := s.free + 1 } :=
    if_pos h
  generalize Config.bytesAnswered s.free = answered at hk
  obtain ⟨k, hkdef⟩ : ∃ k, k = max s.cfl.read (min (readLimit s.cfl.memory) (s.cfl.read + answered)) :=
    ⟨_, rfl⟩
  obtain ⟨m, n, hids⟩ : ∃ m n, (m, n) =
      if 10 ≤ (s.cfl.memory.take k).length ∧ 64 ≤ wordAt (s.cfl.memory.take k) 2 ∧
        wordAt (s.cfl.memory.take k) 2 ≤ 2048 ∧ byteAt (s.cfl.memory.take k) 0 = 1 then
        (BitVec.ofNat 16 (wordAt (s.cfl.memory.take k) 4), BitVec.ofNat 32 (longAt (s.cfl.memory.take k) 6))
      else (s.cfl.modelCode, s.cfl.serial) := ⟨_, _, rfl⟩
  refine ⟨s.free + 1, k, m, n, ?_, by omega, by omega, fun b hb => hb ▸ hids⟩
  rw [hk, State.readOn]
  dsimp only
  rw [← hkdef]
  exact takeIds_eq (s := { s with free := s.free + 1, cfl := { s.cfl with read := k } }) hids

theorem ticked_rest (s : State) : ∃ f k m n, s.ticked = { s.tickTimers with
    cfl := { s.tickTimers.cfl with read := k, modelCode := m, serial := n }, free := f } := by
  obtain ⟨f, k, m, n, e, -⟩ := readIds_spec s.tickTimers
  exact ⟨f, k, m, n, e⟩

theorem ticked_asks (s : State) : s.ticked.asks = s.asks := by
  obtain ⟨f, k, m, n, e⟩ := ticked_rest s
  rw [e]
  exact asks_congr rfl (Rcu.tick_step s.rcu) (Rcu.tick_phase s.rcu)

theorem tickLands_iff (u : Sou) : u.tickLands = true ↔
    u.level0 ≠ u.target0 ∧ approach u.level0 u.target0 u.slew = u.target0 := by
  simp only [Sou.tickLands, Bool.and_eq_true, decide_eq_true_eq]
  exact Iff.rfl

theorem outputTicks_of_no_arrival {s : State} (h : s.sou.level0 = s.sou.target0 ∨
    approach s.sou.level0 s.sou.target0 s.sou.slew ≠ s.sou.target0 ∨ s.rcu.run ≠ .running ∨
    s.rcu.arrivalTaken = true ∨ s.rcu.phase = .none ∨ s.sou.target0 ≠ s.asks) :
    outputTicks s = s.ticked := by
  show (if s.sou.tickLands then s.ticked.takeArrival else s.ticked) = s.ticked
  split
  · next hlands =>
    obtain ⟨hne, hto⟩ := (tickLands_iff s.sou).mp hlands
    obtain ⟨f, k, m, n, e⟩ := ticked_rest s
    have hlevel : s.ticked.sou.level0 = s.sou.target0 := by
      rw [e]
      exact hto
    have hasks := ticked_asks s
    refine takeArrival_of_not_due ?_
    rw [hasks, hlevel, e]
    simpa only [State.tickTimers, Rcu.tick_run, Rcu.tick_arrivalTaken, Rcu.tick_phase, hne, hto,
      ne_eq, not_true, false_or] using h
  · rfl

/-- So many moves at one slew never pass the target, and stand on it once the distance is covered
(R35). -/
theorem approach_iterate (level target slew n : Nat) :
    (level ≤ target → (fun x => approach x target slew)^[n] level = min target (level + n * slew)) ∧
    (target ≤ level → (fun x => approach x target slew)^[n] level =
      max target (level - n * slew)) := by
  induction n with
  | zero => exact ⟨fun h => by simp; omega, fun h => by simp; omega⟩
  | succ n ih =>
    rw [Function.iterate_succ_apply', Nat.succ_mul]
    generalize n * slew = d at *
    refine ⟨fun h => ?_, fun h => ?_⟩
    · rw [ih.1 h]
      unfold approach
      split <;> split <;> omega
    · rw [ih.2 h]
      unfold approach
      split <;> split <;> omega

theorem Sou.tick_eq (u : Sou) : u.tick = { u with
    level0 := approach u.level0 u.target0 u.slew
    level1 := approach u.level1 u.target1 u.slew
    pressTimer := u.pressTimer.map (· - 1)
    limit := if u.tick.level0 = 0 ∨ u.limitInput = false then .idle
      else match u.limit with
        | .idle => .counting 0
        | .counting n => .counting (min (n + 1) 10)
        | .expired => .expired } := by
  have hlimit : u.tick.limit = if u.tick.level0 = 0 ∨ u.limitInput = false then .idle
      else match u.limit with
        | .idle => .counting 0
        | .counting n => .counting (min (n + 1) 10)
        | .expired => .expired := by
    rw [Sou.tick, syncLimit_eq]
    cases u.limit <;> rfl
  rw [← hlimit]
  rfl

theorem Bgu.tick_eq (b : Bgu) : b.tick = { b with
    window := b.window.map (· - 1), listening := b.listening - 1
    accumulator := if b.waitingSince = none then b.accumulator
      else min (b.accumulator + 1) 600000 } := by
  unfold Bgu.tick
  cases b.waitingSince <;> rfl

theorem tickTimers_line (i : Fin 4) (s : State) : s.tickTimers.lines.get i =
    if s.rcu.run = .paused ∧ (s.lines.get i).sup = .powerGood .waiting then s.lines.get i
    else { s.lines.get i with timer := (s.lines.get i).timer.map (· - 1) } := by
  refine (Quad.get_map ..).trans ?_
  simp only [Line.tick, decide_eq_true_eq]
  rfl

/-- Settles O29, by `outputTicks_of_no_arrival` and `approach_iterate`. -/
theorem tickMovesTimersAndOutputs : Obligations.TickMovesTimersAndOutputs := by
  refine ⟨fun s hlive h => ?_, fun level target slew n => approach_iterate level target slew n⟩
  have hexec : exec .outputTick s = .next s.ticked :=
    (live_next hlive).trans (congrArg _ (outputTicks_of_no_arrival h))
  by_cases hload : s.cfl.status = .loading
  · obtain ⟨f, k, m, n, e, hlow, htop, hids⟩ := readIds_reads (s := s.tickTimers) hload
    have e : s.ticked = _ := e
    rw [e] at hexec
    exact ⟨_, hexec, rfl, Sou.tick_eq s.sou, fun hrun => if_pos hrun, fun hrun => if_neg hrun,
      Bgu.tick_eq s.bgu, fun i => tickTimers_line i s, rfl, rfl, rfl, fun hn => absurd hload hn,
      fun b _ hb => ⟨hlow, htop, hids b hb⟩, rfl, rfl, rfl, rfl, rfl, hlive⟩
  · have e : s.ticked = s.tickTimers := readIds_of_not_loading (s := s.tickTimers) hload
    rw [e] at hexec
    exact ⟨_, hexec, rfl, Sou.tick_eq s.sou, fun hrun => if_pos hrun, fun hrun => if_neg hrun,
      Bgu.tick_eq s.bgu, fun i => tickTimers_line i s, rfl, rfl, rfl, fun _ => ⟨rfl, rfl, rfl⟩,
      fun _ hl => absurd hl hload, rfl, rfl, rfl, rfl, rfl, hlive⟩

theorem Rcu.tick_iteration (r : Rcu) : r.tick.iteration = r.iteration := by
  unfold Rcu.tick; split <;> rfl

theorem Rcu.tick_governing (r : Rcu) : r.tick.governing = r.governing := by
  unfold Rcu.tick; split <;> rfl

theorem Line.tick_reading (paused : Bool) (l : Line) : (l.tick paused).reading = l.reading := by
  unfold Line.tick; split <;> rfl

/-- An arrival of a state that differs from another in what no arrival reads is one of the other. -/
theorem Arrived.of {level : Nat} {s s' t : State} (h : Arrived level s' t) (hcfg : s'.cfg = s.cfg)
    (hstep : s'.rcu.step = s.rcu.step) (hiteration : s'.rcu.iteration = s.rcu.iteration)
    (hgoverning : s'.rcu.governing = s.rcu.governing) (hphase : s'.rcu.phase = s.rcu.phase)
    (hpending : s'.rcu.powerOnPending = s.rcu.powerOnPending)
    (hblanking : s'.rcu.blanking = s.rcu.blanking)
    (hreadings : ∀ i, (s'.lines.get i).reading = (s.lines.get i).reading)
    (hlower : s'.bgu.pendingLower = s.bgu.pendingLower)
    (hcommitted : s'.bgu.committed = s.bgu.committed) (hbudget : s'.bus.budget = s.bus.budget)
    (hpressed : s'.sou.pressed = s.sou.pressed) : Arrived level s t := by
  have hthe : s'.theStep = s.theStep := by simp only [State.theStep, State.stepAt, hcfg, hstep]
  have hline : s'.powerGoodLine = s.powerGoodLine :=
    powerGoodLine_congr fun i => congrArg (·.2.2) (hreadings i)
  have hhigh (i : Fin 4) : (s'.lines.get i).high = (s.lines.get i).high :=
    congrArg (·.1) (hreadings i)
  have hrise (i : Fin 4) : (s'.lines.get i).riseUptime = (s.lines.get i).riseUptime :=
    congrArg (·.2.1) (hreadings i)
  have hleaves : s'.leavesPhase t ↔ s.leavesPhase t :=
    ⟨leavesPhase_congr hthe hphase, leavesPhase_congr hthe.symm hphase.symm⟩
  obtain ⟨hposition, hblank, hunblanked, hon, hlowered, hkept, hpress, hwaits, hgoes⟩ := h
  simp only [hcfg, hstep, hiteration, hgoverning, hphase, hpending, hblanking, hlower, hcommitted,
    hbudget, hpressed, hthe, hline, hhigh, hrise, hleaves] at *
  exact ⟨hposition, hblank, hunblanked, hon, hlowered, hkept, hpress, hwaits, hgoes⟩

/-- Settles O30: the landing of a running run is the arrival, and no landing of a paused one. -/
theorem landingIsTheArrival : Obligations.LandingIsTheArrival := by
  intro s hlive hne hto hphase htaken hasks hidle
  have hphaseNe : s.rcu.phase ≠ .none := by rcases hphase with h | h <;> simp [h]
  by_cases hrun : s.rcu.run = .running
  · obtain ⟨f, k, m, n, e⟩ := ticked_rest s
    have hlevel : s.ticked.sou.level0 = s.sou.target0 := by
      rw [e]
      exact hto
    have hrunTicked : s.ticked.rcu.run = .running := by
      rw [e]
      exact (Rcu.tick_run _).trans hrun
    have hphaseTicked : s.ticked.rcu.phase = s.rcu.phase := by
      rw [e]
      exact Rcu.tick_phase _
    have hexec : exec .outputTick s = .next s.ticked.arrive := by
      refine (live_next hlive).trans (congrArg _ ?_)
      refine (if_pos ((tickLands_iff s.sou).mpr ⟨hne, hto⟩)).trans
        (takeArrival_of_due hrunTicked ?_ (hphaseTicked ▸ hphaseNe)
          (hlevel.trans ((ticked_asks s).trans hasks).symm))
      show s.ticked.rcu.arrivalTaken = false
      rw [e]
      exact (Rcu.tick_arrivalTaken _).trans htaken
    have hreadings (i : Fin 4) : (s.ticked.lines.get i).reading = (s.lines.get i).reading := by
      rw [e]
      exact (congrArg Line.reading (Quad.get_map ..)).trans (Line.tick_reading ..)
    have hrest := arrive_rest (s := s.ticked) (hphaseTicked ▸ hphase)
    have harrived := (arrive_arrived hrunTicked (hphaseTicked ▸ hphase) (by rw [e]; exact hidle)
      hlevel).of (s := s) (by rw [e]; rfl) (by rw [e]; exact Rcu.tick_step _)
        (by rw [e]; exact Rcu.tick_iteration _) (by rw [e]; exact Rcu.tick_governing _) hphaseTicked
        (by rw [e]; exact Rcu.tick_powerOnPending _) (by rw [e]; exact Rcu.tick_blanking _)
        hreadings (by rw [e]; rfl) (by rw [e]; rfl) (by rw [e]; rfl) (by rw [e]; rfl)
    have hsou := congrArg State.sou hrest
    have hposition := harrived.position
    refine ⟨_, hexec, (congrArg Sou.level0 hsou).trans hlevel, ?_, hposition.2.2.1,
      hposition.2.2.2.1, hposition.1.trans hrun.symm, hposition.2.2.2.2, ?_,
      fun hp => absurd (hrun.symm.trans hp) nofun, fun _ => harrived⟩
    · refine (congrArg Sou.target0 hsou).trans ?_
      rw [e]
      rfl
    · refine (congrArg (fun t => t.fcu.log) hrest).trans ?_
      rw [e]
      rfl
  · have hexec : exec .outputTick s = .next s.ticked :=
      (live_next hlive).trans (congrArg _ (outputTicks_of_no_arrival (.inr (.inr (.inl hrun)))))
    obtain ⟨f, k, m, n, e⟩ := ticked_rest s
    have hrcu : s.tickTimers.rcu = s.rcu := if_neg hrun
    rw [e] at hexec
    exact ⟨_, hexec, hto, rfl, congrArg Rcu.step hrcu, congrArg Rcu.iteration hrcu,
      congrArg Rcu.run hrcu, congrArg Rcu.governing hrcu, rfl, fun _ => hrcu,
      fun hr => absurd hr hrun⟩

end Sys2Proof.Machine
end

section
/-! SUPPORT. The starts of the steps (R9, R14): a HOLD or MARGIN step up to its landing and with its
arrival, and a CYCLE step in OFF; the claim window (O51). -/

namespace Sys2Proof.Machine

/-! ### An arrival in the fields that a start reads -/

theorem arrive_rcu {s : State} (hphase : s.rcu.phase = .settling ∨ s.rcu.phase = .powering) :
    s.arrive.rcu = { s.rcu with
      arrivalTaken := true
      on := if s.rcu.phase = .powering then some s.theStep.onMs else s.rcu.on
      blanking := if s.theStep.blankingMs = 0 then false else s.rcu.blanking
      blankingTimer := if s.theStep.blankingMs = 0 then none else some s.theStep.blankingMs
      boardOn := if s.theStep.blankingMs = 0 then s.boardOnNow else s.rcu.boardOn
      phase := s.arrive.rcu.phase, duration := s.arrive.rcu.duration
      reach := s.arrive.rcu.reach } := by
  have hseq := (arrivalSequence_sequenced s.arriving).rcu
  rw [(arriving_spec s).rcu, ← arrive_eq hphase] at hseq
  exact hseq

/-- With the board on a POWER_GOOD line does not follow the flags (R129). -/
theorem sync_powerGood {p : PowerGood} {force : Bool} {hb : Nat} {l : Line}
    (h : l.sup = .powerGood p) : l.sync true force hb = l := by
  simp only [Line.sync, h, if_true]

theorem refresh_powerGood {i : Fin 4} {p : PowerGood} {s : State} (hon : s.boardOnNow = true)
    (h : (s.lines.get i).sup = .powerGood p) : s.refresh.lines.get i = s.lines.get i := by
  refine (Quad.get_mapIdx ..).trans ?_
  rw [hon]
  exact sync_powerGood h

/-- A POWER_GOOD line that is not awaited keeps its state through an arrival with the board on
(R129). -/
theorem arrive_powerGood {i : Fin 4} {p : PowerGood} {s : State}
    (hphase : s.rcu.phase = .settling ∨ s.rcu.phase = .powering)
    (hpending : s.rcu.powerOnPending = false) (hon : s.boardOnNow = true)
    (hsup : (s.lines.get i).sup = .powerGood p) : (s.arrive.lines.get i).sup = .powerGood p := by
  have ha := arriving_spec s
  rw [arrive_eq hphase, (arrivalSequence_sequenced s.arriving).lines (ha.pending.trans hpending)]
  by_cases hblank : s.theStep.blankingMs = 0
  · rw [(ha.cleared hblank i).2, hon, sync_powerGood hsup, hsup]
  · rw [(ha.still hblank).2, hsup]

/-! ### The start of a HOLD or MARGIN step up to its landing (R9) -/

/-- OUT0 stands at 0 mV under a set-point above it: the start is a power-on (R9). -/
def State.startsPower (s : State) : Bool :=
  decide (s.sou.level0 = 0) && decide (0 < setPoint s.cfg s.theStep)

/-- The start of a HOLD or MARGIN step, before its lines join the board. -/
def State.settled (s : State) : State :=
  { s.setBlanking with
    sou := s.sou.atSlew s.cfg (setPoint s.cfg s.theStep) s.theStep.standbyMv s.theStep.fanPct
      s.theStep.slew
    rcu := { s.setBlanking.rcu with
      run := .running, phase := .settling, powerOnPending := s.startsPower
      governing := some s.rcu.step } }.refresh

/-- The start of a HOLD or MARGIN step before its landing report. -/
def State.atSettling (s : State) : State :=
  if s.settled.rcu.boardOn && !s.startsPower then
    { s.settled with lines := s.settled.lines.map (Line.joinPowered s.settled.tmu.uptime) }
  else s.settled

theorem startSettling_eq (s : State) : s.startSettling = s.atSettling.commandLanding := rfl

/-- A set-point above 0 mV is a target above 0 mV, and the other way round (R4, R33). -/
theorem target_pos_iff (c : LoadedConfig) (t : StepRec) :
    0 < min (setPoint c t) (limit0 c) ↔ 0 < setPoint c t := by
  have h := setPoint_le c t
  unfold limit0
  omega

theorem target_eq (c : LoadedConfig) (t : StepRec) :
    min (setPoint c t) (limit0 c) = min (setPoint c t) 13200 := by
  have h := setPoint_le c t
  unfold limit0
  omega

/-- What the start of a HOLD or MARGIN step leaves before its landing report (R9). -/
structure AtSettling (s u : State) : Prop where
  rest : u = { s with
    rcu := u.rcu, sou := u.sou, wck := u.wck, lanes := u.lanes, lines := u.lines }
  rcu : u.rcu = { s.rcu with
    run := .running, phase := .settling, powerOnPending := s.startsPower
    governing := some s.rcu.step, blanking := true
    boardOn := decide (0 < setPoint s.cfg s.theStep) }
  boardOn : u.boardOnNow = decide (0 < setPoint s.cfg s.theStep)
  sou : u.sou = s.sou.atSlew s.cfg (setPoint s.cfg s.theStep) s.theStep.standbyMv s.theStep.fanPct
    s.theStep.slew
  windows : ∀ i, u.wck.points.get i =
    { s.wck.points.get i with out := false, excursionRun := 0, returnRun := 0 }
  readings : ∀ i, (u.lines.get i).reading = (s.lines.get i).reading
  joined : 0 < setPoint s.cfg s.theStep → s.startsPower = false →
    ∀ i, (s.lines.get i).sup = .powerGood .off → (u.lines.get i).sup =
      if (s.lines.get i).high = true then
        .powerGood (.up ((s.lines.get i).riseUptime.getD s.tmu.uptime))
      else .powerGood .unseen

theorem settled_boardOnNow (s : State) :
    s.settled.boardOnNow = decide (0 < setPoint s.cfg s.theStep) := by
  have h : s.settled.boardOnNow =
      (decide (0 < min (setPoint s.cfg s.theStep) (limit0 s.cfg)) && true) := rfl
  rw [h, Bool.and_true]
  exact decide_eq_decide.mpr (target_pos_iff ..)

theorem joinPowered_reading (now : Uptime) (l : Line) : (l.joinPowered now).reading = l.reading := by
  unfold Line.joinPowered
  split
  · next h =>
    simp only [Line.reading, h]
    split <;> rfl
  · rfl

theorem atSettling_spec (s : State) : AtSettling s s.atSettling := by
  have hon : s.settled.rcu.boardOn = decide (0 < setPoint s.cfg s.theStep) := settled_boardOnNow s
  have hrcu : s.settled.rcu = { s.rcu with
      run := .running, phase := .settling, powerOnPending := s.startsPower
      governing := some s.rcu.step, blanking := true
      boardOn := decide (0 < setPoint s.cfg s.theStep) } := by
    rw [← hon]
    rfl
  have hwindows (i : Fin 8) : s.settled.wck.points.get i =
      { s.wck.points.get i with out := false, excursionRun := 0, returnRun := 0 } := Oct.get_map ..
  have hreading (i : Fin 4) : (s.settled.lines.get i).reading = (s.lines.get i).reading :=
    refresh_reading _ i
  by_cases hjoin : s.settled.rcu.boardOn && !s.startsPower
  · have hu : s.atSettling = { s.settled with
        lines := s.settled.lines.map (Line.joinPowered s.settled.tmu.uptime) } := if_pos hjoin
    rw [hu]
    refine ⟨rfl, hrcu, settled_boardOnNow s, rfl, hwindows, fun i => ?_, fun hpos _ i hoff => ?_⟩
    · exact (congrArg Line.reading (Quad.get_map ..)).trans
        ((joinPowered_reading ..).trans (hreading i))
    · have hline : s.settled.lines.get i = s.lines.get i :=
        refresh_powerGood ((settled_boardOnNow s).trans (decide_eq_true hpos)) hoff
      refine (congrArg Line.sup (Quad.get_map ..)).trans ?_
      rw [hline]
      simp only [Line.joinPowered, hoff, if_true]
      rfl
  · have hu : s.atSettling = s.settled := if_neg hjoin
    rw [hu]
    refine ⟨rfl, hrcu, settled_boardOnNow s, rfl, hwindows, hreading, fun hpos hpend => ?_⟩
    rw [hon, hpend, decide_eq_true hpos] at hjoin
    exact absurd rfl hjoin

/-! ### The landing of a start (R10, R36) -/

theorem AtSettling.cfl {s u : State} (h : AtSettling s u) : u.cfl = s.cfl := by rw [h.rest]

theorem AtSettling.theStep {s u : State} (h : AtSettling s u) : u.theStep = s.theStep :=
  theStep_congr h.cfl (by rw [h.rcu])

theorem AtSettling.cfg {s u : State} (h : AtSettling s u) : u.cfg = s.cfg := by
  simp only [State.cfg, h.cfl]

theorem AtSettling.phase {s u : State} (h : AtSettling s u) : u.rcu.phase = .settling := by
  rw [h.rcu]

theorem AtSettling.asks {s u : State} (h : AtSettling s u) :
    u.asks = setPoint s.cfg s.theStep := by
  rw [State.asks, if_neg (by rw [h.phase]; exact nofun), h.cfg, h.theStep]

/-- The outputs of a start: OUT0 goes to the set-point within the limits of R33, at once where the step
has no slew. -/
theorem AtSettling.out0 {s u : State} (h : AtSettling s u) :
    u.sou.target0 = min (setPoint s.cfg s.theStep) 13200 ∧
      u.sou.level0 = if s.theStep.slew = 0 then min (setPoint s.cfg s.theStep) 13200
        else s.sou.level0 := by
  rw [h.sou, ← target_eq]
  exact ⟨rfl, rfl⟩

theorem AtSettling.lands_iff {s u : State} (h : AtSettling s u) :
    u.sou.level0 = u.sou.target0 ∧ u.sou.level0 = u.asks ↔ s.landsAtStart := by
  obtain ⟨htarget, hlevel⟩ := h.out0
  rw [h.asks, hlevel, htarget]
  unfold State.landsAtStart
  split <;> omega

theorem commandLanding_of_arrives {u : State} (hlands : u.sou.level0 = u.sou.target0)
    (hrun : u.rcu.run = .running) (htaken : u.rcu.arrivalTaken = false)
    (hphase : u.rcu.phase ≠ .none) (hlevel : u.sou.level0 = u.asks) : u.commandLanding = u.arrive :=
  (if_pos hlands).trans (takeArrival_of_due hrun htaken hphase hlevel)

theorem commandLanding_of_not {u : State} (h : ¬(u.sou.level0 = u.sou.target0 ∧
    u.sou.level0 = u.asks) ∨ u.rcu.run ≠ .running ∨ u.rcu.arrivalTaken = true ∨
    u.rcu.phase = .none) : u.commandLanding = u := by
  unfold State.commandLanding
  split
  · next hlands =>
    refine takeArrival_of_not_due ?_
    rcases h with h | h | h | h
    · exact .inr (.inr (.inr fun hlevel => h ⟨hlands, hlevel⟩))
    · exact .inl h
    · exact .inr (.inl h)
    · exact .inr (.inr (.inl h))
  · rfl

theorem startSettling_of_lands {s : State} (hlands : s.landsAtStart)
    (htaken : s.rcu.arrivalTaken = false) : s.startSettling = s.atSettling.arrive := by
  have h := atSettling_spec s
  obtain ⟨hlevel, hasks⟩ := h.lands_iff.mpr hlands
  rw [startSettling_eq]
  refine commandLanding_of_arrives hlevel ?_ ?_ ?_ hasks <;> rw [h.rcu]
  · exact htaken
  · exact nofun

theorem startSettling_of_ramps {s : State} (h : ¬s.landsAtStart ∨ s.rcu.arrivalTaken = true) :
    s.startSettling = s.atSettling := by
  have hat := atSettling_spec s
  rw [startSettling_eq]
  refine commandLanding_of_not ?_
  rcases h with h | h
  · exact .inl (mt hat.lands_iff.mp h)
  · refine .inr (.inr (.inl ?_))
    rw [hat.rcu]
    exact h

/-! ### What the start of a HOLD or MARGIN step leaves (R9) -/

/-- The outputs' part of a start, whatever its landing has made of the button. -/
theorem atSlew_targets {s : State} {u : Sou} (h : u = { s.sou.atSlew s.cfg
      (setPoint s.cfg s.theStep) s.theStep.standbyMv s.theStep.fanPct s.theStep.slew with
    pressed := u.pressed, pressTimer := u.pressTimer }) :
    (u.target0 = min (setPoint s.cfg s.theStep) 13200 ∧
      u.target1 = min s.theStep.standbyMv (min s.cfg.standbyMaxMv 5500) ∧
      u.target2 = min s.theStep.fanPct 100 ∧ u.slew = s.theStep.slew) ∧
    (u.level0 = (if s.theStep.slew = 0 then u.target0 else s.sou.level0) ∧
      u.level1 = (if s.theStep.slew = 0 then u.target1 else s.sou.level1) ∧
      u.level2 = u.target2) := by
  rw [h, ← target_eq]
  exact ⟨⟨rfl, rfl, rfl, rfl⟩, rfl, rfl, rfl⟩

theorem startsPower_eq (s : State) :
    s.startsPower = decide (s.sou.level0 = 0 ∧ 0 < setPoint s.cfg s.theStep) :=
  (Bool.decide_and ..).symm

/-- A start that does not land OUT0 leaves the phase SETTLING and the arrival to come. -/
theorem settlingStarted_of_ramps {s : State} (h : ¬s.landsAtStart ∨ s.rcu.arrivalTaken = true) :
    SettlingStarted s s.startSettling := by
  have hat := atSettling_spec s
  rw [startSettling_of_ramps h]
  generalize s.atSettling = u at *
  have hnot (hl : s.landsAtStart) (ht : s.rcu.arrivalTaken = false) : False :=
    h.elim (· hl) fun h => absurd (ht.symm.trans h) nofun
  obtain ⟨htargets, hlevels⟩ := atSlew_targets (s := s) (u := u.sou) (by rw [hat.sou])
  have hpressed : u.sou.pressed = s.sou.pressed ∧ u.sou.pressTimer = s.sou.pressTimer := by
    rw [hat.sou]
    exact ⟨rfl, rfl⟩
  refine ⟨?_, ?_, ?_, htargets, hlevels, hat.windows, fun hpos hpend => hat.joined hpos ?_,
    fun _ => ?_, fun hl ht => (hnot hl ht).elim, fun hl ht => (hnot hl ht).elim,
    fun hl ht => (hnot hl ht).elim, fun hl ht => (hnot hl ht).elim⟩
  · rw [hat.rcu]
    exact ⟨rfl, rfl, rfl⟩
  · rw [hat.rcu, ← startsPower_eq]
  · rw [hat.rcu]
  · rw [hat.rcu] at hpend
    exact hpend
  · rw [hat.rcu]
    exact ⟨rfl, rfl, rfl, rfl, hpressed.1, hpressed.2⟩

/-- A start that lands OUT0 takes the arrival in the same event. -/
theorem settlingStarted_of_lands {s : State} (hlands : s.landsAtStart)
    (htaken : s.rcu.arrivalTaken = false) : SettlingStarted s s.startSettling := by
  have hat := atSettling_spec s
  rw [startSettling_of_lands hlands htaken]
  generalize s.atSettling = u at *
  have hphase : u.rcu.phase = .settling ∨ u.rcu.phase = .powering := .inl hat.phase
  have hrest := arrive_rest hphase
  have hrcu := arrive_rcu hphase
  have harrived := arrive_phaseArrived (s := u) hphase rfl
  have hkept (i : Fin 4) (p : PowerGood) := arrive_powerGood (i := i) (p := p) hphase
  have htmu : u.tmu = s.tmu := by rw [hat.rest]
  generalize u.arrive = t at *
  have hpend : u.rcu.powerOnPending = s.startsPower := by rw [hat.rcu]
  have htpend : t.rcu.powerOnPending = s.startsPower := by rw [hrcu, hat.rcu]
  have hline : u.powerGoodLine = s.powerGoodLine :=
    powerGoodLine_congr fun i => congrArg (·.2.2) (hat.readings i)
  have hhigh (i : Fin 4) : (u.lines.get i).high = (s.lines.get i).high :=
    congrArg (·.1) (hat.readings i)
  have hrise (i : Fin 4) : (u.lines.get i).riseUptime = (s.lines.get i).riseUptime :=
    congrArg (·.2.1) (hat.readings i)
  have hsou := congrArg State.sou hrest
  rw [hat.sou] at hsou
  obtain ⟨htargets, hlevels⟩ := atSlew_targets hsou
  obtain ⟨hposition, hblank, hunblanked, -, hpress, hwaits, hgoes⟩ := harrived
  rw [hat.theStep] at hblank hunblanked hpress hwaits hgoes
  have hleaves (h : u.leavesPhase t) : s.leavesSettling t := by
    have h := h.1 hat.phase
    simpa only [State.leavesSettling, hat.theStep] using h
  have hblanking : u.rcu.blanking = true := by rw [hat.rcu]
  refine ⟨?_, ?_, ?_, htargets, hlevels, fun i => ?_, fun hpos hnone i hoff => ?_,
    fun h => absurd hlands h, fun _ _ => ⟨hposition.2.1, fun hpos => ?_, hunblanked⟩,
    fun _ _ hp hpos => ?_, fun _ _ hp hzero i hi => ?_, fun _ _ h => hleaves (hgoes ?_).1⟩
  · exact ⟨hposition.1.trans (by rw [hat.rcu]), hposition.2.2.1.trans (by rw [hat.rcu]),
      hposition.2.2.2.2.trans (by rw [hat.rcu])⟩
  · rw [htpend, startsPower_eq]
  · rw [hrcu, hat.boardOn, hat.rcu]
    exact ite_self _
  · rw [hrest]
    exact hat.windows i
  · have hjoined := hat.joined hpos (htpend.symm.trans hnone) i hoff
    obtain ⟨p, hp⟩ : ∃ p, (if (s.lines.get i).high = true then Supervision.powerGood
        (.up ((s.lines.get i).riseUptime.getD s.tmu.uptime)) else .powerGood .unseen) =
        .powerGood p := by split <;> exact ⟨_, rfl⟩
    rw [hp] at hjoined ⊢
    exact hkept i p (hpend.trans (htpend.symm.trans hnone)) (hat.boardOn.trans (decide_eq_true hpos))
      hjoined
  · exact ⟨(hblank hpos).2.trans hblanking, (hblank hpos).1⟩
  · have hpower := htpend.symm.trans hp
    obtain ⟨-, hasks⟩ := hat.lands_iff.mpr hlands
    have hlevel : 0 < u.sou.level0 := by
      rw [hasks, hat.asks]
      rw [startsPower_eq] at hpower
      exact (of_decide_eq_true hpower).2
    obtain ⟨h1, h2, h3⟩ := hpress (hpend.trans hpower) hpos hlevel
    exact ⟨h1.trans hat.phase, h2, h3⟩
  · have hw := hwaits (hpend.trans (htpend.symm.trans hp)) hzero i (hline.trans hi)
    rw [hhigh, hrise, hat.phase, hat.cfg] at hw
    have ht : t.tmu = s.tmu := (congrArg State.tmu hrest).trans htmu
    rw [ht] at hw
    exact ⟨hw.1, fun hh => ⟨hleaves (hw.2 hh).1, (hw.2 hh).2⟩⟩
  · rw [hline]
    exact h.imp_left fun h => hpend.trans (htpend.symm.trans h)

theorem startSettling_started (s : State) : SettlingStarted s s.startSettling := by
  by_cases hlands : s.landsAtStart
  · cases htaken : s.rcu.arrivalTaken with
    | false => exact settlingStarted_of_lands hlands htaken
    | true => exact settlingStarted_of_ramps (.inr htaken)
  · exact settlingStarted_of_ramps (.inl hlands)

/-! ### OFF of a CYCLE step (R14) -/

/-- The state of OFF with its arrival taken, the pending lower claim aside. -/
def State.offTaken (s : State) : State :=
  let u := { s with
    sou := s.sou.forceZero
    rcu := { s.rcu with phase := .off, arrivalTaken := false, heldOn := false } }.refresh
  { u with rcu := { u.rcu with off := some s.theStep.offMs, arrivalTaken := true } }

/-- In a running run OFF is entered with its arrival (R14). -/
theorem enterOff_eq {s : State} (hrun : s.rcu.run = .running) :
    s.enterOff = s.offTaken.commitPending :=
  (takeArrival_of_due (s := { State.refresh { s with
      sou := s.sou.forceZero
      rcu := { s.rcu with phase := .off, arrivalTaken := false, heldOn := false } } with
    rcu := { (State.refresh { s with
        sou := s.sou.forceZero
        rcu := { s.rcu with phase := .off, arrivalTaken := false, heldOn := false } }).rcu with
      off := some s.theStep.offMs } }) hrun rfl nofun rfl).trans (arrive_of_off rfl)

/-- With the board off a lane is OFF and keeps the rest (R109). -/
theorem sync_false (enabled : Bool) (l : Lane) : l.sync false enabled = { l with lock := .off } := by
  obtain ⟨lock, sign, n, u, m, p, d, a, b, c, e⟩ := l
  cases lock <;> rfl

/-- What the entry of OFF leaves (R14): the board off with its lanes and lines, and the pending lower
claim committed. -/
structure OffEntered (s t : State) : Prop where
  rest : t = { s with
    rcu := t.rcu, sou := s.sou.forceZero, bgu := t.bgu, lanes := t.lanes, lines := t.lines
    bus := t.bus }
  rcu : t.rcu = { s.rcu with
    phase := .off, arrivalTaken := true, heldOn := false, boardOn := false
    off := some s.theStep.offMs }
  claim : Lowered s { s with bgu := t.bgu, bus := t.bus }
  lanes : ∀ i, t.lanes.get i = { s.lanes.get i with lock := .off }
  lines : ∀ i, t.lines.get i = (s.lines.get i).sync false false (s.cfg.lines.get i).hbMaxMs

theorem offTaken_boardOnNow (s : State) : State.boardOnNow { s with
    sou := s.sou.forceZero
    rcu := { s.rcu with phase := .off, arrivalTaken := false, heldOn := false } } = false := by
  simp [State.boardOnNow]

theorem enterOff_entered {s : State} (hrun : s.rcu.run = .running) : OffEntered s s.enterOff := by
  rw [enterOff_eq hrun]
  obtain ⟨hrest, hkept, hlowered, houtbox⟩ := commitPending_lowered s.offTaken
  have hoff := offTaken_boardOnNow s
  have hrcu : s.offTaken.rcu = { s.rcu with
      phase := .off, arrivalTaken := true, heldOn := false, boardOn := false
      off := some s.theStep.offMs } :=
    congrArg (fun on : Bool => { s.rcu with
      phase := .off, arrivalTaken := true, heldOn := false, boardOn := on
      off := some s.theStep.offMs }) hoff
  generalize s.offTaken.commitPending = t at *
  have htrcu : t.rcu = s.offTaken.rcu := by rw [hrest]
  have htlanes : t.lanes = s.offTaken.lanes := by rw [hrest]
  have htlines : t.lines = s.offTaken.lines := by rw [hrest]
  refine ⟨?_, htrcu.trans hrcu, ⟨rfl, hkept, hlowered, houtbox⟩, fun i => ?_, fun i => ?_⟩
  · rw [htrcu, htlanes, htlines]
    exact hrest
  · rw [htlanes]
    refine (Quad.get_mapIdx ..).trans ?_
    rw [hoff]
    exact sync_false ..
  · rw [htlines]
    refine (Quad.get_mapIdx ..).trans ?_
    rw [hoff]
    rfl

/-- A POWER_GOOD line is OFF with its timer stopped while the board is off (R129). -/
theorem sync_powerGood_off {p : PowerGood} {force : Bool} {hb : Nat} {l : Line}
    (h : l.sup = .powerGood p) :
    l.sync false force hb = { l with sup := .powerGood .off, timer := none } := by
  simp only [Line.sync, h, Bool.false_eq_true, if_false]

/-! ### The start of a CYCLE step (R9, R14) -/

/-- The state in which the start of a CYCLE step enters OFF. -/
def State.cycling (s : State) : State :=
  { s.setBlanking with
    sou := s.sou.atSlew s.cfg 0 s.theStep.standbyMv s.theStep.fanPct s.theStep.slew
    rcu := { s.setBlanking.rcu with run := .running, phase := .off, governing := some s.rcu.step } }

theorem startCycle_eq (s : State) : s.startCycle = s.cycling.enterOff := rfl

theorem startCycle_started (s : State) : CycleStarted s s.startCycle := by
  obtain ⟨hrest, hrcu, -, hlanes, hlines⟩ := enterOff_entered (s := s.cycling) rfl
  rw [startCycle_eq]
  generalize s.cycling.enterOff = t at *
  have hsou : t.sou = s.cycling.sou.forceZero := by rw [hrest]
  have hwck : t.wck = s.cycling.wck := by rw [hrest]
  refine ⟨?_, ?_, ?_, ?_, ?_, ?_, fun i => ?_, fun i => by rw [hlanes], fun i p hp => ?_⟩
  · rw [hrcu]
    exact ⟨rfl, rfl, rfl⟩
  · rw [hrcu]
    rfl
  · rw [hrcu]
    exact ⟨rfl, rfl, rfl, rfl, rfl⟩
  · rw [hsou]
    exact ⟨rfl, rfl, rfl, rfl⟩
  · rw [hsou]
    exact ⟨rfl, rfl, rfl⟩
  · rw [hsou]
    exact ⟨rfl, rfl⟩
  · rw [hwck]
    exact Oct.get_map ..
  · rw [hlines, sync_powerGood_off (l := s.cycling.lines.get i) hp]
    exact ⟨rfl, rfl⟩

/-! ### The start of a step (R9) -/

theorem startStep_of_cycle {s : State} (h : s.theStep.kind = .cycle) :
    s.startStep = s.startCycle := by simp only [State.startStep, h]

theorem startStep_of_settling {s : State} (h : s.theStep.kind ≠ .cycle) :
    s.startStep = s.startSettling := by
  unfold State.startStep
  split
  · next hk => exact absurd hk h
  · rfl
  · rfl

theorem startStep_started (s : State) : s.stepStarted s.startStep :=
  ⟨fun h => startStep_of_settling h ▸ startSettling_started s,
    fun h => startStep_of_cycle h ▸ startCycle_started s⟩

/-- Until its landing a start leaves the claim and the outbox as they stand (R66). -/
theorem startStep_ramps {s : State} (hkind : s.theStep.kind ≠ .cycle) (hlands : ¬s.landsAtStart) :
    s.startStep.bgu = s.bgu ∧ s.startStep.bus = s.bus := by
  rw [startStep_of_settling hkind, startSettling_of_ramps (.inl hlands), (atSettling_spec s).rest]
  exact ⟨rfl, rfl⟩

/-- The arrival of a start commits the pending lower claim (R66). -/
theorem startStep_lowers {s : State} (htaken : s.rcu.arrivalTaken = false)
    (h : s.theStep.kind = .cycle ∨ s.landsAtStart) :
    Lowered s { s with bgu := s.startStep.bgu, bus := s.startStep.bus } := by
  by_cases hkind : s.theStep.kind = .cycle
  · rw [startStep_of_cycle hkind, startCycle_eq]
    obtain ⟨-, -, ⟨-, hkept, hlowered, houtbox⟩, -⟩ := enterOff_entered (s := s.cycling) rfl
    exact ⟨rfl, hkept, hlowered, houtbox⟩
  · have hlands : s.landsAtStart := h.resolve_left hkind
    have hat := atSettling_spec s
    have hbgu : s.atSettling.bgu = s.bgu := by rw [hat.rest]
    have hbus : s.atSettling.bus = s.bus := by rw [hat.rest]
    obtain ⟨-, hkept, hlowered, houtbox⟩ := arrive_lowered (s := s.atSettling) (.inl hat.phase)
    rw [startStep_of_settling hkind, startSettling_of_lands hlands htaken]
    rw [hbgu] at hkept hlowered
    rw [hbus] at hkept hlowered houtbox
    exact ⟨rfl, hkept, hlowered, houtbox⟩

/-- The start of a step moves nothing in the outbox but the BUDGET class (R51). -/
theorem startStep_outbox (s : State) : s.startStep.bus = { s.bus with
    budget := s.startStep.bus.budget, budgetNext := s.startStep.bus.budgetNext } := by
  by_cases hkind : s.theStep.kind = .cycle
  · rw [startStep_of_cycle hkind, startCycle_eq]
    exact (enterOff_entered (s := s.cycling) rfl).claim.outbox
  · by_cases hlands : s.landsAtStart
    · cases htaken : s.rcu.arrivalTaken with
      | false => exact (startStep_lowers htaken (.inr hlands)).outbox
      | true =>
        rw [startStep_of_settling hkind, startSettling_of_ramps (.inr htaken),
          (atSettling_spec s).rest]
    · rw [(startStep_ramps hkind hlands).2]

/-- With no lower claim pending the start of a step leaves the claim and the outbox (R66). -/
theorem startStep_kept_claim {s : State} (hpending : s.bgu.pendingLower = none) :
    s.startStep.bgu = s.bgu ∧ s.startStep.bus = s.bus := by
  by_cases hkind : s.theStep.kind = .cycle
  · rw [startStep_of_cycle hkind, startCycle_eq]
    obtain ⟨-, -, ⟨-, hkept, -⟩, -⟩ := enterOff_entered (s := s.cycling) rfl
    exact hkept hpending
  · by_cases hlands : s.landsAtStart
    · cases htaken : s.rcu.arrivalTaken with
      | false => exact (startStep_lowers htaken (.inr hlands)).kept hpending
      | true =>
        rw [startStep_of_settling hkind, startSettling_of_ramps (.inr htaken),
          (atSettling_spec s).rest]
        exact ⟨rfl, rfl⟩
    · exact startStep_ramps hkind hlands

/-! ### The claim window (R59 to R61) -/

theorem rackSum_eq (w : Nat) (time : RackTime) (s : State) : s.rackSum w time =
    w + (s.bgu.peers.map fun p => match p.intent with
      | none => p.committed
      | some i => if precedes i.time p.slot time s.slot.toNat = true then i.claim
        else p.committed).sum := rfl

theorem exec_claimWindowExpiry {w : Nat} {time : RackTime} {s : State} (hlive : s.inReset = false)
    (hintent : s.bgu.intent = some ⟨w, .window time⟩) (hdue : s.bgu.window = some 0) :
    exec .claimWindowExpiry s = .next
      (if s.rackSum w time ≤ s.rackBudget then s.commitWindow w else s.refuseWindow) := by
  refine (live_next hlive).trans (congrArg _ ?_)
  simp only [windowExpires, hintent, hdue]
  rfl

/-- The state in which a window that commits its claim starts the step. -/
def State.windowWon (w : Nat) (s : State) : State :=
  { s with
    bgu := { s.bgu with intent := none, window := none, accumulator := 0, refusals := 0
                        committed := w, overdrawSamples := 0 }
    bus := s.bus.queueBudget .commit }

/-- Settles O51: the refusal by its equation, the commit by the start of the step. -/
theorem claimWindowDecidesByTheRackSum : Obligations.ClaimWindowDecidesByTheRackSum := by
  intro w sum time s hlive hintent hdue hrun hidle hsum
  have hexec := exec_claimWindowExpiry hlive hintent hdue
  have hrack : s.rackSum w time = sum := (rackSum_eq w time s).trans hsum.symm
  have hbudget : s.rackBudget = 400 + 200 * s.code.toNat := rfl
  have hqueue := queueBudget_idle .commit s.bus hidle
  rw [hrack, hbudget] at hexec
  refine ⟨fun hover => ?_, fun hwithin hclaim => ?_⟩
  · rw [if_neg (Nat.not_le.mpr hover)] at hexec
    rw [hexec, ← hqueue]
    rfl
  · have hstart : s.commitWindow w = (s.windowWon w).startStep := if_pos hrun
    rw [if_pos hwithin, hstart] at hexec
    have hkept := startStep_kept (s.windowWon w)
    have hclaimed : (s.windowWon w).startStep.bgu = (s.windowWon w).bgu ∧
        (s.windowWon w).startStep.bus = (s.windowWon w).bus := by
      rcases hclaim with ⟨hkind, hramps⟩ | hpending
      · exact startStep_ramps (s := s.windowWon w) hkind hramps
      · exact startStep_kept_claim (s := s.windowWon w) hpending
    obtain ⟨hsettling, hcycle⟩ := startStep_started (s.windowWon w)
    refine ⟨_, hexec, ⟨fun h => { hsettling h with }, fun h => { hcycle h with }⟩, hkept.iteration,
      hclaimed.1, ?_, hkept.fcu, hkept.asc, hkept.tmu, hkept.cfl⟩
    rw [hclaimed.2, ← hqueue]
    rfl

end Sys2Proof.Machine
end

section
/-! SUPPORT. The ends of steps and iterations (R7, R16, R19): the step after, or the completion, by the
duration timer (O35) and by the timers of a CYCLE step (O37). -/

namespace Sys2Proof.Machine

/-! ### Starts of states that differ in what no start reads -/

/-- What the start of a step reads is the same in two states (R9). -/
structure SameStart (s s' : State) : Prop where
  cfg : s'.cfg = s.cfg
  step : s'.rcu.step = s.rcu.step
  arrivalTaken : s'.rcu.arrivalTaken = s.rcu.arrivalTaken
  powerOnPending : s'.rcu.powerOnPending = s.rcu.powerOnPending
  duration : s'.rcu.duration = s.rcu.duration
  sou : s'.sou = s.sou
  uptime : s'.tmu.uptime = s.tmu.uptime
  windows : ∀ i, s'.wck.points.get i = s.wck.points.get i
  readings : ∀ i, (s'.lines.get i).reading = (s.lines.get i).reading
  off : ∀ i, (s.lines.get i).sup = .powerGood .off → (s'.lines.get i).sup = .powerGood .off

theorem SameStart.theStep {s s' : State} (h : SameStart s s') : s'.theStep = s.theStep := by
  simp only [State.theStep, State.stepAt, h.cfg, h.step]

theorem SameStart.landsAtStart {s s' : State} (h : SameStart s s') :
    s'.landsAtStart ↔ s.landsAtStart := by
  simp only [State.landsAtStart, h.theStep, h.cfg, h.sou]

theorem SettlingStarted.of {s s' t : State} (g : SettlingStarted s' t) (h : SameStart s s') :
    SettlingStarted s t := by
  have hline : s'.powerGoodLine = s.powerGoodLine :=
    powerGoodLine_congr fun i => congrArg (·.2.2) (h.readings i)
  have hhigh (i : Fin 4) : (s'.lines.get i).high = (s.lines.get i).high :=
    congrArg (·.1) (h.readings i)
  have hrise (i : Fin 4) : (s'.lines.get i).riseUptime = (s.lines.get i).riseUptime :=
    congrArg (·.2.1) (h.readings i)
  have hleaves : s'.leavesSettling t ↔ s.leavesSettling t := by
    simp only [State.leavesSettling, h.theStep]
  obtain ⟨hposition, hpending, hon, htargets, hlevels, hwindows, hjoined, hramping, harrived, hpressed,
    hwaits, hgoes⟩ := g
  simp only [h.theStep, h.landsAtStart, h.cfg, h.step, h.arrivalTaken, h.duration, h.sou, h.uptime,
    h.windows, hline, hhigh, hrise, hleaves] at *
  exact ⟨hposition, hpending, hon, htargets, hlevels, hwindows,
    fun hpos hnone i hoff => hjoined hpos hnone i (h.off i hoff), hramping, harrived, hpressed, hwaits,
    hgoes⟩

theorem CycleStarted.of {s s' t : State} (g : CycleStarted s' t) (h : SameStart s s') :
    CycleStarted s t := by
  obtain ⟨hposition, hpending, hphase, hout0, htargets, hlevels, hwindows, hlanes, hlines⟩ := g
  simp only [h.theStep, h.cfg, h.step, h.powerOnPending, h.sou, h.windows] at *
  refine ⟨hposition, hpending, hphase, hout0, htargets, hlevels, hwindows, hlanes, fun i p hp => ?_⟩
  have hrole : (s'.lines.get i).sup.isPowerGood = true :=
    (congrArg (·.2.2) (h.readings i)).trans (congrArg Supervision.isPowerGood hp)
  cases hsup : (s'.lines.get i).sup with
  | powerGood q => exact hlines i q hsup
  | unused | heartbeat _ | rate _ _ | resetWatch _ =>
    rw [hsup] at hrole
    exact absurd hrole Bool.false_ne_true

theorem stepStarted_of {s s' t : State} (g : s'.stepStarted t) (h : SameStart s s') :
    s.stepStarted t := by
  obtain ⟨hsettling, hcycle⟩ := g
  rw [h.theStep] at hsettling hcycle
  exact ⟨fun hk => (hsettling hk).of h, fun hk => (hcycle hk).of h⟩

/-! ### What a start leaves alone in the run -/

/-- The items of the Run Controller that no start of a step moves. -/
def Rcu.lasting (r : Rcu) : Bool × Verdict × EndCause × Timer × Bool × Bool :=
  (r.clamped, r.verdict, r.cause, r.on, r.heldPowerOn, r.heldReach)

/-- The items of the Budget Unit that no commit of a pending lower claim moves (R66; for the refusal
count log entry 39). -/
def Bgu.asking (b : Bgu) :
    Nat × Option OwnIntent × Timer × Option Uptime × Nat × List Peer × Nat :=
  (b.refusals, b.intent, b.window, b.waitingSince, b.accumulator, b.peers, b.overdrawEpisodes)

theorem Lowered.asking {s t : State} (h : Lowered s t) : t.bgu.asking = s.bgu.asking := by
  cases hw : s.bgu.pendingLower with
  | none => rw [(h.kept hw).1]
  | some w =>
    rw [(h.lowered w hw).1]
    rfl

/-- What a start leaves of the run and of the claim beyond its own items (R9). -/
structure StartKept (s t : State) : Prop where
  lasting : t.rcu.lasting = s.rcu.lasting
  heldOn : s.rcu.heldOn = false → t.rcu.heldOn = false
  governing : t.rcu.governing = some s.rcu.step
  asking : t.bgu.asking = s.bgu.asking

theorem startStep_startKept (s : State) : StartKept s s.startStep := by
  by_cases hkind : s.theStep.kind = .cycle
  · rw [startStep_of_cycle hkind, startCycle_eq]
    obtain ⟨-, hrcu, hclaim, -⟩ := enterOff_entered (s := s.cycling) rfl
    exact ⟨(congrArg Rcu.lasting hrcu).trans rfl, fun _ => congrArg Rcu.heldOn hrcu,
      congrArg Rcu.governing hrcu, hclaim.asking⟩
  · rw [startStep_of_settling hkind]
    have hat := atSettling_spec s
    have hbgu : s.atSettling.bgu = s.bgu := by rw [hat.rest]
    by_cases hlands : s.landsAtStart ∧ s.rcu.arrivalTaken = false
    · rw [startSettling_of_lands hlands.1 hlands.2]
      have hphase : s.atSettling.rcu.phase = .settling ∨ s.atSettling.rcu.phase = .powering :=
        .inl hat.phase
      have hrcu := arrive_rcu hphase
      rw [if_neg (by rw [hat.phase]; exact nofun), hat.rcu] at hrcu
      exact ⟨(congrArg Rcu.lasting hrcu).trans rfl, fun h => (congrArg Rcu.heldOn hrcu).trans h,
        congrArg Rcu.governing hrcu, (arrive_lowered hphase).asking.trans (congrArg Bgu.asking hbgu)⟩
    · rw [startSettling_of_ramps ((not_and_or.mp hlands).imp_right Bool.eq_true_of_not_eq_false)]
      exact ⟨(congrArg Rcu.lasting hat.rcu).trans rfl, fun h => (congrArg Rcu.heldOn hat.rcu).trans h,
        congrArg Rcu.governing hat.rcu, congrArg Bgu.asking hbgu⟩

/-! ### The end of a step (R19) -/

/-- The state of a step's end before the next one or the completion: the timers stopped, nothing held,
no reach request, and no power-good wait (R19, R128). -/
def State.stepStopped (s : State) : State :=
  { s with
    rcu := s.rcu.stopTimers.dropHeld
    wck := { s.wck with reach := none }
    lines := s.lines.map (Line.abandonWait s.tmu.uptime) }

theorem lastStep_of_ge {s : State} (h : s.cfg.steps.length ≤ s.rcu.step + 1) : s.lastStep = true :=
  decide_eq_true h

theorem lastStep_of_lt {s : State} (h : s.rcu.step + 1 < s.cfg.steps.length) : s.lastStep = false :=
  decide_eq_false (by omega)

theorem endStep_of_last {s : State} (h : s.cfg.steps.length ≤ s.rcu.step + 1) :
    s.endStep = s.stepStopped.completeRun := if_pos (lastStep_of_ge (s := s.stepStopped) h)

theorem endStep_of_next {s : State} (h : s.rcu.step + 1 < s.cfg.steps.length) :
    s.endStep = s.stepStopped.enterStep (s.rcu.step + 1) :=
  if_neg (Bool.eq_false_iff.mp (lastStep_of_lt (s := s.stepStopped) h))

/-- The run that completes at the end of its last step has written its open groups (R19, R145). -/
theorem endStep_completes {s : State} (h : s.cfg.steps.length ≤ s.rcu.step + 1) :
    RunCompleted s.openRecords s s.endStep ∧ s.endStep.asc = s.asc ∧
      s.endStep.rcu.heldOn = false ∧ s.endStep.rcu.heldReach = false := by
  rw [endStep_of_last h]
  have hclosed := finalClosing_closed .completing s.stepStopped
  obtain ⟨hpassed, hfailed, hlimited, hwrote, hnotices⟩ := hclosed.completes
  have hend : ∃ v cause, s.stepStopped.completeRun =
      (s.stepStopped.finalClosing .completing).runEnd v cause := by
    unfold State.completeRun State.finishCompletion
    (repeat' split) <;> exact ⟨_, _, rfl⟩
  refine ⟨⟨fun hn => { hpassed hn with }, fun hn hl => { hfailed hn hl with },
    fun hl => { hlimited hl with }, { hwrote with }, hnotices⟩, ?_, ?_⟩
  · obtain ⟨v, cause, e⟩ := hend
    rw [e]
    exact (hclosed.runEnd_kept v cause).1
  · obtain ⟨v, cause, e⟩ := hend
    obtain ⟨o, b, bn, ns, nd, lanes, lines, he, -⟩ :=
      runEnd_spec v cause (s.stepStopped.finalClosing .completing)
    rw [e, he]
    exact ⟨rfl, rfl⟩

/-! ### The entry of a step that claims no more (R7, R66) -/

/-- The state in which a step that claims no more than is committed starts. -/
def State.readied (n : Nat) (s : State) : State :=
  { s.positioned n with
    bgu := { (s.positioned n).bgu with
      pendingLower := if (s.stepAt n).claimW < s.bgu.committed then some (s.stepAt n).claimW
        else none } }

theorem enterStep_of_le {n : Nat} {s : State} (h : (s.stepAt n).claimW ≤ s.bgu.committed) :
    s.enterStep n = (s.readied n).startStep := by
  rcases Nat.lt_or_eq_of_le h with hlt | heq
  · rw [enterStep_lowers hlt, State.readied, if_pos hlt]
  · rw [enterStep_starts heq, State.readied, if_neg (heq ▸ Nat.lt_irrefl _)]
    rfl

theorem abandonWait_reading (now : Uptime) (l : Line) : (l.abandonWait now).reading = l.reading := by
  unfold Line.abandonWait
  split
  · next h =>
    simp only [Line.reading, h]
    split <;> rfl
  · rfl

/-- The end of a step changes nothing that the start of the next one reads. -/
theorem stepStopped_sameStart (n : Nat) (s : State) :
    SameStart (s.entering n) (s.stepStopped.readied n) := by
  refine ⟨rfl, rfl, rfl, rfl, rfl, rfl, rfl, fun _ => rfl, fun i => ?_, fun i hoff => ?_⟩
  · exact (congrArg Line.reading (Quad.get_map ..)).trans (abandonWait_reading ..)
  · refine (congrArg Line.sup (Quad.get_map ..)).trans ?_
    have hsup : (s.lines.get i).sup ≠ .powerGood .waiting := by
      rw [show (s.lines.get i).sup = .powerGood .off from hoff]
      exact nofun
    rw [Line.abandonWait, if_neg hsup]
    exact hoff

theorem stepTimerDue_of {timer : Timer} {s : State} (hrun : s.rcu.run = .running)
    (hdue : timer = some 0) : s.stepTimerDue timer = true := by
  simp only [State.stepTimerDue, hrun, hdue, Timer.due, decide_true, Bool.and_self]

theorem exec_durationTimerExpiry {s : State} (hlive : s.inReset = false)
    (hrun : s.rcu.run = .running) (hdue : s.rcu.duration = some 0) :
    exec .durationTimerExpiry s = .next s.endStep :=
  (live_next hlive).trans (congrArg _ (if_pos (stepTimerDue_of hrun hdue)))

/-- Settles O35: the completion by `endStep_completes`, the entry that asks by its equation, and the one
that starts by `startStep_started`. -/
theorem durationEndsTheStep : Obligations.DurationEndsTheStep := by
  refine ⟨fun c x => ⟨fun hk => ?_, fun hk => ?_, fun hlo hhi => ?_, fun hover => ?_⟩,
    fun s hlive hrun hdue hlast => ?_, fun next s hlive hrun hdue hnext hthe => ⟨?_, ?_⟩⟩
  · unfold rawSetPoint
    split
    · next h => exact absurd h hk
    · rfl
    · rfl
  · have hraw : rawSetPoint c x = (c.mainNominal : Int) * (10000 + x.marginBp) / 10000 := by
      simp only [rawSetPoint, hk]
    rw [hraw]
    omega
  · unfold setPoint
    omega
  · unfold setPoint
    omega
  · obtain ⟨hcompleted, hasc, -⟩ := endStep_completes hlast
    exact ⟨_, exec_durationTimerExpiry hlive hrun hdue, hcompleted, hasc⟩
  · intro hmore hintent hsettled hlistening hidle
    subst hthe
    have hasks := (enterStep_asks (s := s.stepStopped) hmore).trans
      (askClaim_queues _ hintent hidle hsettled hlistening)
    rw [← endStep_of_next hnext] at hasks
    exact ⟨_, (exec_durationTimerExpiry hlive hrun hdue).trans (congrArg _ hasks),
      ⟨rfl, rfl, rfl, rfl, rfl, rfl, rfl, rfl⟩, rfl, rfl, rfl, rfl, rfl⟩
  · intro e hle he
    subst hthe he
    have hend : s.endStep = (s.stepStopped.readied (s.rcu.step + 1)).startStep :=
      (endStep_of_next hnext).trans (enterStep_of_le (s := s.stepStopped) hle)
    have hsame := stepStopped_sameStart (s.rcu.step + 1) s
    have hkept := startStep_kept (s.stepStopped.readied (s.rcu.step + 1))
    have hstart := startStep_startKept (s.stepStopped.readied (s.rcu.step + 1))
    refine ⟨_, (exec_durationTimerExpiry hlive hrun hdue).trans (congrArg _ hend),
      stepStarted_of (startStep_started _) hsame,
      hkept.iteration, congrArg (·.1) hstart.lasting, fun ⟨hkind, hramps⟩ => ?_, fun hlands => ?_,
      hkept.fcu, hkept.asc, hkept.tmu, hkept.cfl⟩
    · obtain ⟨hbgu, hbus⟩ := startStep_ramps (s := s.stepStopped.readied (s.rcu.step + 1)) hkind
        (mt hsame.landsAtStart.mp hramps)
      rw [hbgu, hbus]
      exact ⟨rfl, rfl, rfl⟩
    · obtain ⟨-, hnone, hsome⟩ := startStep_lowers
        (s := s.stepStopped.readied (s.rcu.step + 1)) rfl (hlands.imp_right hsame.landsAtStart.mpr)
      by_cases hlt : (s.stepAt (s.rcu.step + 1)).claimW < s.bgu.committed
      · obtain ⟨hbgu, hbus⟩ := hsome _ (if_pos hlt)
        refine ⟨congrArg Bgu.committed hbgu, congrArg Bgu.pendingLower hbgu, fun hidle => ?_⟩
        rw [if_pos hlt]
        exact hbus hidle
      · obtain ⟨hbgu, hbus⟩ := hnone (if_neg hlt)
        refine ⟨(congrArg Bgu.committed hbgu).trans (Nat.le_antisymm (Nat.le_of_not_lt hlt) hle),
          (congrArg Bgu.pendingLower hbgu).trans (if_neg hlt), fun _ => ?_⟩
        rw [if_neg hlt]
        exact hbus

/-! ### The entry of the next step (R7) -/

/-- What the entry of OFF leaves alone, and the outputs (R14). -/
theorem OffEntered.kept {s t : State} (h : OffEntered s t) :
    t.sou = s.sou.forceZero ∧ t.fcu = s.fcu ∧ t.asc = s.asc ∧ t.tmu = s.tmu ∧ t.cfl = s.cfl := by
  rw [h.rest]
  exact ⟨rfl, rfl, rfl, rfl, rfl⟩

/-- What the entry of the next step leaves, from the state in which the step ended (R7, R19). -/
structure StepEntered (s t : State) : Prop where
  position : t.rcu.step = s.rcu.step + 1 ∧ t.rcu.iteration = 0
  held : t.rcu.heldPowerOn = false ∧ t.rcu.heldReach = false ∧ t.rcu.heldOn = false ∧
    t.rcu.on = none
  wait : t.bgu.waitingSince = none ∧ t.bgu.accumulator = 0 ∧ t.bgu.refusals = s.bgu.refusals ∧
    t.bgu.peers = s.bgu.peers
  kept : t.fcu = s.fcu ∧ t.asc = s.asc ∧ t.tmu = s.tmu ∧ t.cfl = s.cfl
  outbox : t.bus = { s.bus with budget := t.bus.budget, budgetNext := t.bus.budgetNext }
  asks : s.bgu.committed < (s.stepAt (s.rcu.step + 1)).claimW →
    (t.rcu.run = .claiming ∧ t.rcu.phase = .none ∧ t.rcu.governing = s.rcu.governing) ∧
    (t.rcu.duration = none ∧ t.rcu.reach = none ∧ t.rcu.off = none ∧ t.rcu.blankingTimer = none ∧
      t.wck.reach = none) ∧
    t.sou = s.sou ∧ t.bgu.committed = s.bgu.committed
  starts : (s.stepAt (s.rcu.step + 1)).claimW ≤ s.bgu.committed →
    t.rcu.run = .running ∧ t.rcu.governing = some (s.rcu.step + 1) ∧ t.bgu.intent = s.bgu.intent ∧
      t.bgu.window = s.bgu.window

/-- The state in which a step that claims more asks for its claim (R7). -/
def State.claiming (n : Nat) (s : State) : State :=
  { s.positioned n with
    rcu := { (s.positioned n).rcu with run := .claiming, phase := .none } }.refresh

theorem endStep_asks {s : State} (hnext : s.rcu.step + 1 < s.cfg.steps.length)
    (hmore : s.bgu.committed < (s.stepAt (s.rcu.step + 1)).claimW) :
    s.endStep = State.askClaim (s.stepAt (s.rcu.step + 1)).claimW
      (s.stepStopped.claiming (s.rcu.step + 1)) :=
  (endStep_of_next hnext).trans (enterStep_asks (s := s.stepStopped) hmore)

theorem endStep_starts {s : State} (hnext : s.rcu.step + 1 < s.cfg.steps.length)
    (hle : (s.stepAt (s.rcu.step + 1)).claimW ≤ s.bgu.committed) :
    s.endStep = (s.stepStopped.readied (s.rcu.step + 1)).startStep :=
  (endStep_of_next hnext).trans (enterStep_of_le (s := s.stepStopped) hle)

theorem endStep_entered {s : State} (hnext : s.rcu.step + 1 < s.cfg.steps.length) :
    StepEntered s s.endStep := by
  rcases Nat.lt_or_ge s.bgu.committed (s.stepAt (s.rcu.step + 1)).claimW with hmore | hle
  · rw [endStep_asks hnext hmore]
    obtain ⟨i, wd, b, bn, e, -⟩ := askClaim_spec (s.stepAt (s.rcu.step + 1)).claimW
      (s.stepStopped.claiming (s.rcu.step + 1))
    rw [e]
    exact ⟨⟨rfl, rfl⟩, ⟨rfl, rfl, rfl, rfl⟩, ⟨rfl, rfl, rfl, rfl⟩, ⟨rfl, rfl, rfl, rfl⟩, rfl,
      fun _ => ⟨⟨rfl, rfl, rfl⟩, ⟨rfl, rfl, rfl, rfl, rfl⟩, rfl, rfl⟩,
      fun h => absurd hmore (by omega)⟩
  · rw [endStep_starts hnext hle]
    have hkept := startStep_kept (s.stepStopped.readied (s.rcu.step + 1))
    obtain ⟨hlasting, hheld, hgoverning, hasking⟩ :=
      startStep_startKept (s.stepStopped.readied (s.rcu.step + 1))
    simp only [Rcu.lasting, Bgu.asking, Prod.mk.injEq] at hlasting hasking
    obtain ⟨-, -, -, hon, hpower, hreach⟩ := hlasting
    obtain ⟨hrefusals, hintent, hwindow, hwaiting, haccumulator, hpeers, -⟩ := hasking
    exact ⟨⟨hkept.step, hkept.iteration⟩, ⟨hpower, hreach, hheld rfl, hon⟩,
      ⟨hwaiting, haccumulator, hrefusals, hpeers⟩, ⟨hkept.fcu, hkept.asc, hkept.tmu, hkept.cfl⟩,
      startStep_outbox _, fun h => absurd h (by omega), fun _ => ⟨hkept.run, hgoverning, hintent, hwindow⟩⟩

/-! ### The power-on of a CYCLE step (R15) -/

/-- POWERING as it begins, before its landing report (R15). -/
def State.atPowering (s : State) : State :=
  { s.setBlanking with
    sou := s.sou.atSlew0 s.cfg (setPoint s.cfg s.theStep) s.theStep.slew
    rcu := { s.setBlanking.rcu with
      phase := .powering, arrivalTaken := false
      powerOnPending := decide (0 < setPoint s.cfg s.theStep) } }.refresh

theorem atPowering_boardOnNow {s : State} (hrun : s.rcu.run = .running) :
    s.atPowering.boardOnNow = decide (0 < setPoint s.cfg s.theStep) := by
  have h : s.atPowering.boardOnNow = (s.rcu.run.active &&
      decide (0 < min (setPoint s.cfg s.theStep) (limit0 s.cfg)) && true) := rfl
  rw [h, hrun]
  simp only [RunState.active, Bool.true_and, Bool.and_true, target_pos_iff]

theorem atPowering_rcu {s : State} (hrun : s.rcu.run = .running) : s.atPowering.rcu = { s.rcu with
    phase := .powering, arrivalTaken := false
    powerOnPending := decide (0 < setPoint s.cfg s.theStep), blanking := true
    boardOn := decide (0 < setPoint s.cfg s.theStep) } := by
  have h : s.atPowering.rcu = { s.rcu with
    phase := .powering, arrivalTaken := false
    powerOnPending := decide (0 < setPoint s.cfg s.theStep), blanking := true
    boardOn := s.atPowering.boardOnNow } := rfl
  rw [h, atPowering_boardOnNow hrun]

/-- The end of an iteration that is not the last one (R16). -/
theorem endIteration_of_lt {s : State} (h : s.rcu.iteration + 1 < s.theStep.repeats) :
    s.endIteration =
      { s with rcu := { s.rcu with iteration := s.rcu.iteration + 1 } }.enterOff := if_pos h

theorem endIteration_of_ge {s : State} (h : s.theStep.repeats ≤ s.rcu.iteration + 1) :
    s.endIteration = s.endStep := if_neg (by omega)

theorem exec_onTimerExpiry {s : State} (hlive : s.inReset = false) (hrun : s.rcu.run = .running)
    (hdue : s.rcu.on = some 0) : exec .onTimerExpiry s = .next
      (if s.rcu.phase = .on then { s with rcu := { s.rcu with on := none } }.endIteration
      else { s with rcu := { s.rcu with on := none, heldOn := true } }) :=
  (live_next hlive).trans (congrArg _ (if_pos (stepTimerDue_of hrun hdue)))

/-- OFF has run out: the off timer stopped, POWERING to be entered. -/
def State.offStopped (s : State) : State := { s with rcu := { s.rcu with off := none } }

theorem exec_offTimerExpiry {s : State} (hlive : s.inReset = false) (hrun : s.rcu.run = .running)
    (hdue : s.rcu.off = some 0) :
    exec .offTimerExpiry s = .next s.offStopped.atPowering.commandLanding :=
  (live_next hlive).trans (congrArg _ (if_pos (stepTimerDue_of hrun hdue)))

theorem atPowering_target {s : State} (hmax : setPoint s.cfg s.theStep ≤ 13200) :
    s.atPowering.sou.target0 = setPoint s.cfg s.theStep :=
  (target_eq ..).trans (Nat.min_eq_left hmax)

/-- A power-on whose start lands OUT0 takes the arrival in the same event (R10, R15). -/
theorem atPowering_lands {s : State} (hrun : s.rcu.run = .running)
    (hmax : setPoint s.cfg s.theStep ≤ 13200) (hlevel : s.sou.level0 = 0)
    (hlands : s.theStep.slew = 0 ∨ setPoint s.cfg s.theStep = 0) :
    s.atPowering.commandLanding = s.atPowering.arrive ∧
      s.atPowering.sou.level0 = setPoint s.cfg s.theStep := by
  have htarget := atPowering_target hmax
  have hstands : s.atPowering.sou.level0 = setPoint s.cfg s.theStep := by
    by_cases hslew : s.theStep.slew = 0
    · exact (if_pos hslew).trans htarget
    · exact ((if_neg hslew).trans hlevel).trans (hlands.resolve_left hslew).symm
  exact ⟨commandLanding_of_arrives (hstands.trans htarget.symm) hrun rfl nofun hstands, hstands⟩

/-- What a power-on that lands at its start leaves, for O37. -/
theorem powering_arrives {s t : State} (hrun : s.rcu.run = .running)
    (hmax : setPoint s.cfg s.theStep ≤ 13200) (hlower : s.bgu.pendingLower = none)
    (hstands : s.atPowering.sou.level0 = setPoint s.cfg s.theStep) (ht : t = s.atPowering.arrive) :
    (t.rcu.off = s.rcu.off ∧ t.rcu.arrivalTaken = true ∧
      t.rcu.powerOnPending = decide (0 < setPoint s.cfg s.theStep) ∧
      t.rcu.boardOn = decide (0 < setPoint s.cfg s.theStep) ∧ t.rcu.on = some s.theStep.onMs) ∧
    (0 < s.theStep.blankingMs →
      t.rcu.blanking = true ∧ t.rcu.blankingTimer = some s.theStep.blankingMs) ∧
    (s.theStep.blankingMs = 0 → t.rcu.blanking = false ∧ t.rcu.blankingTimer = none) ∧
    (t.sou.target0 = setPoint s.cfg s.theStep ∧ t.sou.level0 = setPoint s.cfg s.theStep ∧
      t.sou.level1 = s.sou.level1 ∧ t.sou.level2 = s.sou.level2) ∧
    (0 < setPoint s.cfg s.theStep → 0 < s.theStep.pressMs → t.rcu.phase = .powering ∧
      t.sou.pressed = true ∧ t.sou.pressTimer = some s.theStep.pressMs) ∧
    (setPoint s.cfg s.theStep = 0 ∨ s.theStep.pressMs = 0 ∧ s.powerGoodLine = none →
      t.rcu.phase = .on) ∧
    t.bgu = s.bgu ∧ t.fcu = s.fcu ∧ t.bus = s.bus ∧ t.asc = s.asc ∧ t.tmu = s.tmu := by
  subst ht
  have hphase : s.atPowering.rcu.phase = .settling ∨ s.atPowering.rcu.phase = .powering := .inr rfl
  have hrcu := arrive_rcu hphase
  rw [atPowering_boardOnNow hrun, atPowering_rcu hrun, if_pos rfl, ite_self] at hrcu
  have hrest := arrive_rest hphase
  have hsou := congrArg State.sou hrest
  obtain ⟨hbgu, hbus⟩ := (arrive_lowered hphase).kept hlower
  have hline : s.atPowering.powerGoodLine = s.powerGoodLine :=
    powerGoodLine_congr fun i => congrArg (·.2.2) (refresh_reading _ i)
  obtain ⟨hposition, hblank, hunblanked, -, hpressed, -, hgoes⟩ := arrive_phaseArrived hphase hstands
  refine ⟨?_, fun hpos => ⟨(hblank hpos).2, (hblank hpos).1⟩, hunblanked, ?_,
    fun hpos hpress => hpressed (decide_eq_true hpos) hpress hpos, fun h => ?_, hbgu, ?_, hbus, ?_, ?_⟩
  · rw [hrcu]
    exact ⟨rfl, rfl, rfl, rfl, rfl⟩
  · exact ⟨(congrArg Sou.target0 hsou).trans (atPowering_target hmax),
      (congrArg Sou.level0 hsou).trans hstands, (congrArg Sou.level1 hsou).trans rfl,
        (congrArg Sou.level2 hsou).trans rfl⟩
  · refine (hgoes (h.imp (fun h0 => ?_) fun h0 => ⟨h0.1, hline.trans h0.2⟩)).1.2 rfl
    exact decide_eq_false (by omega)
  · exact (congrArg State.fcu hrest).trans rfl
  · exact (congrArg State.asc hrest).trans rfl
  · exact (congrArg State.tmu hrest).trans rfl

/-- Settles O37: the power-on by `atPowering_rcu` and its landing, the power-off by
`enterOff_entered`, and the last iteration by the end of the step. -/
theorem cycleTimersSwitchTheBoard : Obligations.CycleTimersSwitchTheBoard := by
  intro s hlive hrun
  refine ⟨fun hphase hdue hlevel hslew hpos hmax => ?_, fun hphase hdue hlevel hlands hmax hlower => ?_,
    fun hphase hdue hmore => ?_, fun hphase hdue hlast => ?_, fun hphase hdue => ?_⟩
  · have hexec := exec_offTimerExpiry hlive hrun hdue
    have hrcu := atPowering_rcu (s := s.offStopped) hrun
    have htarget := atPowering_target (s := s.offStopped) hmax
    have hzero : s.offStopped.atPowering.sou.level0 = 0 :=
      (if_neg (Nat.ne_of_gt hslew)).trans hlevel
    have hramps : s.offStopped.atPowering.sou.level0 ≠ s.offStopped.atPowering.sou.target0 := by
      rw [hzero, htarget]
      exact Nat.ne_of_lt hpos
    rw [commandLanding_of_not (.inl fun h => hramps h.1)] at hexec
    refine ⟨_, hexec, ?_, ⟨htarget, hzero, rfl, rfl, rfl, rfl, rfl⟩, fun i => ?_, rfl, rfl, rfl,
      rfl, rfl⟩
    · rw [hrcu]
      exact ⟨rfl, rfl, rfl, decide_eq_true hpos, rfl, decide_eq_true hpos, hrun, rfl, rfl⟩
    · exact congrArg Window.out (Oct.get_map ..)
  · obtain ⟨harrives, hstands⟩ := atPowering_lands (s := s.offStopped) hrun hmax hlevel hlands
    have hexec := (exec_offTimerExpiry hlive hrun hdue).trans (congrArg _ harrives)
    obtain ⟨⟨h1, h2, h3, h4, h5⟩, h6, h7, ⟨h8, h9, h10, h11⟩, hrest⟩ :=
      powering_arrives (s := s.offStopped) hrun hmax hlower hstands rfl
    exact ⟨_, hexec, h1, h2, h3, h4, h5, h6, h7, h8, h9, h10, h11, hrest⟩
  · have hexec := exec_onTimerExpiry hlive hrun hdue
    rw [if_pos hphase, endIteration_of_lt (s := { s with rcu := { s.rcu with on := none } }) hmore]
      at hexec
    have hoff := enterOff_entered (s := { s with
      rcu := { s.rcu with on := none, iteration := s.rcu.iteration + 1 } }) hrun
    obtain ⟨hsou, hfcu, hasc, htmu, -⟩ := hoff.kept
    obtain ⟨-, hrcu, ⟨-, hkept, hlowered⟩, hlanes, -⟩ := hoff
    refine ⟨_, hexec, ?_, ?_, fun i => congrArg Lane.lock (hlanes i), hkept, fun w hw hidle => ?_,
      hfcu, hasc, htmu⟩
    · exact ⟨congrArg Rcu.phase hrcu, congrArg Rcu.iteration hrcu, congrArg Rcu.on hrcu,
        congrArg Rcu.off hrcu, congrArg Rcu.boardOn hrcu, (congrArg Rcu.run hrcu).trans hrun,
        (congrArg Rcu.step hrcu).trans rfl⟩
    · exact ⟨congrArg Sou.target0 hsou, congrArg Sou.level0 hsou, congrArg Sou.pressed hsou,
        congrArg Sou.pressTimer hsou, (congrArg Sou.level1 hsou).trans rfl,
        (congrArg Sou.level2 hsou).trans rfl⟩
    · obtain ⟨hbgu, hbus⟩ := hlowered w hw
      exact ⟨hbgu, hbus hidle⟩
  · have hexec := exec_onTimerExpiry hlive hrun hdue
    rw [if_pos hphase, endIteration_of_ge (s := { s with rcu := { s.rcu with on := none } }) hlast]
      at hexec
    have hend : State.endStep { s with rcu := { s.rcu with on := none } } = s.endStep := rfl
    rw [hend] at hexec
    refine ⟨hexec.trans ?_, fun hnext => ?_, fun hfinal => ?_⟩
    · exact (exec_durationTimerExpiry (s := { s with rcu := { s.rcu with duration := some 0 } }) hlive hrun
        rfl).symm
    · have h := endStep_entered hnext
      exact ⟨_, hexec, h.position.1, h.position.2, h.held.2.2.2, h.kept.1,
        fun hmore => ⟨(h.asks hmore).1.1, (h.asks hmore).2.2.1⟩,
        fun hle => ⟨(h.starts hle).1, (h.starts hle).2.1⟩⟩
    · exact ⟨_, hexec, (endStep_completes hfinal).1⟩
  · exact (exec_onTimerExpiry hlive hrun hdue).trans (congrArg _ (if_neg (by rw [hphase]; exact nofun)))

end Sys2Proof.Machine
end

section
/-! SUPPORT. The power-on sequence completes (R11, R15, R16): by the end of a press (O33) and by the ends
of a power-good wait (O34). -/

namespace Sys2Proof.Machine

/-! ### Completions of one run seen from states of the same place -/

theorem RunCompleted.position {written : List Record} {s t : State} (h : RunCompleted written s t) :
    t.rcu.step = s.rcu.step ∧ t.rcu.phase = s.rcu.phase ∧ t.rcu.iteration = s.rcu.iteration := by
  by_cases hlimit : s.reachesMaxFaults written.length
  · exact (h.limited hlimit).position
  · rcases Nat.eq_zero_or_pos (s.fcu.recordCount + written.length) with hnone | hsome
    · exact (h.passed hnone).position
    · exact (h.failed hsome hlimit).position

/-- A completion is one of every state in the same place, with the same clocks, view, log and
notices. -/
theorem RunCompleted.of_same {written : List Record} {s s' t : State} (h : RunCompleted written s t)
    (place : s.rcu.step = s'.rcu.step ∧ s.rcu.phase = s'.rcu.phase ∧
      s.rcu.iteration = s'.rcu.iteration)
    (clocks : s.tmu = s'.tmu) (view : s.bgu.peers = s'.bgu.peers) (cfl : s.cfl = s'.cfl)
    (log : s.fcu = s'.fcu) (notices : s.bus.notices = s'.bus.notices) :
    RunCompleted written s' t := by
  obtain ⟨hstep, hphase, hiteration⟩ := h.position
  exact h.of_place ⟨hstep.trans place.1, hphase.trans place.2.1, hiteration.trans place.2.2⟩ place.1
    clocks view cfl (by rw [log]; exact ⟨rfl, rfl, rfl, rfl⟩) notices

/-! ### The power-on sequence completes (R11, R15, R16) -/

theorem powerOnComplete_paused {s : State} (h : s.rcu.run = .paused) :
    s.powerOnComplete = { s with rcu := { s.rcu with heldPowerOn := true } } := if_pos h

theorem powerOnComplete_of_settling {s : State} (hrun : s.rcu.run = .running)
    (hphase : s.rcu.phase = .settling) : s.powerOnComplete = s.advancePhase := by
  refine (if_neg (by rw [hrun]; exact nofun)).trans (if_neg fun h => ?_)
  cases hreach : s.theStep.reachPresent with
  | false =>
    rw [advancePhase_timing hphase hreach] at h
    exact absurd h.1 nofun
  | true =>
    rw [advancePhase_reaching hphase hreach] at h
    exact absurd h.1 nofun

theorem powerOnComplete_timing {s : State} (hrun : s.rcu.run = .running)
    (hphase : s.rcu.phase = .settling) (hreach : s.theStep.reachPresent = false) :
    s.powerOnComplete = s.enterTiming :=
  (powerOnComplete_of_settling hrun hphase).trans (advancePhase_timing hphase hreach)

theorem powerOnComplete_reaching {s : State} (hrun : s.rcu.run = .running)
    (hphase : s.rcu.phase = .settling) (hreach : s.theStep.reachPresent = true) :
    s.powerOnComplete = s.enterReaching :=
  (powerOnComplete_of_settling hrun hphase).trans (advancePhase_reaching hphase hreach)

/-- The state in which POWERING has given way to ON (R15). -/
def State.poweredOn (s : State) : State := { s with rcu := { s.rcu with phase := .on } }

theorem powerOnComplete_of_powering {s : State} (hrun : s.rcu.run = .running)
    (hphase : s.rcu.phase = .powering) : s.powerOnComplete =
      if s.rcu.heldOn = true then s.poweredOn.endIteration else s.poweredOn := by
  refine (if_neg (by rw [hrun]; exact nofun)).trans ?_
  dsimp only
  rw [advancePhase_on hphase]
  simp only [true_and]
  rfl

theorem powerOnComplete_on {s : State} (hrun : s.rcu.run = .running)
    (hphase : s.rcu.phase = .powering) (hheld : s.rcu.heldOn = false) :
    s.powerOnComplete = s.poweredOn := by
  rw [powerOnComplete_of_powering hrun hphase, hheld, if_neg Bool.false_ne_true]

theorem powerOnComplete_iterates {s : State} (hrun : s.rcu.run = .running)
    (hphase : s.rcu.phase = .powering) (hheld : s.rcu.heldOn = true) :
    s.powerOnComplete = s.poweredOn.endIteration := by
  rw [powerOnComplete_of_powering hrun hphase, hheld, if_pos rfl]

/-- The next iteration as it enters OFF. -/
def State.iterated (s : State) : State :=
  { s with rcu := { s.rcu with phase := .on, iteration := s.rcu.iteration + 1 } }

/-- With a held expiry of the on timer a power-on that completes ends the iteration (R16). -/
theorem powerOnComplete_next {s : State} (hrun : s.rcu.run = .running)
    (hphase : s.rcu.phase = .powering) (hheld : s.rcu.heldOn = true)
    (hmore : s.rcu.iteration + 1 < s.theStep.repeats) :
    s.powerOnComplete = s.iterated.enterOff ∧ OffEntered s.iterated s.iterated.enterOff :=
  ⟨(powerOnComplete_iterates hrun hphase hheld).trans (endIteration_of_lt (s := s.poweredOn) hmore),
    enterOff_entered (s := s.iterated) hrun⟩

/-- With a held expiry of the on timer the last iteration ends the step (R16, R19). -/
theorem powerOnComplete_last {s : State} (hrun : s.rcu.run = .running)
    (hphase : s.rcu.phase = .powering) (hheld : s.rcu.heldOn = true)
    (hlast : s.theStep.repeats ≤ s.rcu.iteration + 1) :
    s.powerOnComplete = s.poweredOn.endStep :=
  (powerOnComplete_iterates hrun hphase hheld).trans (endIteration_of_ge (s := s.poweredOn) hlast)

/-! ### The end of a press (R42) -/

/-- The state after a press with the lines as the end of the press leaves them. -/
def State.pressOver (lines : Quad Line) (s : State) : State :=
  { s with sou := { s.sou with pressed := false, pressTimer := none }, lines := lines }

theorem exec_pressTimerExpiry {s : State} (hlive : s.inReset = false)
    (hdue : s.sou.pressTimer = some 0) :
    exec .pressTimerExpiry s = .next (s.pressOver s.lines).pressEnded :=
  (live_next hlive).trans (congrArg _ (if_pos (by rw [hdue]; rfl)))

theorem pressEnded_of_not {s : State} (h : s.poweringOn = false ∨ s.theStep.pressMs = 0) :
    s.pressEnded = s := by
  refine if_neg fun ⟨hon, hpress⟩ => ?_
  rcases h with h | h
  · exact absurd (hon.symm.trans h) nofun
  · omega

/-- The press of a power-on in progress has ended: a LOW line waits, and otherwise the sequence
completes (R42, R127). -/
theorem pressEnded_of_poweringOn {s : State} (hon : s.poweringOn = true)
    (hpress : 0 < s.theStep.pressMs) : s.pressEnded = match s.powerGoodLine with
      | none => s.powerOnComplete
      | some i => if (s.lines.get i).high then (s.startWait i).powerOnComplete else s.startWait i :=
  if_pos ⟨hon, hpress⟩

/-- The press of a power-on in progress has ended on a line that is HIGH, or without one (R42). -/
theorem pressEnded_completes {lines : Quad Line} {s : State} (hon : s.poweringOn = true)
    (hpress : 0 < s.theStep.pressMs) (hlines : (s.powerGoodLine = none ∧ lines = s.lines) ∨
      ∃ i, s.powerGoodLine = some i ∧ (s.lines.get i).high = true ∧
        lines = s.lines.set i { s.lines.get i with
          sup := .powerGood (.up ((s.lines.get i).riseUptime.getD s.tmu.uptime)), timer := none }) :
    (s.pressOver s.lines).pressEnded = (s.pressOver lines).powerOnComplete := by
  refine (pressEnded_of_poweringOn (s := s.pressOver s.lines) hon hpress).trans ?_
  show (match s.powerGoodLine with | none => _ | some i => _) = _
  rcases hlines with ⟨hline, rfl⟩ | ⟨i, hline, hhigh, rfl⟩
  · rw [hline]
  · rw [hline]
    refine (if_pos hhigh).trans ?_
    rw [startWait_of_high (s := s.pressOver s.lines) hhigh]
    rfl

/-- Settles O33: each end of the power-on sequence by its equation. -/
theorem pressEndGoesOnWithThePowerOn : Obligations.PressEndGoesOnWithThePowerOn := by
  intro s hlive hdue
  have hexec := exec_pressTimerExpiry hlive hdue
  refine ⟨fun h => ?_, fun hon hpress => ⟨fun i hline hlow => ?_, fun lines hlines => ?_⟩⟩
  · rw [pressEnded_of_not (s := s.pressOver s.lines) h] at hexec
    exact hexec
  · rw [hexec, pressEnded_of_poweringOn (s := s.pressOver s.lines) hon hpress]
    show Host.Outcome.next (match s.powerGoodLine with | none => _ | some i => _) = _
    rw [hline]
    refine congrArg _ ((if_neg (Bool.eq_false_iff.mp hlow)).trans ?_)
    rw [startWait_of_low (s := s.pressOver s.lines) hlow]
    rfl
  · rw [pressEnded_completes hon hpress hlines] at hexec
    refine ⟨fun hrun hphase hreach => ?_, fun hrun hphase hreach => ?_,
      fun hrun hphase hheld => ?_, fun hrun hphase hheld hmore => ?_,
      fun hrun hphase hheld hlast => ?_, fun hrun => ?_⟩
    · exact hexec.trans (congrArg _ (powerOnComplete_timing (s := s.pressOver lines) hrun hphase hreach))
    · exact hexec.trans (congrArg _
        (powerOnComplete_reaching (s := s.pressOver lines) hrun hphase hreach))
    · exact hexec.trans (congrArg _ (powerOnComplete_on (s := s.pressOver lines) hrun hphase hheld))
    · obtain ⟨hcomplete, hoff⟩ :=
        powerOnComplete_next (s := s.pressOver lines) hrun hphase hheld hmore
      obtain ⟨hsou, hfcu, -⟩ := hoff.kept
      obtain ⟨-, hrcu, ⟨-, hkept, hlowered⟩, -⟩ := hoff
      refine ⟨_, hexec.trans (congrArg _ hcomplete), ?_, ?_, ?_, ?_, ?_, ?_, ?_, ?_, hfcu, hkept,
        fun w hw hidle => ?_⟩
      · rw [hrcu]
      · rw [hrcu]
        rfl
      · rw [hrcu]
        rfl
      · rw [hrcu]
      · rw [hrcu]
        exact hrun
      · rw [hsou]
        rfl
      · rw [hsou]
        rfl
      · rw [hsou]
        rfl
      · obtain ⟨hbgu, hbus⟩ := hlowered w hw
        exact ⟨hbgu, hbus hidle⟩
    · have hend := hexec.trans (congrArg _
        (powerOnComplete_last (s := s.pressOver lines) hrun hphase hheld hlast))
      refine ⟨_, hend, ?_, fun hnext => ?_, fun hfinal => ?_⟩
      · rcases Nat.lt_or_ge (s.rcu.step + 1) s.cfg.steps.length with hnext | hfinal
        · exact (endStep_entered (s := (s.pressOver lines).poweredOn) hnext).held.2.2.1
        · exact (endStep_completes (s := (s.pressOver lines).poweredOn) hfinal).2.2.1
      · have h := endStep_entered (s := (s.pressOver lines).poweredOn) hnext
        refine ⟨h.position.1, h.position.2, h.kept.1, fun hmore => ?_, fun hle => (h.starts hle).1⟩
        have ha := h.asks hmore
        exact ⟨ha.1.1, (congrArg Sou.pressed ha.2.2.1).trans rfl,
          (congrArg Sou.pressTimer ha.2.2.1).trans rfl⟩
      · exact (endStep_completes (s := (s.pressOver lines).poweredOn) hfinal).1.of_same
          ⟨rfl, rfl, rfl⟩ rfl rfl rfl rfl rfl
    · exact hexec.trans (congrArg _ (powerOnComplete_paused (s := s.pressOver lines) hrun))

end Sys2Proof.Machine
end

section
/-! SUPPORT. NEXT_STEP (R26): the raise of a policy that ends the step, from every state of an active run
(O36). -/

namespace Sys2Proof.Machine

/-! ### The claim that NEXT_STEP abandons (R64) -/

/-- The state in which NEXT_STEP ends the step: the own intent withdrawn by its stage, WAITING left. -/
def State.abandoned (s : State) : State :=
  { s.withdrawIntent with bgu := { s.withdrawIntent.bgu with waitingSince := none } }

theorem nextStepAction_eq (s : State) : s.nextStepAction = s.abandoned.endStep := rfl

/-- What NEXT_STEP leaves of an abandoned claim (R64). -/
structure Abandoned (s t : State) : Prop where
  rest : t = { s with
    bgu := { s.bgu with intent := none, window := t.bgu.window, waitingSince := none }
    bus := { s.bus with budget := t.bus.budget, budgetNext := t.bus.budgetNext } }
  window : ∀ w time, s.bgu.intent = some ⟨w, .window time⟩ → t.bgu.window = none
  untold : ∀ w, s.bgu.intent = some ⟨w, .held⟩ ∨ s.bgu.intent = none →
    t.bus.budget = s.bus.budget
  told : ∀ w time, s.bgu.intent = some ⟨w, .queued⟩ ∨ s.bgu.intent = some ⟨w, .window time⟩ →
    s.bus.attempt = none → t.bus.budget = some ⟨.commit, 0⟩

theorem withdrawIntent_of_none {s : State} (h : s.bgu.intent = none) : s.withdrawIntent = s := by
  simp only [State.withdrawIntent, h]

theorem withdrawIntent_of_held {w : Nat} {s : State} (h : s.bgu.intent = some ⟨w, .held⟩) :
    s.withdrawIntent = { s with bgu := { s.bgu with intent := none } } := by
  simp only [State.withdrawIntent, h]

theorem withdrawIntent_of_queued {w : Nat} {s : State} (h : s.bgu.intent = some ⟨w, .queued⟩) :
    s.withdrawIntent = { s with
      bgu := { s.bgu with intent := none }, bus := s.bus.disown.queueBudget .commit } := by
  simp only [State.withdrawIntent, h]

theorem withdrawIntent_of_window {w : Nat} {time : RackTime} {s : State}
    (h : s.bgu.intent = some ⟨w, .window time⟩) : s.withdrawIntent = { s with
      bgu := { s.bgu with intent := none, window := none }
      bus := s.bus.queueBudget .commit } := by
  simp only [State.withdrawIntent, h]

theorem abandoned_spec (s : State) : Abandoned s s.abandoned := by
  obtain ⟨wd, b, bn, e⟩ := withdrawIntent_spec s
  refine ⟨?_, fun w time h => ?_, fun w h => ?_, fun w time h hidle => ?_⟩
  · rw [State.abandoned, e]
  · rw [State.abandoned, withdrawIntent_of_window h]
  · rcases h with h | h
    · rw [State.abandoned, withdrawIntent_of_held h]
    · rw [State.abandoned, withdrawIntent_of_none h]
  · rcases h with h | h
    · rw [State.abandoned, withdrawIntent_of_queued h]
      exact congrArg Bif.budget (queueBudget_idle .commit s.bus.disown hidle)
    · rw [State.abandoned, withdrawIntent_of_window h]
      exact congrArg Bif.budget (queueBudget_idle .commit s.bus hidle)

/-! ### The raise (R26, R132, R144) -/

theorem raise_nextStep {kind : FaultKind} {points : List Nat} {value : Int} {s : State}
    (hactive : s.rcu.run.active = true) (hforced : kind.forced = none)
    (hpolicy : s.policyStep.policy = .nextStep) : s.raise kind points value =
      if s.lastStep then
        (s.raiseClosing .completing (s.formRecord s.asc kind points value)).finishCompletion
      else s.nextStepAction.captureRaise (s.formRecord s.asc kind points value) := by
  unfold State.raise State.raiseSeeing
  rw [if_pos hactive]
  simp only [State.policyOf, hforced, Option.getD_none, hpolicy]

/-- In the last step NEXT_STEP completes the run, with the raise and the open groups written (R19, R26,
R144). -/
theorem raise_nextStep_last {kind : FaultKind} {points : List Nat} {value : Int} {s : State}
    (hactive : s.rcu.run.active = true) (hforced : kind.forced = none)
    (hless : kind.pointLess = false) (hpolicy : s.policyStep.policy = .nextStep)
    (hlast : s.cfg.steps.length ≤ s.rcu.step + 1) :
    ∃ r, Raised kind points value s r ∧
      RunCompleted (s.closingRecords r) s (s.raise kind points value) := by
  have hraised := formRecord_raised s.asc kind points value s
  rw [raise_nextStep hactive hforced hpolicy, if_pos (lastStep_of_ge hlast)]
  generalize s.formRecord s.asc kind points value = r at *
  exact ⟨r, hraised, (raiseClosing_closed (hraised.kind ▸ hless)).completes⟩

/-- Before the last step NEXT_STEP enters the next one and the raise is recorded with the circumstances
that it found (R26, R137, R138). -/
theorem raise_nextStep_enters {kind : FaultKind} {points : List Nat} {value : Int} {s : State}
    (hactive : s.rcu.run.active = true) (hforced : kind.forced = none)
    (hpolicy : s.policyStep.policy = .nextStep) (hcoalesce : s.cfg.coalesceMs = 0)
    (hroom : s.fcu.log.length < 64) (hallowed : s.fcu.recordCount + 1 ≠ s.cfg.maxFaults)
    (hnext : s.rcu.step + 1 < s.cfg.steps.length) :
    ∃ r, Recorded kind points value s (s.raise kind points value) r ∧
      LogOnly s.abandoned.endStep (s.raise kind points value) ∧
      StepEntered s.abandoned s.abandoned.endStep := by
  have hab := abandoned_spec s
  have hcfl : s.abandoned.cfl = s.cfl := by rw [hab.rest]
  have hfcu : s.abandoned.fcu = s.fcu := by rw [hab.rest]
  have hbus : s.abandoned.bus.notices = s.bus.notices := by rw [hab.rest]
  have hcfg : s.abandoned.cfg = s.cfg := by simp only [State.cfg, hcfl]
  have hentered : StepEntered s.abandoned s.abandoned.endStep := by
    refine endStep_entered ?_
    rw [hcfg, hab.rest]
    exact hnext
  have hucfl : s.abandoned.endStep.cfl = s.cfl := hentered.kept.2.2.2.trans hcfl
  have hufcu : s.abandoned.endStep.fcu = s.fcu := hentered.kept.1.trans hfcu
  have hubus : s.abandoned.endStep.bus.notices = s.bus.notices := by
    rw [hentered.outbox]
    exact hbus
  have hucfg : s.abandoned.endStep.cfg = s.cfg := by simp only [State.cfg, hucfl]
  rw [raise_nextStep hactive hforced hpolicy,
    if_neg (Bool.eq_false_iff.mp (lastStep_of_lt hnext)), nextStepAction_eq]
  obtain ⟨t, r, rfl, hrecorded, hlog⟩ := captureRaise_recorded (asc := s.asc) (kind := kind)
    (points := points) (value := value) (s := s) (u := s.abandoned.endStep)
    (hucfg ▸ hcoalesce) (hufcu ▸ hroom) (by rw [hufcu, hucfg]; exact hallowed) hufcu hubus
  exact ⟨r, hrecorded, hlog, hentered⟩

/-- With its conditions met and no intent open a claim is queued as an INTENT, and the window stands
(R57). -/
theorem askClaim_window {w : Nat} {s : State} (h : s.bgu.intent = none) :
    (s.askClaim w).bgu.window = s.bgu.window := by
  obtain ⟨i, b, bn, e, -⟩ := promoteIntent_spec { s with
    bgu := { s.bgu with intent := some ⟨w, .held⟩ } }
  rw [State.askClaim, withdrawIntent_of_none h, e]

/-- The claim at the end of a step that finds no intent open (R7, R57, R66): asked for, or left for the
step that starts, whose arrival may commit a lower one. -/
structure ClaimEntered (s t : State) : Prop where
  window : t.bgu.window = s.bgu.window
  asks : s.bgu.committed < (s.stepAt (s.rcu.step + 1)).claimW → s.tmu.settled = true →
    s.bgu.listening = 0 → s.bus.attempt = none →
    t.bgu.intent = some ⟨(s.stepAt (s.rcu.step + 1)).claimW, .queued⟩ ∧
    t.bus.budget = some ⟨.intent (s.stepAt (s.rcu.step + 1)).claimW true, 0⟩
  equal : (s.stepAt (s.rcu.step + 1)).claimW = s.bgu.committed → t.bus.budget = s.bus.budget
  told : (s.stepAt (s.rcu.step + 1)).claimW ≤ s.bgu.committed → s.bus.attempt = none →
    s.bus.budget = some ⟨.commit, 0⟩ → t.bus.budget = some ⟨.commit, 0⟩

/-- A start under a queued COMMIT leaves one queued, of its own arrival or the earlier one (R51,
R66). -/
theorem startStep_told {s : State} (htaken : s.rcu.arrivalTaken = false) (hidle : s.bus.attempt = none)
    (h : s.bus.budget = some ⟨.commit, 0⟩) : s.startStep.bus.budget = some ⟨.commit, 0⟩ := by
  by_cases harrives : s.theStep.kind = .cycle ∨ s.landsAtStart
  · obtain ⟨-, hkept, hlowered, -⟩ := startStep_lowers htaken harrives
    cases hpending : s.bgu.pendingLower with
    | none => exact (congrArg Bif.budget (hkept hpending).2).trans h
    | some w => exact congrArg Bif.budget ((hlowered w hpending).2 hidle)
  · obtain ⟨hkind, hramps⟩ := not_or.mp harrives
    exact (congrArg Bif.budget (startStep_ramps hkind hramps).2).trans h

theorem endStep_claim {s : State} (hintent : s.bgu.intent = none)
    (hnext : s.rcu.step + 1 < s.cfg.steps.length) : ClaimEntered s s.endStep := by
  refine ⟨?_, fun hmore hsettled hlistening hidle => ?_, fun heq => ?_, fun hle hidle htold => ?_⟩
  · rcases Nat.lt_or_ge s.bgu.committed (s.stepAt (s.rcu.step + 1)).claimW with hmore | hle
    · rw [endStep_asks hnext hmore]
      exact askClaim_window (s := s.stepStopped.claiming (s.rcu.step + 1)) hintent
    · exact ((endStep_entered hnext).starts hle).2.2.2
  · have hqueued : s.endStep = _ := (endStep_asks hnext hmore).trans
      (askClaim_queues _ hintent hidle hsettled hlistening)
    rw [hqueued]
    exact ⟨rfl, rfl⟩
  · have hnone : (s.stepStopped.readied (s.rcu.step + 1)).bgu.pendingLower = none :=
      if_neg fun hlt : (s.stepAt (s.rcu.step + 1)).claimW < s.bgu.committed => by omega
    rw [endStep_starts hnext (Nat.le_of_eq heq), (startStep_kept_claim hnone).2]
    rfl
  · rw [endStep_starts hnext hle]
    exact startStep_told (s := s.stepStopped.readied (s.rcu.step + 1)) rfl hidle htold

/-- What the entry of the next step by NEXT_STEP leaves (R7, R26): of the state in which the raise found
the run, whatever has been written behind it. -/
structure NextEntered (s t : State) : Prop where
  position : t.rcu.step = s.rcu.step + 1 ∧ t.rcu.iteration = 0
  held : t.rcu.on = none ∧ t.rcu.heldPowerOn = false ∧ t.rcu.heldReach = false ∧
    t.rcu.heldOn = false
  wait : t.bgu.waitingSince = none ∧ t.bgu.accumulator = 0 ∧ t.bgu.refusals = s.bgu.refusals ∧
    t.bgu.peers = s.bgu.peers
  window : ∀ w time, s.bgu.intent = some ⟨w, .window time⟩ → t.bgu.window = none
  asks : s.bgu.committed < (s.stepAt (s.rcu.step + 1)).claimW →
    (t.rcu.run = .claiming ∧ t.rcu.phase = .none ∧ t.rcu.governing = s.rcu.governing) ∧
    (t.rcu.duration = none ∧ t.rcu.reach = none ∧ t.rcu.off = none ∧ t.rcu.blankingTimer = none ∧
      t.wck.reach = none) ∧
    t.sou = s.sou ∧ t.bgu.committed = s.bgu.committed ∧
    (s.tmu.settled = true → s.bgu.listening = 0 → s.bus.attempt = none →
      t.bgu.intent = some ⟨(s.stepAt (s.rcu.step + 1)).claimW, .queued⟩ ∧
      t.bus.budget = some ⟨.intent (s.stepAt (s.rcu.step + 1)).claimW true, 0⟩)
  starts : (s.stepAt (s.rcu.step + 1)).claimW ≤ s.bgu.committed →
    t.rcu.run = .running ∧ t.rcu.governing = some (s.rcu.step + 1) ∧ t.bgu.intent = none ∧
    (∀ w, s.bgu.intent = some ⟨w, .held⟩ ∨ s.bgu.intent = none →
      (s.stepAt (s.rcu.step + 1)).claimW = s.bgu.committed → t.bus.budget = s.bus.budget) ∧
    (∀ w time, s.bgu.intent = some ⟨w, .queued⟩ ∨ s.bgu.intent = some ⟨w, .window time⟩ →
      s.bus.attempt = none → t.bus.budget = some ⟨.commit, 0⟩)
  kept : t.asc = s.asc ∧ t.tmu = s.tmu ∧ t.cfl = s.cfl

theorem nextEntered_of_abandoned {s u : State} (hentered : StepEntered s.abandoned u)
    (hclaim : ClaimEntered s.abandoned u) : NextEntered s u := by
  obtain ⟨hrest, hwindow, huntold, htold⟩ := abandoned_spec s
  generalize s.abandoned = a at *
  have hintent : a.bgu.intent = none := by rw [hrest]
  have hidle : s.bus.attempt = none → a.bus.attempt = none := fun h => by rw [hrest]; exact h
  obtain ⟨hposition, ⟨hpower, hreach, hheldOn, hon⟩, hwait, ⟨-, hasc, htmu, hcfl⟩, -, hasks, hstarts⟩ :=
    hentered
  obtain ⟨cwindow, casks, cequal, ctold⟩ := hclaim
  obtain ⟨g, b, rfl⟩ : ∃ g b, a = { s with bgu := g, bus := b } := ⟨_, _, hrest⟩
  have hg : g = { s.bgu with intent := none, window := g.window, waitingSince := none } :=
    congrArg State.bgu hrest
  have hcommitted : g.committed = s.bgu.committed := by rw [hg]
  have hlistening : g.listening = s.bgu.listening := by rw [hg]
  have hrefusals : g.refusals = s.bgu.refusals := by rw [hg]
  have hpeers : g.peers = s.bgu.peers := by rw [hg]
  refine ⟨hposition, ⟨hon, hpower, hreach, hheldOn⟩,
    ⟨hwait.1, hwait.2.1, hwait.2.2.1.trans hrefusals, hwait.2.2.2.trans hpeers⟩,
    fun w time h => cwindow.trans (hwindow w time h), fun hmore => ?_, fun hle => ?_,
    ⟨hasc, htmu, hcfl⟩⟩
  · have hmore : g.committed < (s.stepAt (s.rcu.step + 1)).claimW := hcommitted ▸ hmore
    obtain ⟨hrun, htimers, hsou, hkept⟩ := hasks hmore
    exact ⟨hrun, htimers, hsou, hkept.trans hcommitted,
      fun hs hl hi => casks hmore hs (hlistening.trans hl) (hidle hi)⟩
  · have hle : (s.stepAt (s.rcu.step + 1)).claimW ≤ g.committed := hcommitted ▸ hle
    obtain ⟨hrun, hgoverning, hi, -⟩ := hstarts hle
    exact ⟨hrun, hgoverning, hi.trans hintent,
      fun w h heq => (cequal (heq.trans hcommitted.symm)).trans (huntold w h),
      fun w time h hfree => ctold hle (hidle hfree) (htold w time h hfree)⟩

/-- The next step by NEXT_STEP stands so behind the record of the raise, too. -/
theorem NextEntered.logged {s u t : State} (h : NextEntered s u) (hlog : LogOnly u t) :
    NextEntered s t := by
  obtain ⟨f, n, d, rfl⟩ := hlog
  exact ⟨h.position, h.held, h.wait, h.window, h.asks, h.starts, h.kept⟩

/-- Before the last step NEXT_STEP enters the next one and the raise is recorded with the circumstances
that it found (R26, R137, R138). -/
theorem raise_nextStep_next {kind : FaultKind} {points : List Nat} {value : Int} {s : State}
    (hactive : s.rcu.run.active = true) (hforced : kind.forced = none)
    (hpolicy : s.policyStep.policy = .nextStep) (hcoalesce : s.cfg.coalesceMs = 0)
    (hroom : s.fcu.log.length < 64) (hallowed : s.fcu.recordCount + 1 ≠ s.cfg.maxFaults)
    (hnext : s.rcu.step + 1 < s.cfg.steps.length) :
    ∃ r, Recorded kind points value s (s.raise kind points value) r ∧
      NextEntered s (s.raise kind points value) := by
  obtain ⟨r, hrecorded, hlog, hentered⟩ := raise_nextStep_enters hactive hforced hpolicy hcoalesce
    hroom hallowed hnext
  have hrest := (abandoned_spec s).rest
  have hintent : s.abandoned.bgu.intent = none := by rw [hrest]
  have hcfg : s.abandoned.cfg = s.cfg := by
    rw [hrest]
    rfl
  have hstep : s.abandoned.rcu.step = s.rcu.step := by rw [hrest]
  have hclaim := endStep_claim hintent (by rw [hcfg, hstep]; exact hnext)
  exact ⟨r, hrecorded, (nextEntered_of_abandoned hentered hclaim).logged hlog⟩

/-! ### The reach timer (R12, R103) -/

/-- The reach timer has run out: it stops and the request closes (R103). -/
def State.reachStopped (s : State) : State :=
  { s with rcu := { s.rcu with reach := none }, wck := { s.wck with reach := none } }

theorem exec_reachTimerExpiry {p : Fin 8} {s : State} (hlive : s.inReset = false)
    (hrun : s.rcu.run = .running) (hdue : s.rcu.reach = some 0)
    (hpoint : s.theStep.reachPoint = p.val) : exec .reachTimerExpiry s =
      .next (s.reachStopped.raise .notReached [p.val] (s.asc.points.get p).y) := by
  have hfin : (Fin.ofNat 8 s.theStep.reachPoint : Fin 8) = p := by
    rw [hpoint]
    exact Fin.ext (Nat.mod_eq_of_lt p.isLt)
  refine (live_next hlive).trans (congrArg _ ((if_pos (stepTimerDue_of hrun hdue)).trans ?_))
  dsimp only
  rw [hfin]
  rfl

/-- CONTINUE moves the step of a NOT_REACHED raise to TIMING before the raise is captured (R12, R26). -/
theorem raise_notReached_goOn {points : List Nat} {value : Int} {s : State}
    (hactive : s.rcu.run.active = true) (hpolicy : s.policyStep.policy = .goOn)
    (hphase : s.rcu.phase = .reaching) : s.raise .notReached points value =
      s.enterTiming.captureRaise (s.formRecord s.asc .notReached points value) := by
  have hgoOn : s.goOnAction .notReached = s.enterTiming := if_pos ⟨rfl, hphase⟩
  unfold State.raise State.raiseSeeing
  rw [if_pos hactive]
  simp only [State.policyOf, FaultKind.forced, Option.getD_none, hpolicy, hgoOn]

/-- STOP ends the run of a point-bearing raise of no forced policy, with the raise and the open groups
written (R27, R144). -/
theorem raise_stops {kind : FaultKind} {points : List Nat} {value : Int} {s : State}
    (hactive : s.rcu.run.active = true) (hforced : kind.forced = none)
    (hless : kind.pointLess = false) (hpolicy : s.policyStep.policy = .stop) :
    ∃ r, RunEnded .fail kind.stopCause s (s.raise kind points value) ∧
      Raised kind points value s r ∧
      Wrote (s.closingRecords r) s (s.raise kind points value) := by
  have hraise : s.raise kind points value = _ :=
    raiseSeeing_stops hactive (by rw [State.policyOf, hforced]; exact hpolicy)
  have hraised := formRecord_raised s.asc kind points value s
  rw [hraise]
  generalize s.formRecord s.asc kind points value = r at *
  have hclosed := raiseClosing_closed (mode := .ending) (s := s) (hraised.kind ▸ hless)
  exact ⟨r, hclosed.runEnd .fail kind.stopCause, hraised, runEnd_wrote hclosed .fail kind.stopCause⟩

/-- Settles O36: CONTINUE and STOP by their equations, NEXT_STEP by `raise_nextStep_last`,
`raise_nextStep_enters` and `endStep_claim`. -/
theorem reachTimeoutRaisesNotReached : Obligations.ReachTimeoutRaisesNotReached := by
  refine ⟨fun p s hlive hrun hphase hdue hpoint => ?_,
    fun i next s hlive hactive hchecked hpolicy hsup hdue hthe => ?_⟩
  · have hexec := exec_reachTimerExpiry hlive hrun hdue hpoint
    have hactive : s.rcu.run.active = true := by rw [hrun]; rfl
    refine ⟨fun hrec => ?_, fun hpolicy => ?_, fun hpolicy hlast => ?_,
      fun hpolicy hcoalesce hroom hallowed hnext => ?_⟩
    · obtain ⟨t, r, ht, hrecorded, f, n, d, rfl⟩ := captureRaise_recorded (asc := s.asc)
        (kind := .notReached) (points := [p.val]) (value := (s.asc.points.get p).y)
        (s := s.reachStopped) (u := s.reachStopped.enterTiming) hrec.coalesce hrec.room hrec.allowed
        rfl rfl
      refine ⟨_, r, hexec.trans (congrArg _ ((raise_notReached_goOn (s := s.reachStopped) hactive
        hrec.policy hphase).trans ht)), { hrecorded with }, rfl, rfl, rfl, rfl, rfl, rfl, rfl, rfl⟩
    · obtain ⟨r, hended, hraised, hwrote⟩ := raise_stops (kind := .notReached) (points := [p.val])
        (value := (s.asc.points.get p).y) (s := s.reachStopped) hactive rfl rfl hpolicy
      exact ⟨_, r, hexec, { hended with }, { hraised with }, { hwrote with }⟩
    · obtain ⟨r, hraised, hcompleted⟩ := raise_nextStep_last (kind := .notReached)
        (points := [p.val]) (value := (s.asc.points.get p).y) (s := s.reachStopped) hactive rfl rfl
        hpolicy hlast
      exact ⟨_, r, hexec, { hraised with }, hcompleted.of_same ⟨rfl, rfl, rfl⟩ rfl rfl rfl rfl rfl⟩
    · obtain ⟨r, hrecorded, hentered⟩ := raise_nextStep_next (kind := .notReached)
        (points := [p.val]) (value := (s.asc.points.get p).y) (s := s.reachStopped) hactive rfl
        hpolicy hcoalesce hroom hallowed hnext
      obtain ⟨hasc, htmu, -⟩ := hentered.kept
      exact ⟨_, r, hexec, { hrecorded with }, hentered.position.1, hentered.position.2,
        fun hmore => ⟨(hentered.asks hmore).1.1, (hentered.asks hmore).1.2.2⟩,
        fun hle => ⟨(hentered.starts hle).1, (hentered.starts hle).2.1⟩, hasc, htmu⟩
  · subst hthe
    have hexec := exec_heartbeatIntervalExpiry hlive hsup hdue
    generalize ({ s.lines.get i with
      sup := .heartbeat .hung, timer := none
      episodes := min ((s.lines.get i).episodes + 1) 65535 } : Line) = l at hexec
    rw [raiseLine_of_checked (s := s.setLine i l) hchecked] at hexec
    refine ⟨fun hlast => ?_, fun hcoalesce hroom hallowed hnext => ?_⟩
    · obtain ⟨r, hraised, hcompleted⟩ := raise_nextStep_last (kind := .hang)
        (points := [12 + i.val]) (value := (s.cfg.lines.get i).hbMaxMs) (s := s.setLine i l) hactive
        rfl rfl hpolicy hlast
      exact ⟨_, r, hexec, { hraised with }, hcompleted.of_same ⟨rfl, rfl, rfl⟩ rfl rfl rfl rfl rfl⟩
    · obtain ⟨r, hrecorded, hentered⟩ := raise_nextStep_next (kind := .hang)
        (points := [12 + i.val]) (value := (s.cfg.lines.get i).hbMaxMs) (s := s.setLine i l) hactive
        rfl hpolicy hcoalesce hroom hallowed hnext
      obtain ⟨hposition, ⟨hon, hpower, hreach, hheldOn⟩, hwait, hwindow, hasks, hstarts, hkept⟩ :=
        hentered
      refine ⟨_, r, hexec, { hrecorded with }, ⟨hposition.1, hposition.2, hon, hpower, hreach, hheldOn⟩,
        hwait, hwindow, fun hmore => ?_, hstarts, hkept⟩
      obtain ⟨⟨hrun, hphase, hgoverning⟩, ⟨hduration, hr, hoff, hblank, hw⟩, hsou, hcommitted, hqueued⟩ :=
        hasks hmore
      exact ⟨hrun, hphase, hgoverning, hduration, hr, hoff, hblank, hw, hsou, hcommitted, hqueued⟩

end Sys2Proof.Machine
end

section
/-! SUPPORT. The ends of a power-good wait (R128, R129): by its rise and its expiry, and abandoned by
NEXT_STEP, a run end and isolation (O34). -/

namespace Sys2Proof.Machine

/-! ### The rise and the expiry (R128) -/

/-- The lines of a state replaced. -/
def State.withLines (lines : Quad Line) (s : State) : State := { s with lines := lines }

theorem poweringOn_of {s : State} (hrun : s.rcu.run = .running ∨ s.rcu.run = .paused)
    (hphase : s.rcu.phase = .settling ∨ s.rcu.phase = .powering)
    (hpending : s.rcu.powerOnPending = true) (htaken : s.rcu.arrivalTaken = true) :
    s.poweringOn = true := by
  rcases hrun with hrun | hrun <;> rcases hphase with hphase | hphase <;>
    simp [State.poweringOn, hrun, hphase, hpending, htaken]

theorem superviseRise_waiting {i : Fin 4} {s : State}
    (h : (s.lines.get i).sup = .powerGood .waiting) : s.superviseRise i =
      (s.setLine i { s.lines.get i with
        sup := .powerGood (.up s.tmu.uptime), timer := none }).waitEnded := by
  simp only [State.superviseRise, h]

/-- The rise of a line that is waited for makes it UP and ends the wait (R123, R128). -/
theorem exec_waitRises {i : Fin 4} {s : State} (hlive : s.inReset = false)
    (hwaits : (s.lines.get i).sup = .powerGood .waiting) (hlow : (s.lines.get i).high = false) :
    exec (.watchLineEdge i true) s = .next (State.waitEnded (s.setLine i { s.lines.get i with
      high := true, pulses := (s.lines.get i).pulses + 1, riseRack := some s.tmu.rack
      riseUptime := some s.tmu.uptime, sup := .powerGood (.up s.tmu.uptime), timer := none })) := by
  have hself : (s.setLine i ((s.lines.get i).edge true s.tmu.rack s.tmu.uptime)).lines.get i =
      (s.lines.get i).edge true s.tmu.rack s.tmu.uptime := Quad.get_set_self ..
  rw [exec_watchLineEdge hlive, lineEdge_rise hlow, superviseRise_waiting (by rw [hself]; exact hwaits),
    hself, setLine_setLine]
  rfl

/-- The expiry of a wait makes its line UNSEEN with one more episode, and reports the end of the wait
(R128). -/
theorem exec_waitExpires {i : Fin 4} {s : State} (hlive : s.inReset = false)
    (hline : s.powerGoodLine = some i) (hwaits : (s.lines.get i).sup = .powerGood .waiting)
    (hdue : (s.lines.get i).timer = some 0) (hrun : s.rcu.run ≠ .paused) :
    exec .powerGoodWaitExpiry s = .next (State.waitEnded ((s.setLine i { s.lines.get i with
      sup := .powerGood .unseen, timer := none
      episodes := min ((s.lines.get i).episodes + 1) 65535 }).raiseLine i .noPowerGood
        (s.cfg.lines.get i).pgTimeoutMs)) := by
  refine (live_next hlive).trans (congrArg _ ?_)
  simp only [powerGoodExpires, hline]
  exact if_pos ⟨hwaits, by rw [hdue]; rfl, hrun⟩

theorem exec_waitHalted {i : Fin 4} {s : State} (hlive : s.inReset = false)
    (hline : s.powerGoodLine = some i) (hrun : s.rcu.run = .paused) :
    exec .powerGoodWaitExpiry s = .next s := by
  refine (live_next hlive).trans (congrArg _ ?_)
  simp only [powerGoodExpires, hline]
  exact if_neg fun h => h.2.2 hrun

theorem waitEnded_of_poweringOn {s : State} (h : s.poweringOn = true) :
    s.waitEnded = s.powerOnComplete := if_pos h

/-- Where no iteration ends with it the completion of a power-on sequence is the end of its phase (R11,
R15). -/
theorem powerOnComplete_advances {s : State} (hrun : s.rcu.run = .running)
    (h : s.rcu.phase = .settling ∨ s.rcu.phase = .powering ∧ s.rcu.heldOn = false) :
    s.powerOnComplete = s.advancePhase := by
  rcases h with hphase | ⟨hphase, hheld⟩
  · exact powerOnComplete_of_settling hrun hphase
  · rw [powerOnComplete_on hrun hphase hheld, advancePhase_on hphase]
    rfl

/-- The two events that end a wait and raise nothing, with the lines that they leave (R128). -/
theorem exec_waitEnds {i : Fin 4} {c : Instr} {lines : Quad Line} {s : State}
    (hlive : s.inReset = false) (hline : s.powerGoodLine = some i)
    (hwaits : (s.lines.get i).sup = .powerGood .waiting) (hlow : (s.lines.get i).high = false)
    (hc : (c = .watchLineEdge i true ∧ lines = s.lines.set i { s.lines.get i with
        high := true, pulses := (s.lines.get i).pulses + 1, riseRack := some s.tmu.rack
        riseUptime := some s.tmu.uptime, sup := .powerGood (.up s.tmu.uptime)
        timer := none }) ∨
      (c = .powerGoodWaitExpiry ∧ (s.lines.get i).timer = some 0 ∧ s.rcu.run ≠ .paused ∧
        s.checked (12 + i.val) = false ∧ lines = s.lines.set i { s.lines.get i with
          sup := .powerGood .unseen, timer := none
          episodes := min ((s.lines.get i).episodes + 1) 65535 })) :
    exec c s = .next (s.withLines lines).waitEnded ∧
      ∃ p, (lines.get i).sup = .powerGood p := by
  rcases hc with ⟨rfl, rfl⟩ | ⟨rfl, hdue, hrun, hchecked, rfl⟩
  · exact ⟨exec_waitRises hlive hwaits hlow, _, congrArg Line.sup (Quad.get_set_self ..)⟩
  · refine ⟨?_, _, congrArg Line.sup (Quad.get_set_self ..)⟩
    rw [exec_waitExpires hlive hline hwaits hdue hrun]
    exact congrArg (fun u => Host.Outcome.next (State.waitEnded u))
      (raiseLine_of_unchecked (s := s.setLine i _) hchecked)

/-- The expiry of a checked line's wait is recorded, and the sequence completes (R128, R138). -/
theorem waitExpires_recorded {i : Fin 4} {s : State} (hlive : s.inReset = false)
    (hline : s.powerGoodLine = some i) (hwaits : (s.lines.get i).sup = .powerGood .waiting)
    (hpending : s.rcu.powerOnPending = true) (htaken : s.rcu.arrivalTaken = true)
    (hdue : (s.lines.get i).timer = some 0) (hchecked : s.checked (12 + i.val) = true)
    (hrec : s.RecordsAtOnce) (hrun : s.rcu.run = .running)
    (hphase : s.rcu.phase = .settling ∨ s.rcu.phase = .powering ∧ s.rcu.heldOn = false) :
    ∃ t r, exec .powerGoodWaitExpiry s = .next t ∧
      Recorded .noPowerGood [12 + i.val] (s.cfg.lines.get i).pgTimeoutMs s t r ∧
      (s.rcu.phase = .settling → s.theStep.reachPresent = false →
        t.rcu = { s.rcu with phase := .timing, reach := none
                             duration := some (s.theStep.durationS * 1000) } ∧
        t.wck = s.wck) ∧
      (s.rcu.phase = .settling → s.theStep.reachPresent = true →
        t.rcu = { s.rcu with phase := .reaching
                             reach := some (s.theStep.reachTimeoutS * 1000) } ∧
        t.wck = { s.wck with reach := some ⟨s.theStep.reachPoint, s.theStep.reachTarget,
          s.theStep.reachBand⟩ }) ∧
      (s.rcu.phase = .powering → t.rcu = { s.rcu with phase := .on } ∧ t.wck = s.wck) ∧
      t.lines = s.lines.set i { s.lines.get i with
        sup := .powerGood .unseen, timer := none
        episodes := min ((s.lines.get i).episodes + 1) 65535 } ∧
      t.sou = s.sou ∧ t.bgu = s.bgu ∧ t.asc = s.asc ∧ t.tmu = s.tmu := by
  have hexec := exec_waitExpires hlive hline hwaits hdue (by rw [hrun]; exact nofun)
  generalize ({ s.lines.get i with
    sup := .powerGood .unseen, timer := none
    episodes := min ((s.lines.get i).episodes + 1) 65535 } : Line) = l at hexec ⊢
  obtain ⟨t, r, ht, hrecorded, f, n, d, rfl⟩ := raiseSeeing_recorded (asc := s.asc)
    (kind := .noPowerGood) (points := [12 + i.val]) (value := (s.cfg.lines.get i).pgTimeoutMs)
    (s := s.setLine i l) ⟨hrec.active, hrec.policy, hrec.coalesce, hrec.room, hrec.allowed⟩ rfl nofun
  have hraise := (raiseLine_of_checked (s := s.setLine i l) hchecked).trans ht
  obtain ⟨u, hu⟩ : ∃ u : State, u = { s.setLine i l with
    fcu := f, bus := { (s.setLine i l).bus with notices := n, noticeDrops := d } } := ⟨_, rfl⟩
  have hurcu : u.rcu = s.rcu := by rw [hu]; rfl
  have hstep : u.theStep = s.theStep := by rw [hu]; rfl
  have huwck : u.wck = s.wck := by rw [hu]; rfl
  have hends : u.waitEnded = u.advancePhase := by
    rw [← hurcu] at hrun hphase hpending htaken
    rw [waitEnded_of_poweringOn (poweringOn_of (.inl hrun) (hphase.imp_right And.left) hpending htaken),
      powerOnComplete_advances hrun hphase]
  rw [hraise, ← hu, hends] at hexec
  refine ⟨_, r, hexec, ?_, fun hp hreach => ?_, fun hp hreach => ?_, fun hp => ?_, ?_⟩
  · obtain ⟨p, d', r', w, e⟩ := advancePhase_spec u
    rw [e, hu]
    exact { hrecorded with }
  · rw [advancePhase_timing (hurcu ▸ hp) (hstep ▸ hreach), ← hurcu, ← hstep]
    exact ⟨rfl, huwck⟩
  · rw [advancePhase_reaching (hurcu ▸ hp) (hstep ▸ hreach), ← hurcu, ← hstep, ← huwck]
    exact ⟨rfl, rfl⟩
  · rw [advancePhase_on (hurcu ▸ hp), ← hurcu]
    exact ⟨rfl, huwck⟩
  · obtain ⟨p, d', r', w, e⟩ := advancePhase_spec u
    rw [e, hu]
    exact ⟨rfl, rfl, rfl, rfl, rfl⟩

/-- The two ends of a wait that raise nothing, each with the completion that follows, for O34. -/
theorem waitEnds_completes {i : Fin 4} {c : Instr} {lines : Quad Line} {p : PowerGood} {s : State}
    (hexec : exec c s = .next (s.withLines lines).waitEnded)
    (hsup : (lines.get i).sup = .powerGood p) (hpending : s.rcu.powerOnPending = true)
    (htaken : s.rcu.arrivalTaken = true) :
    (s.rcu.run = .running → s.rcu.phase = .settling → s.theStep.reachPresent = false →
      exec c s = .next { s with
        lines := lines
        rcu := { s.rcu with phase := .timing, reach := none
                            duration := some (s.theStep.durationS * 1000) } }) ∧
    (s.rcu.run = .running → s.rcu.phase = .settling → s.theStep.reachPresent = true →
      exec c s = .next { s with
        lines := lines
        rcu := { s.rcu with phase := .reaching, reach := some (s.theStep.reachTimeoutS * 1000) }
        wck := { s.wck with reach := some ⟨s.theStep.reachPoint, s.theStep.reachTarget,
          s.theStep.reachBand⟩ } }) ∧
    (s.rcu.run = .running → s.rcu.phase = .powering → s.rcu.heldOn = false →
      exec c s = .next { s with lines := lines, rcu := { s.rcu with phase := .on } }) ∧
    (s.rcu.run = .running → s.rcu.phase = .powering → s.rcu.heldOn = true →
      s.rcu.iteration + 1 < s.theStep.repeats →
      ∃ t, exec c s = .next t ∧ t.rcu.phase = .off ∧ t.rcu.heldOn = false ∧
        t.rcu.iteration = s.rcu.iteration + 1 ∧ t.rcu.off = some s.theStep.offMs ∧
        t.rcu.run = .running ∧ t.sou.target0 = 0 ∧ t.sou.level0 = 0 ∧ t.fcu = s.fcu ∧
        (t.lines.get i).sup = .powerGood .off ∧
        (t.lines.get i).episodes = (lines.get i).episodes) ∧
    (s.rcu.run = .running → s.rcu.phase = .powering → s.rcu.heldOn = true →
      s.theStep.repeats ≤ s.rcu.iteration + 1 → s.rcu.step + 1 < s.cfg.steps.length →
      ∃ t, exec c s = .next t ∧ t.rcu.step = s.rcu.step + 1 ∧ t.rcu.iteration = 0 ∧
        t.rcu.heldOn = false ∧ t.fcu = s.fcu) ∧
    (s.rcu.run = .running → s.rcu.phase = .powering → s.rcu.heldOn = true →
      s.theStep.repeats ≤ s.rcu.iteration + 1 → s.cfg.steps.length ≤ s.rcu.step + 1 →
      ∃ t, exec c s = .next t ∧
        RunCompleted s.openRecords { s with rcu := { s.rcu with phase := .on } } t) ∧
    (s.rcu.run = .paused → s.rcu.phase = .settling ∨ s.rcu.phase = .powering →
      exec c s = .next { s with lines := lines, rcu := { s.rcu with heldPowerOn := true } }) := by
  have hends (hrun : s.rcu.run = .running ∨ s.rcu.run = .paused)
      (hphase : s.rcu.phase = .settling ∨ s.rcu.phase = .powering) :
      exec c s = .next (s.withLines lines).powerOnComplete :=
    hexec.trans (congrArg _ (waitEnded_of_poweringOn (s := s.withLines lines)
      (poweringOn_of hrun hphase hpending htaken)))
  refine ⟨fun hrun hphase hreach => ?_, fun hrun hphase hreach => ?_, fun hrun hphase hheld => ?_,
    fun hrun hphase hheld hmore => ?_, fun hrun hphase hheld hlast hnext => ?_,
    fun hrun hphase hheld hlast hfinal => ?_, fun hrun hphase => ?_⟩
  · exact (hends (.inl hrun) (.inl hphase)).trans
      (congrArg _ (powerOnComplete_timing (s := s.withLines lines) hrun hphase hreach))
  · exact (hends (.inl hrun) (.inl hphase)).trans
      (congrArg _ (powerOnComplete_reaching (s := s.withLines lines) hrun hphase hreach))
  · exact (hends (.inl hrun) (.inr hphase)).trans
      (congrArg _ (powerOnComplete_on (s := s.withLines lines) hrun hphase hheld))
  · obtain ⟨hcomplete, hoff⟩ := powerOnComplete_next (s := s.withLines lines) hrun hphase hheld hmore
    obtain ⟨hsou, hfcu, -⟩ := hoff.kept
    obtain ⟨-, hrcu, -, -, hlines⟩ := hoff
    have hline := hlines i
    rw [sync_powerGood_off (l := (s.withLines lines).iterated.lines.get i) hsup] at hline
    refine ⟨_, (hends (.inl hrun) (.inr hphase)).trans (congrArg _ hcomplete), ?_, ?_, ?_, ?_, ?_, ?_,
      ?_, hfcu, congrArg Line.sup hline, (congrArg Line.episodes hline).trans rfl⟩
    · rw [hrcu]
    · rw [hrcu]
    · rw [hrcu]
      rfl
    · rw [hrcu]
      rfl
    · rw [hrcu]
      exact hrun
    · rw [hsou]
      rfl
    · rw [hsou]
      rfl
  · have h := endStep_entered (s := (s.withLines lines).poweredOn) hnext
    exact ⟨_, (hends (.inl hrun) (.inr hphase)).trans (congrArg _
      (powerOnComplete_last (s := s.withLines lines) hrun hphase hheld hlast)), h.position.1,
      h.position.2, h.held.2.2.1, h.kept.1⟩
  · have h := (endStep_completes (s := (s.withLines lines).poweredOn) hfinal).1
    exact ⟨_, (hends (.inl hrun) (.inr hphase)).trans (congrArg _
      (powerOnComplete_last (s := s.withLines lines) hrun hphase hheld hlast)),
      h.of_same ⟨rfl, rfl, rfl⟩ rfl rfl rfl rfl rfl⟩
  · exact (hends (.inr hrun) hphase).trans
      (congrArg _ (powerOnComplete_paused (s := s.withLines lines) hrun))

/-! ### A wait that is abandoned (R128, R129) -/

theorem abandonWait_waiting {now : Uptime} {l : Line} (h : l.sup = .powerGood .waiting) :
    l.abandonWait now = { l with
      timer := none
      sup := if l.high then .powerGood (.up (l.riseUptime.getD now)) else .powerGood .unseen } :=
  if_pos h

/-- The line of an abandoned wait under the board-on flag (R128, R129). -/
theorem sync_abandoned {on force : Bool} {hb : Nat} {now : Uptime} {l : Line}
    (h : l.sup = .powerGood .waiting) : (l.abandonWait now).sync on force hb = { l with
      timer := none
      sup := if on = false then .powerGood .off
        else if l.high = true then .powerGood (.up (l.riseUptime.getD now))
        else .powerGood .unseen } := by
  rw [abandonWait_waiting h]
  cases on <;> cases l.high <;> rfl

/-- A run end takes a line that is waited for OFF (R128, R129). -/
theorem runEnd_line {i : Fin 4} {p : PowerGood} {v : Verdict} {cause : EndCause} {s : State}
    (h : (s.lines.get i).sup = .powerGood p) : (s.runEnd v cause).lines.get i =
      { s.lines.get i with sup := .powerGood .off, timer := none } := by
  obtain ⟨o, b, bn, ns, nd, lanes, lines, e, -, -, -, hlines⟩ := runEnd_spec v cause s
  rw [e]
  exact (hlines i).trans (sync_powerGood_off h)

theorem LogOnly.lines {s t : State} (h : LogOnly s t) : t.lines = s.lines := by
  obtain ⟨f, n, d, rfl⟩ := h
  rfl

/-- Isolation takes a line that is waited for OFF (R30, R128, R129). -/
theorem enterIsolated_line {i : Fin 4} {p : PowerGood} {ms : Nat} {s : State}
    (h : (s.lines.get i).sup = .powerGood p) : (s.enterIsolated ms).lines.get i =
      { s.lines.get i with sup := .powerGood .off, timer := none } := by
  obtain ⟨c, hc, hlog, -⟩ := enterIsolated_log ms s
  have hline : (s.enterIsolated ms).lines.get i =
      (c.lines.get i).sync false false (c.cfg.lines.get i).hbMaxMs := by
    rw [hc]
    exact Quad.get_mapIdx ..
  rw [hline, hlog.lines]
  exact sync_powerGood_off h

/-! ### A wait that NEXT_STEP abandons -/

/-- A write that is not the last that max_faults allows is all that a capture without coalescing brings
(R142, R147). -/
theorem captureRaise_written {r : Record} {s : State} (hcoalesce : s.cfg.coalesceMs = 0)
    (hallowed : s.fcu.recordCount + 1 ≠ s.cfg.maxFaults) :
    LogOnly s (s.captureRaise r) ∧
      (s.captureRaise r).fcu.recordCount = s.fcu.recordCount + 1 := by
  obtain ⟨hcount, -, -⟩ := writeRecord_counts r s
  have hlog := writeRecord_logOnly r s
  have hwritten : s.captureRaise r = s.writeRecord r := by
    refine (if_pos hcoalesce).trans (if_neg ?_)
    rw [hcount, (writeRecord_closed r s).only.cfg]
    exact hallowed
  rw [hwritten]
  exact ⟨hlog, hcount⟩

/-- The line of a wait whose step has ended stands by its level where the board is on, and OFF where it
is off, while the next step asks for its claim (R128, R129). -/
theorem endStep_asks_line {i : Fin 4} {s : State} (hnext : s.rcu.step + 1 < s.cfg.steps.length)
    (hmore : s.bgu.committed < (s.stepAt (s.rcu.step + 1)).claimW)
    (hwaits : (s.lines.get i).sup = .powerGood .waiting) : s.endStep.lines.get i =
      { s.lines.get i with
        timer := none
        sup := if s.sou.target0 = 0 then .powerGood .off
          else if (s.lines.get i).high = true then
            .powerGood (.up ((s.lines.get i).riseUptime.getD s.tmu.uptime))
          else .powerGood .unseen } := by
  rw [endStep_asks hnext hmore]
  obtain ⟨w, wd, b, bn, e, -⟩ := askClaim_spec (s.stepAt (s.rcu.step + 1)).claimW
    (s.stepStopped.claiming (s.rcu.step + 1))
  rw [e]
  have hon : (decide (0 < s.sou.target0) && true) = false ↔ s.sou.target0 = 0 := by
    simp only [Bool.and_true, decide_eq_false_iff_not]
    omega
  have hline : s.stepStopped.lines.get i = (s.lines.get i).abandonWait s.tmu.uptime :=
    Quad.get_map ..
  refine (Quad.get_mapIdx ..).trans ?_
  show Line.sync (decide (0 < s.sou.target0) && true) _ _ (s.stepStopped.lines.get i) = _
  rw [hline, sync_abandoned hwaits]
  simp only [hon]

/-- Settles O34: the ends by `exec_waitEnds` and `waitExpires_recorded`, and the three ways to abandon a
wait by `endStep_asks_line`, `runEnd_line` and `enterIsolated_line`. -/
theorem powerGoodWaitEndsBothWays : Obligations.PowerGoodWaitEndsBothWays := by
  refine ⟨fun i s hlive hline hwaits hlow hpending htaken => ⟨fun c lines hc => ?_,
      fun hrun => exec_waitHalted hlive hline hrun, fun hdue hchecked hrec hrun hphase =>
        waitExpires_recorded hlive hline hwaits hpending htaken hdue hchecked hrec hrun hphase⟩,
    fun i j s hlive hwaits hsup hdue hchecked hactive hpolicy hcoalesce hallowed hnext hmore => ?_,
    fun i f c s hlive hwaits hactive hc => ?_⟩
  · obtain ⟨hexec, p, hsup⟩ := exec_waitEnds hlive hline hwaits hlow hc
    exact waitEnds_completes hexec hsup hpending htaken
  · have hexec := exec_heartbeatIntervalExpiry hlive hsup hdue
    have hne : i ≠ j := by
      rintro rfl
      exact absurd (hwaits.symm.trans hsup) nofun
    generalize ({ s.lines.get j with
      sup := .heartbeat .hung, timer := none
      episodes := min ((s.lines.get j).episodes + 1) 65535 } : Line) = l at hexec
    rw [raiseLine_of_checked (s := s.setLine j l) hchecked,
      raise_nextStep (s := s.setLine j l) hactive rfl hpolicy,
      if_neg (Bool.eq_false_iff.mp (lastStep_of_lt (s := s.setLine j l) hnext)), nextStepAction_eq]
      at hexec
    generalize State.formRecord _ _ _ _ _ = r at hexec
    have hrest := (abandoned_spec (s.setLine j l)).rest
    have hstill : ((s.setLine j l).lines.get i) = s.lines.get i := Quad.get_set_of_ne _ _ hne
    generalize (s.setLine j l).abandoned = a at *
    obtain ⟨g, b, rfl⟩ : ∃ g b, a = { s.setLine j l with bgu := g, bus := b } := ⟨_, _, hrest⟩
    have hg : g.committed = s.bgu.committed := congrArg (fun t => t.bgu.committed) hrest
    have hentered := endStep_entered (s := { s.setLine j l with bgu := g, bus := b }) hnext
    have hendline := endStep_asks_line (i := i) (s := { s.setLine j l with bgu := g, bus := b }) hnext
      (hg ▸ hmore) (by rw [hstill]; exact hwaits)
    obtain ⟨⟨hrun, -, -⟩, -⟩ := hentered.asks (hg ▸ hmore)
    obtain ⟨hfcu, -, -, hcfl⟩ := hentered.kept
    generalize State.endStep { s.setLine j l with bgu := g, bus := b } = u at *
    have hcfg : u.cfg = s.cfg := by
      rw [State.cfg, hcfl]
      rfl
    obtain ⟨⟨f, n, d, hlog⟩, hcount⟩ := captureRaise_written (r := r) (s := u) (hcfg ▸ hcoalesce)
      (by rw [hcfg, hfcu]; exact hallowed)
    refine ⟨_, hexec, ?_, ?_, ?_⟩
    · rw [hlog]
      exact hrun
    · rw [hlog]
      refine hendline.trans ?_
      show ({ (s.setLine j l).lines.get i with timer := _, sup := _ } : Line) = _
      rw [hstill]
      rfl
    · rw [hcount, hfcu]
      rfl
  · rcases hc with ⟨rfl, htakes⟩ | ⟨rfl, hdue, hisolated⟩
    · have hexec := exec_taken (c := .abort f) (k := 0x23) rfl .abort htakes
      rw [takeAbort_of_active hactive] at hexec
      refine ⟨_, hexec, ?_, ?_⟩
      · have hended := (abortRun_spec s).1.run
        show s.abortRun.rcu.run.active = false
        rw [hended]
        rfl
      · have hlines := (finalClosing_spec .ending s).1.lines
        show s.abortRun.lines.get i = _
        rw [State.abortRun, runEnd_line (p := .waiting) (by rw [hlines]; exact hwaits), hlines]
    · have hexec : exec .transmitSuccessTimerExpiry s = .next (State.enterIsolated
          (elapsed s.tmu.uptime s.bus.lastSuccess)
          { s with bus := { s.bus with isolated := true, successTimer := none } }) :=
        (live_next hlive).trans (congrArg _ (if_pos ⟨by rw [hdue]; rfl, hisolated⟩))
      refine ⟨_, hexec, ?_, enterIsolated_line (s := { s with
        bus := { s.bus with isolated := true, successTimer := none } }) hwaits⟩
      obtain ⟨f', bus', lanes, lines, e, -⟩ := enterIsolated_spec
        (elapsed s.tmu.uptime s.bus.lastSuccess)
        { s with bus := { s.bus with isolated := true, successTimer := none } }
      rw [e]
      rfl

end Sys2Proof.Machine
end

section
/-! SUPPORT. PAUSE (O8) and RESUME (O9): the outputs held and returned, the lanes and lines under the
board-on flag, and what a pause held. -/

namespace Sys2Proof.Machine

/-! ### Lanes and lines under the board-on flag (R109, R124 to R130) -/

theorem sync_lane (on enabled : Bool) (l : Lane) : l.sync on enabled =
    if on = false then { l with lock := .off }
    else if l.lock = .off ∧ enabled = true then
      { l with
        lock := .search, sign := .undetermined, searchRun := 0, unknownRun := 0
        markErrorRun := 0, framePosition := 0, distance := none }
    else l := by
  obtain ⟨lock, sign, n, u, m, p, d, a, b, c, e⟩ := l
  cases on <;> cases enabled <;> cases lock <;> rfl

/-- A lane that follows the board-on flag follows it again without a change (R109). -/
theorem sync_lane_again (on enabled : Bool) (l : Lane) :
    (l.sync on enabled).sync on enabled = l.sync on enabled := by
  obtain ⟨lock, sign, n, u, m, p, d, a, b, c, e⟩ := l
  cases on <;> cases enabled <;> cases lock <;> rfl

/-- A line that stands as the flags allow it with the board on stays as it stands (R124). -/
theorem sync_line_allowed {force : Bool} {hb : Nat} {l : Line} (h : l.sup.allowed true force) :
    l.sync true force hb = l := by
  obtain ⟨high, pulses, rack, uptime, sup, timer, count, episodes⟩ := l
  rcases sup with _ | (_ | _ | _) | ⟨_ | _, o⟩ | _ | (_ | _) <;> cases force <;>
    simp_all [Supervision.allowed, Line.sync]

/-- A line with the board off (R124 to R126, R129, R130). -/
theorem sync_line_false (hb : Nat) (l : Line) : l.sync false false hb = { l with
    sup := match l.sup with
      | .unused => .unused
      | .heartbeat _ => .heartbeat .disarmed
      | .rate _ o => .rate false o
      | .powerGood _ => .powerGood .off
      | .resetWatch _ => .resetWatch false
    timer := match l.sup with
      | .heartbeat .armed => none
      | .heartbeat .hung => none
      | .rate true _ => none
      | .powerGood _ => none
      | _ => l.timer } := by
  obtain ⟨high, pulses, rack, uptime, sup, timer, count, episodes⟩ := l
  rcases sup with _ | (_ | _ | _) | ⟨_ | _, o⟩ | _ | (_ | _) <;> rfl

/-- What the flags allow a line they allow it with the board on (R129). -/
theorem Supervision.allowed.on {on inForce : Bool} {p : Supervision} (h : p.allowed on inForce) :
    p.allowed true inForce := by
  cases p with
  | powerGood _ => exact fun hoff => absurd hoff nofun
  | unused | heartbeat _ | rate _ _ | resetWatch _ => exact h

/-- A line that stands as a board that is off allows it keeps its supervision (R124, R129). -/
theorem sync_line_disallowed {hb : Nat} {l : Line} (h : l.sup.allowed false false) :
    (l.sync false false hb).sup = l.sup := by
  rw [sync_line_false]
  cases hsup : l.sup with
  | unused => rfl
  | heartbeat _ | rate _ _ | powerGood _ | resetWatch _ =>
    simp_all [Supervision.allowed]

/-! ### PAUSE (R21, R37) -/

theorem takePause_of_paused {s : State} (h : s.rcu.run = .paused) : s.takePause = ⟨s, .ok, []⟩ := by
  simp [State.takePause, h]

theorem takePause_of_other {s : State} (h : s.rcu.run ∉ [.running, .paused]) :
    s.takePause = ⟨s, .wrongState, []⟩ := by
  unfold State.takePause
  split <;> simp_all

/-- The outputs that a pause holds, within their limits (R37). -/
theorem hold_eq {c : LoadedConfig} {u : Sou} (h0 : u.level0 ≤ limit0 c) (h1 : u.level1 ≤ limit1 c)
    (h2 : u.level2 ≤ 100) : u.hold c = { u with
      target0 := u.level0, target1 := u.level1, target2 := u.level2
      limit := if u.level0 = 0 ∨ u.limitInput = false then .idle
        else match u.limit with
          | .idle => .counting 0
          | .counting n => .counting n
          | .expired => .expired } := by
  unfold Sou.hold Sou.atOnce0 Sou.atOnce1 Sou.atOnce2
  rw [syncLimit_eq, Nat.min_eq_left h0]
  dsimp only
  rw [Nat.min_eq_left h1, Nat.min_eq_left h2] <;> rfl

/-- The board-on flag of a pause (R17). -/
theorem pauseRun_boardOn {s : State} (h0 : s.sou.level0 ≤ limit0 s.cfg) :
    State.boardOnNow { s with sou := s.sou.hold s.cfg, rcu := { s.rcu with run := .paused } } =
      (decide (0 < s.sou.level0) && decide (s.rcu.phase ≠ .off)) := by
  show (true && decide (0 < min s.sou.level0 (limit0 s.cfg)) && _) = _
  rw [Nat.min_eq_left h0, Bool.true_and]

/-- Settles O8: the held outputs by `hold_eq`, the lanes and lines by the refresh under the board-on
flag. -/
theorem pauseHoldsTheOutputs : Obligations.PauseHoldsTheOutputs := by
  refine ⟨fun f s htakes hrun h0 h0' h1 h1' h2 => ?_, fun f s htakes => ⟨fun hrun => ?_, fun hrun => ?_⟩⟩
  · have hexec := exec_taken (c := .pause f) rfl .pause htakes
    rw [takePause_of_running hrun] at hexec
    have hlimit : s.sou.level0 ≤ limit0 s.cfg := le_min h0 h0'
    have hon := pauseRun_boardOn hlimit
    have hlane (i : Fin 4) : s.pauseRun.lanes.get i = (s.lanes.get i).sync
        (decide (0 < s.sou.level0) && decide (s.rcu.phase ≠ .off)) (s.cfg.laneEnable.getLsbD i.val) := by
      refine (Quad.get_mapIdx ..).trans ?_
      rw [hon]
      rfl
    have hline (i : Fin 4) : s.pauseRun.lines.get i = (s.lines.get i).sync
        (decide (0 < s.sou.level0) && decide (s.rcu.phase ≠ .off))
        ((decide (0 < s.sou.level0) && decide (s.rcu.phase ≠ .off)) && !s.rcu.blanking)
        (s.cfg.lines.get i).hbMaxMs := by
      refine (Quad.get_mapIdx ..).trans ?_
      rw [hon]
      rfl
    refine ⟨_, hexec, ?_, hold_eq hlimit (le_min h1 h1') h2, fun hpos hphase => ?_, fun hoff i => ?_,
      rfl, rfl, rfl, rfl, rfl, rfl, rfl⟩
    · rw [← hon]
      rfl
    · rw [decide_eq_true hpos, decide_eq_true hphase] at hlane hline
      refine ⟨fun i hkeeps => ?_, fun i hoff henabled => ?_, fun hboard hlines i => ?_⟩
      · refine (hlane i).trans ?_
        rw [sync_lane, if_neg nofun, if_neg]
        rintro ⟨hoff, henabled⟩
        exact hkeeps.elim (· hoff) fun h => absurd (henabled.symm.trans h) nofun
      · refine (hlane i).trans ?_
        rw [sync_lane, if_neg nofun, if_pos ⟨hoff, henabled⟩]
      · refine (hline i).trans (sync_line_allowed ?_)
        have h := hlines i
        rw [State.supervising, hboard] at h
        exact h
    · have hclear : (decide (0 < s.sou.level0) && decide (s.rcu.phase ≠ .off)) = false := by
        rcases hoff with h | h <;> simp [h]
      rw [hclear] at hlane hline
      refine ⟨(hlane i).trans ?_, (hline i).trans (sync_line_false ..)⟩
      rw [sync_lane, if_pos rfl]
  · rw [exec_taken (c := .pause f) rfl .pause htakes, takePause_of_paused hrun]
    rfl
  · rw [exec_taken (c := .pause f) rfl .pause htakes, takePause_of_other hrun]
    rfl

/-! ### RESUME (R22, R37) -/

theorem takeResume_of_running {s : State} (h : s.rcu.run = .running) :
    s.takeResume = ⟨s, .ok, []⟩ := by simp [State.takeResume, h]

theorem takeResume_of_other {s : State} (h : s.rcu.run ∉ [.running, .paused]) :
    s.takeResume = ⟨s, .wrongState, []⟩ := by
  unfold State.takeResume
  split <;> simp_all

/-- The state of a RESUME before its landing report: the targets returned, the run RUNNING (R22). -/
def State.resumed (s : State) : State :=
  { s with
    sou := s.sou.atSlew s.cfg (s.phaseLevel.getD 0) s.theStep.standbyMv s.theStep.fanPct s.theStep.slew
    rcu := { s.rcu with run := .running } }.refresh

theorem resumeRun_eq (s : State) :
    s.resumeRun = s.resumed.commandLanding.resumePowerOn.resumeReach := rfl

theorem exec_resume {f : RxFrame} {s : State} (htakes : s.takesControl 0x22 f = true)
    (hrun : s.rcu.run = .paused) : exec (.resume f) s = .next (s.resumeRun.answered 0x22 f 0) := by
  rw [exec_taken (c := .resume f) rfl .resume htakes, takeResume_of_paused hrun]
  rfl

/-- The level that a phase asks lies within the main maximum (R4, R10). -/
theorem asks_le (s : State) : s.asks ≤ s.cfg.mainMaxMv := by
  unfold State.asks
  split
  · exact Nat.zero_le _
  · exact setPoint_le ..

theorem asks_target (s : State) : min s.asks (limit0 s.cfg) = min s.asks 13200 := by
  have h := asks_le s
  unfold limit0
  omega

/-- What a RESUME leaves before its landing report (R22, R37). -/
structure Resumed (s u : State) : Prop where
  rest : u = { s with
    rcu := { s.rcu with run := .running, boardOn := s.powered }, sou := s.returned
    lanes := u.lanes, lines := u.lines }
  powered : u.boardOnNow = s.powered
  lanes : ∀ i, u.lanes.get i =
    (s.lanes.get i).sync s.powered (s.cfg.laneEnable.getLsbD i.val)
  lines : ∀ i, u.lines.get i = (s.lines.get i).sync s.powered (s.powered && !s.rcu.blanking)
    (s.cfg.lines.get i).hbMaxMs

theorem resumed_boardOn {s : State} (hphase : s.rcu.phase ≠ .none) :
    State.boardOnNow { s with
      sou := s.sou.atSlew s.cfg (s.phaseLevel.getD 0) s.theStep.standbyMv s.theStep.fanPct
        s.theStep.slew
      rcu := { s.rcu with run := .running } } = s.powered := by
  rw [phaseLevel_of_ne_none hphase]
  show (true && decide (0 < min s.asks (limit0 s.cfg)) && _) = _
  rw [asks_target, Bool.true_and]
  rfl

theorem resumed_spec {s : State} (hphase : s.rcu.phase ≠ .none) : Resumed s s.resumed := by
  have hon := resumed_boardOn hphase
  have hsou : s.resumed.sou = s.returned := by
    have h : s.resumed.sou = s.sou.atSlew s.cfg s.asks s.theStep.standbyMv s.theStep.fanPct
        s.theStep.slew := by
      show s.sou.atSlew s.cfg (s.phaseLevel.getD 0) _ _ _ = _
      rw [phaseLevel_of_ne_none hphase]
      rfl
    rw [h, Sou.atSlew, asks_target, syncLimit_eq] <;> rfl
  have hrcu : s.resumed.rcu = { s.rcu with run := .running, boardOn := s.powered } := by
    rw [← hon]
    rfl
  refine ⟨?_, hon, fun i => ?_, fun i => ?_⟩
  · rw [← hsou, ← hrcu]
    rfl
  · rw [← hon]
    exact Quad.get_mapIdx ..
  · rw [← hon]
    exact Quad.get_mapIdx ..

section
variable {s u : State}

theorem Resumed.rcu (h : Resumed s u) :
    u.rcu = { s.rcu with run := .running, boardOn := s.powered } := by rw [h.rest]

theorem Resumed.sou (h : Resumed s u) : u.sou = s.returned := by rw [h.rest]

theorem Resumed.cfl (h : Resumed s u) : u.cfl = s.cfl := by rw [h.rest]

theorem Resumed.cfg (h : Resumed s u) : u.cfg = s.cfg := by simp only [State.cfg, h.cfl]

theorem Resumed.theStep (h : Resumed s u) : u.theStep = s.theStep :=
  theStep_congr h.cfl (by rw [h.rcu])

theorem Resumed.asks (h : Resumed s u) : u.asks = s.asks :=
  asks_congr h.cfg (by rw [h.rcu]) (by rw [h.rcu])

theorem Resumed.lanesUnder (h : Resumed s u) : s.lanesUnder s.powered u :=
  fun i => (h.lanes i).trans (sync_lane ..)

end

theorem resumePowerOn_of_not {u : State} (h : u.rcu.heldPowerOn = false) : u.resumePowerOn = u :=
  if_neg (h ▸ Bool.false_ne_true)

theorem resumeReach_of_not {u : State} (h : u.rcu.heldReach = false) : u.resumeReach = u :=
  if_neg (h ▸ Bool.false_ne_true)

/-- Without a landing that is an arrival a RESUME goes on to what the pause held (R22). -/
theorem resumeRun_of_no_arrival {s : State} (hphase : s.rcu.phase ≠ .none)
    (h : s.rcu.arrivalTaken = true ∨ 0 < s.theStep.slew ∧ s.sou.level0 ≠ s.asks) :
    s.resumeRun = s.resumed.resumePowerOn.resumeReach := by
  have hres := resumed_spec hphase
  rw [resumeRun_eq, commandLanding_of_not]
  rcases h with h | ⟨hslew, hlevel⟩
  · refine .inr (.inr (.inl ?_))
    rw [hres.rcu]
    exact h
  · refine .inl fun hlands => hlevel ?_
    have hstays : s.resumed.sou.level0 = s.sou.level0 := by
      rw [hres.sou]
      exact if_neg (Nat.ne_of_gt hslew)
    rw [← hres.asks, ← hlands.2, hstays]

/-- A RESUME with nothing held and no arrival due returns the targets and does nothing else (R22). -/
theorem resume_returns {f : RxFrame} {s : State} (htakes : s.takesControl 0x22 f = true)
    (hrun : s.rcu.run = .paused) (hpower : s.rcu.heldPowerOn = false)
    (hreach : s.rcu.heldReach = false) (hphase : s.rcu.phase ≠ .none)
    (hdue : s.rcu.arrivalTaken = true ∨ 0 < s.theStep.slew ∧ s.sou.level0 ≠ s.asks) :
    exec (.resume f) s = .next (s.resumed.answered 0x22 f 0) := by
  have hres := resumed_spec hphase
  rw [exec_resume htakes hrun, resumeRun_of_no_arrival hphase hdue,
    resumePowerOn_of_not (by rw [hres.rcu]; exact hpower),
    resumeReach_of_not (by rw [hres.rcu]; exact hreach)]

/-! ### The arrival of a RESUME (R10, R22) -/

/-- Lanes that follow the board-on flag stand through an arrival (R109). -/
theorem arrive_lanes {s : State} (hphase : s.rcu.phase = .settling ∨ s.rcu.phase = .powering)
    (hfollow : ∀ i : Fin 4, (s.lanes.get i).sync s.boardOnNow (s.cfg.laneEnable.getLsbD i.val) =
      s.lanes.get i) (i : Fin 4) : s.arrive.lanes.get i = s.lanes.get i := by
  have ha := arriving_spec s
  have hlanes : s.arriving.arrivalSequence.lanes = s.arriving.lanes := by
    rw [(arrivalSequence_sequenced s.arriving).rest]
  rw [arrive_eq hphase, hlanes]
  by_cases hblank : s.theStep.blankingMs = 0
  · exact (ha.cleared hblank i).1.trans (hfollow i)
  · rw [(ha.still hblank).1]

/-- A RESUME takes an arrival that falls due, and nothing that was held follows it (R10, R22). -/
theorem resumeRun_arrives {s : State} (hpower : s.rcu.heldPowerOn = false)
    (hreach : s.rcu.heldReach = false) (hphase : s.rcu.phase = .settling ∨ s.rcu.phase = .powering)
    (htaken : s.rcu.arrivalTaken = false) (hmax : s.asks ≤ 13200)
    (hlands : s.theStep.slew = 0 ∨ s.sou.level0 = s.asks) :
    s.resumeRun = s.resumed.arrive ∧ s.resumed.sou.level0 = s.asks := by
  have hne : s.rcu.phase ≠ .none := by rcases hphase with h | h <;> rw [h] <;> exact nofun
  have hres := resumed_spec hne
  have htarget : s.resumed.sou.target0 = s.asks := by
    rw [hres.sou]
    exact Nat.min_eq_left hmax
  have hlevel : s.resumed.sou.level0 = s.asks := by
    rw [hres.sou]
    by_cases hslew : s.theStep.slew = 0
    · exact (if_pos hslew).trans (Nat.min_eq_left hmax)
    · exact (if_neg hslew).trans (hlands.resolve_left hslew)
  have hrcu := arrive_rcu (s := s.resumed) (by rw [hres.rcu]; exact hphase)
  have hlanding : s.resumed.commandLanding = s.resumed.arrive := by
    refine commandLanding_of_arrives (hlevel.trans htarget.symm) ?_ ?_ ?_ (hlevel.trans hres.asks.symm)
    all_goals rw [hres.rcu]
    · exact htaken
    · exact hne
  rw [resumeRun_eq, hlanding, resumePowerOn_of_not (by rw [hrcu, hres.rcu]; exact hpower),
    resumeReach_of_not (by rw [hrcu, hres.rcu]; exact hreach)]
  exact ⟨rfl, hlevel⟩

/-- What an arrival leaves of the board-on flag that already stands as the targets say (R17). -/
theorem Resumed.arrive_boardOn {s u : State} (h : Resumed s u)
    (hphase : u.rcu.phase = .settling ∨ u.rcu.phase = .powering) :
    u.arrive.rcu.boardOn = s.powered := by
  rw [arrive_rcu hphase, h.powered, h.rcu]
  exact ite_self _

/-- An arrival of SETTLING without a power-on, a reach field or a pending lower claim enters TIMING and
starts the blanking timer (R10, R11, R18). -/
theorem arrive_timing {s : State} (hphase : s.rcu.phase = .settling)
    (hreach : s.theStep.reachPresent = false) (hpending : s.rcu.powerOnPending = false)
    (hlower : s.bgu.pendingLower = none) (hblank : 0 < s.theStep.blankingMs) :
    s.arrive.rcu = { s.rcu with
      arrivalTaken := true, blankingTimer := some s.theStep.blankingMs, phase := .timing
      reach := none, duration := some (s.theStep.durationS * 1000) } ∧
    s.arrive.sou = s.sou ∧ s.arrive.bgu = s.bgu ∧ s.arrive.wck = s.wck ∧ s.arrive.bus = s.bus := by
  have ha := arriving_spec s
  have harrive : s.arrive = s.arriving.enterTiming := by
    rw [arrive_eq (.inl hphase), arrivalSequence_unpowered (ha.pending.trans hpending),
      advancePhase_timing (ha.phase.trans hphase) (ha.theStep ▸ hreach)]
  obtain ⟨hbgu, hbus⟩ := ha.claim.kept hlower
  have hzero : s.theStep.blankingMs ≠ 0 := Nat.ne_of_gt hblank
  have hrcu := ha.rcu
  rw [if_neg hzero, if_neg hzero, if_neg hzero, if_neg (by rw [hphase]; exact nofun)] at hrcu
  have hwck : s.arriving.wck = s.wck := by rw [ha.rest]
  rw [harrive]
  refine ⟨?_, ha.sou, hbgu, hwck, hbus⟩
  show { s.arriving.rcu with
    phase := .timing, reach := none, duration := some (s.arriving.theStep.durationS * 1000) } = _
  rw [hrcu, ha.theStep]

theorem answered_bus (kind : Byte) (f : RxFrame) (code : Byte) (s : State) :
    (s.answered kind f code).bus =
      { s.bus with responses := s.bus.responses ++ [answerTo kind f code []] } := rfl

/-- The second clause of O9: the arrival that falls due. -/
theorem resume_arrives {f : RxFrame} {s : State} (htakes : s.takesControl 0x22 f = true)
    (hrun : s.rcu.run = .paused) (hpower : s.rcu.heldPowerOn = false)
    (hreach : s.rcu.heldReach = false) (hphase : s.rcu.phase = .settling ∨ s.rcu.phase = .powering)
    (htaken : s.rcu.arrivalTaken = false) (hmax : s.asks ≤ 13200)
    (hlands : s.theStep.slew = 0 ∨ s.sou.level0 = s.asks) (hidle : s.bus.attempt = none) :
    ∃ t, exec (.resume f) s = .next t ∧ Arrived s.asks s t ∧
      t.sou = { s.returned with pressed := t.sou.pressed, pressTimer := t.sou.pressTimer } ∧
      t.rcu.boardOn = s.powered ∧ s.lanesUnder s.powered t ∧
      t.bus.responses = s.bus.responses ++ [answerTo 0x22 f 0 []] ∧
      t.asc = s.asc ∧ t.fcu = s.fcu ∧ t.tmu = s.tmu ∧ t.cfl = s.cfl ∧
      (s.rcu.phase = .settling → s.theStep.reachPresent = false →
        s.rcu.powerOnPending = false → s.bgu.pendingLower = none → 0 < s.theStep.blankingMs →
        t.rcu = { s.rcu with
          run := .running, boardOn := s.powered, arrivalTaken := true
          blankingTimer := some s.theStep.blankingMs, phase := .timing, reach := none
          duration := some (s.theStep.durationS * 1000) } ∧
        t.sou = s.returned ∧ t.bgu = s.bgu ∧ t.wck = s.wck ∧
        t.bus = { s.bus with responses := s.bus.responses ++ [answerTo 0x22 f 0 []] }) := by
  have hne : s.rcu.phase ≠ .none := by rcases hphase with h | h <;> rw [h] <;> exact nofun
  obtain ⟨hresume, hlevel⟩ := resumeRun_arrives hpower hreach hphase htaken hmax hlands
  have hexec := exec_resume htakes hrun
  rw [hresume] at hexec
  have hres := resumed_spec hne
  generalize s.resumed = u at *
  have huphase : u.rcu.phase = .settling ∨ u.rcu.phase = .powering := by rw [hres.rcu]; exact hphase
  have hbgu : u.bgu = s.bgu := by rw [hres.rest]
  have hbus : u.bus = s.bus := by rw [hres.rest]
  have hwck : u.wck = s.wck := by rw [hres.rest]
  have harrived : Arrived s.asks s u.arrive := by
    refine (arrive_arrived (by rw [hres.rcu]) huphase (hbus ▸ hidle) hlevel).of hres.cfg
      (by rw [hres.rcu]) (by rw [hres.rcu]) (by rw [hres.rcu]) (by rw [hres.rcu]) (by rw [hres.rcu])
      (by rw [hres.rcu]) (fun i => ?_) (by rw [hbgu]) (by rw [hbgu]) (by rw [hbus])
      (by rw [hres.sou]; rfl)
    rw [hres.lines]
    exact sync_reading ..
  have hlanes (i : Fin 4) : u.arrive.lanes.get i = u.lanes.get i := by
    refine arrive_lanes huphase (fun i => ?_) i
    rw [hres.powered, hres.cfg, hres.lanes, sync_lane_again]
  have hrest := arrive_rest huphase
  have hsou := congrArg State.sou hrest
  have houtbox := (arrive_lowered huphase).outbox
  have hboard := hres.arrive_boardOn huphase
  rw [hres.sou] at hsou
  rw [hbus] at houtbox
  have htiming (hs : s.rcu.phase = .settling) (hstep : s.theStep.reachPresent = false)
      (hpending : s.rcu.powerOnPending = false) (hlower : s.bgu.pendingLower = none)
      (hblank : 0 < s.theStep.blankingMs) :=
    arrive_timing (s := u) (by rw [hres.rcu]; exact hs) (hres.theStep ▸ hstep)
      (by rw [hres.rcu]; exact hpending) (hbgu ▸ hlower) (hres.theStep ▸ hblank)
  rw [hres.theStep, hres.sou, hbgu, hwck, hbus, hres.rcu] at htiming
  have hfixed : u.arrive.asc = u.asc ∧ u.arrive.fcu = u.fcu ∧ u.arrive.tmu = u.tmu ∧
      u.arrive.cfl = u.cfl := by
    rw [hrest]
    exact ⟨rfl, rfl, rfl, rfl⟩
  have hsame : u.asc = s.asc ∧ u.fcu = s.fcu ∧ u.tmu = s.tmu ∧ u.cfl = s.cfl := by
    rw [hres.rest]
    exact ⟨rfl, rfl, rfl, rfl⟩
  obtain ⟨hasc, hfcu, htmu, hcfl⟩ := hfixed
  obtain ⟨hasc', hfcu', htmu', hcfl'⟩ := hsame
  refine ⟨_, hexec, { harrived with }, hsou, hboard,
    fun i => (hlanes i).trans (hres.lanesUnder i), ?_, hasc.trans hasc', hfcu.trans hfcu',
    htmu.trans htmu', hcfl.trans hcfl', fun hs hstep hpending hlower hblank => ?_⟩
  · show u.arrive.bus.responses ++ _ = _
    rw [houtbox]
  · obtain ⟨hrcu, hsou, hbgu, hwck, hbus⟩ := htiming hs hstep hpending hlower hblank
    refine ⟨hrcu, hsou, hbgu, hwck, ?_⟩
    rw [answered_bus, hbus]

/-! ### What a pause held (R22) -/

/-- The state in which a held completion of the power-on sequence is acted on. -/
def State.unheld (s : State) : State := { s with rcu := { s.rcu with heldPowerOn := false } }

theorem resumePowerOn_of_held {u : State} (h : u.rcu.heldPowerOn = true) :
    u.resumePowerOn = u.unheld.powerOnComplete := if_pos h

/-- A RESUME whose arrival is taken acts on a held completion of the power-on sequence (R22). -/
theorem exec_resume_held {f : RxFrame} {s : State} (htakes : s.takesControl 0x22 f = true)
    (hrun : s.rcu.run = .paused) (hphase : s.rcu.phase ≠ .none)
    (htaken : s.rcu.arrivalTaken = true) (hheld : s.rcu.heldPowerOn = true)
    (hreach : s.resumed.unheld.powerOnComplete.rcu.heldReach = false) :
    exec (.resume f) s = .next (s.resumed.unheld.powerOnComplete.answered 0x22 f 0) := by
  have hres := resumed_spec hphase
  rw [exec_resume htakes hrun, resumeRun_of_no_arrival hphase (.inl htaken),
    resumePowerOn_of_held (by rw [hres.rcu]; exact hheld), resumeReach_of_not hreach]

/-- The held completion of a power-on that ends its phase, the third clause of O9. -/
theorem resume_advances {f : RxFrame} {s : State} (htakes : s.takesControl 0x22 f = true)
    (hrun : s.rcu.run = .paused) (htaken : s.rcu.arrivalTaken = true)
    (hheld : s.rcu.heldPowerOn = true) (hreach : s.rcu.heldReach = false)
    (hphase : s.rcu.phase = .settling ∨ s.rcu.phase = .powering ∧ s.rcu.heldOn = false) :
    ∃ t, exec (.resume f) s = .next t ∧
      (s.rcu.phase = .settling → s.theStep.reachPresent = false →
        t.rcu = { s.rcu with
          run := .running, boardOn := s.powered, heldPowerOn := false, phase := .timing
          reach := none, duration := some (s.theStep.durationS * 1000) } ∧ t.wck = s.wck) ∧
      (s.rcu.phase = .settling → s.theStep.reachPresent = true →
        t.rcu = { s.rcu with
          run := .running, boardOn := s.powered, heldPowerOn := false, phase := .reaching
          reach := some (s.theStep.reachTimeoutS * 1000) } ∧
        t.wck = { s.wck with reach := some ⟨s.theStep.reachPoint, s.theStep.reachTarget,
          s.theStep.reachBand⟩ }) ∧
      (s.rcu.phase = .powering → t.wck = s.wck ∧ t.rcu = { s.rcu with
        run := .running, boardOn := s.powered, heldPowerOn := false, phase := .on }) ∧
      t.sou = s.returned ∧ s.lanesUnder s.powered t ∧
      t.bus = { s.bus with responses := s.bus.responses ++ [answerTo 0x22 f 0 []] } ∧
      t.bgu = s.bgu ∧ t.fcu = s.fcu ∧ t.asc = s.asc ∧ t.tmu = s.tmu ∧ t.cfl = s.cfl := by
  have hne : s.rcu.phase ≠ .none := by rcases hphase with h | h <;> simp [h]
  have hres := resumed_spec hne
  have hexec := exec_resume_held htakes hrun hne htaken hheld
  generalize s.resumed = u at *
  have hrcu : u.unheld.rcu =
      { s.rcu with run := .running, boardOn := s.powered, heldPowerOn := false } :=
    congrArg (fun r : Rcu => { r with heldPowerOn := false }) hres.rcu
  have hstep : u.unheld.theStep = s.theStep := hres.theStep
  have hwck : u.unheld.wck = s.wck := by
    show u.wck = _
    rw [hres.rest]
  have hcomplete : u.unheld.powerOnComplete = u.unheld.advancePhase :=
    powerOnComplete_advances (by rw [hrcu]) (by rw [hrcu]; exact hphase)
  obtain ⟨p, d, r, w, e⟩ := advancePhase_spec u.unheld
  rw [hcomplete] at hexec
  refine ⟨_, hexec ?_, fun hs hstepReach => ?_, fun hs hstepReach => ?_, fun hp => ?_, ?_,
    fun i => ?_, ?_, ?_⟩
  · rw [e, hrcu]
    exact hreach
  · rw [advancePhase_timing (by rw [hrcu]; exact hs) (hstep ▸ hstepReach), State.enterTiming, hrcu, hstep]
    exact ⟨rfl, hwck⟩
  · rw [advancePhase_reaching (by rw [hrcu]; exact hs) (hstep ▸ hstepReach), State.enterReaching, hrcu,
      hstep, hwck]
    exact ⟨rfl, rfl⟩
  · rw [advancePhase_on (by rw [hrcu]; exact hp), hrcu]
    exact ⟨hwck, rfl⟩
  · rw [e]
    exact hres.sou
  · rw [e]
    exact hres.lanesUnder i
  · rw [answered_bus, e]
    show ({ u.bus with responses := u.bus.responses ++ _ } : Bif) = _
    rw [hres.rest]
  · rw [e]
    show u.bgu = _ ∧ u.fcu = _ ∧ u.asc = _ ∧ u.tmu = _ ∧ u.cfl = _
    rw [hres.rest]
    exact ⟨rfl, rfl, rfl, rfl, rfl⟩

/-- A completion with its response is the completion (R167). -/
theorem RunCompleted.answered {written : List Record} {kind code : Byte} {f : RxFrame} {s t : State}
    (h : RunCompleted written s t) : RunCompleted written s (t.answered kind f code) :=
  ⟨fun hn => { h.passed hn with }, fun hn hl => { h.failed hn hl with },
    fun hl => { h.limited hl with }, { h.wrote with }, h.notices⟩

/-- The held completion of a power-on under a held expiry of the on timer, the third clause of O9. -/
theorem resume_iterates {f : RxFrame} {s : State} (htakes : s.takesControl 0x22 f = true)
    (hrun : s.rcu.run = .paused) (htaken : s.rcu.arrivalTaken = true)
    (hheld : s.rcu.heldPowerOn = true) (hreach : s.rcu.heldReach = false)
    (hphase : s.rcu.phase = .powering) (hon : s.rcu.heldOn = true) :
    (s.rcu.iteration + 1 < s.theStep.repeats →
      ∃ t, exec (.resume f) s = .next t ∧ t.rcu.run = .running ∧ t.rcu.phase = .off ∧
        t.rcu.iteration = s.rcu.iteration + 1 ∧ t.rcu.off = some s.theStep.offMs ∧
        t.rcu.heldOn = false ∧ t.rcu.heldPowerOn = false ∧ t.rcu.boardOn = false ∧
        t.sou.target0 = 0 ∧ t.sou.level0 = 0 ∧ (∀ i, (t.lanes.get i).lock = .off) ∧
        t.fcu = s.fcu ∧ t.asc = s.asc ∧ t.tmu = s.tmu ∧
        t.bus.responses = s.bus.responses ++ [answerTo 0x22 f 0 []]) ∧
    (s.theStep.repeats ≤ s.rcu.iteration + 1 → s.rcu.step + 1 < s.cfg.steps.length →
      ∃ t, exec (.resume f) s = .next t ∧ t.rcu.step = s.rcu.step + 1 ∧ t.rcu.iteration = 0 ∧
        t.rcu.heldOn = false ∧ t.rcu.heldPowerOn = false ∧ t.fcu = s.fcu ∧ t.asc = s.asc) ∧
    (s.theStep.repeats ≤ s.rcu.iteration + 1 → s.cfg.steps.length ≤ s.rcu.step + 1 →
      ∃ t, exec (.resume f) s = .next t ∧
        RunCompleted s.openRecords { s with rcu := { s.rcu with phase := .on } } t) := by
  have hne : s.rcu.phase ≠ .none := by simp [hphase]
  have hres := resumed_spec hne
  have hexec := exec_resume_held htakes hrun hne htaken hheld
  generalize s.resumed = u at *
  have hrun' : u.unheld.rcu.run = .running := congrArg Rcu.run hres.rcu
  have hphase' : u.unheld.rcu.phase = .powering := (congrArg Rcu.phase hres.rcu).trans hphase
  have hon' : u.unheld.rcu.heldOn = true := (congrArg Rcu.heldOn hres.rcu).trans hon
  have hstep : u.unheld.rcu.step = s.rcu.step := (congrArg Rcu.step hres.rcu).trans rfl
  have hiteration : u.unheld.rcu.iteration = s.rcu.iteration := (congrArg Rcu.iteration hres.rcu).trans rfl
  have htheStep : u.unheld.theStep = s.theStep := hres.theStep
  have hcfg : u.unheld.cfg = s.cfg := hres.cfg
  obtain ⟨hfcu, hasc, htmu, hbus, hpeers⟩ : u.unheld.fcu = s.fcu ∧ u.unheld.asc = s.asc ∧
      u.unheld.tmu = s.tmu ∧ u.unheld.bus = s.bus ∧ u.unheld.bgu.peers = s.bgu.peers := by
    show u.fcu = _ ∧ u.asc = _ ∧ u.tmu = _ ∧ u.bus = _ ∧ u.bgu.peers = _
    rw [hres.rest]
    exact ⟨rfl, rfl, rfl, rfl, rfl⟩
  refine ⟨fun hmore => ?_, fun hlast hnext => ?_, fun hlast hfinal => ?_⟩
  · obtain ⟨hcomplete, hoff⟩ := powerOnComplete_next hrun' hphase' hon'
      (hiteration ▸ htheStep ▸ hmore)
    rw [hcomplete] at hexec
    obtain ⟨hsou, hofcu, hoasc, hotmu, -⟩ := hoff.kept
    obtain ⟨-, hrcu, ⟨-, -, -, houtbox⟩, hlanes, -⟩ := hoff
    refine ⟨_, hexec ((congrArg Rcu.heldReach hrcu).trans ((congrArg Rcu.heldReach hres.rcu).trans hreach)),
      (congrArg Rcu.run hrcu).trans hrun', congrArg Rcu.phase hrcu,
      (congrArg Rcu.iteration hrcu).trans (congrArg (· + 1) hiteration),
      (congrArg Rcu.off hrcu).trans (congrArg (fun x => some x.offMs) htheStep),
      congrArg Rcu.heldOn hrcu, congrArg Rcu.heldPowerOn hrcu, congrArg Rcu.boardOn hrcu,
      congrArg Sou.target0 hsou, congrArg Sou.level0 hsou,
      fun i => congrArg Lane.lock (hlanes i), hofcu.trans hfcu, hoasc.trans hasc, hotmu.trans htmu, ?_⟩
    rw [answered_bus, houtbox]
    show u.unheld.bus.responses ++ _ = _
    rw [hbus]
  · rw [powerOnComplete_last hrun' hphase' hon' (hiteration ▸ htheStep ▸ hlast)] at hexec
    obtain ⟨⟨hnew, hzero⟩, ⟨hpower, hheldReach, hheldOn, -⟩, -, ⟨hefcu, heasc, -, -⟩, -⟩ :=
      endStep_entered (s := u.unheld.poweredOn) (hstep ▸ hcfg ▸ hnext)
    exact ⟨_, hexec hheldReach, hnew.trans (congrArg (· + 1) hstep), hzero, hheldOn, hpower,
      hefcu.trans hfcu, heasc.trans hasc⟩
  · rw [powerOnComplete_last hrun' hphase' hon' (hiteration ▸ htheStep ▸ hlast)] at hexec
    obtain ⟨hcompleted, -, -, hheldReach⟩ :=
      endStep_completes (s := u.unheld.poweredOn) (hstep ▸ hcfg ▸ hfinal)
    have hrecords : u.unheld.poweredOn.openRecords = s.openRecords :=
      congrArg (fun c : Fcu => c.groups.map Group.record) hfcu
    rw [hrecords] at hcompleted
    have hsame := hcompleted.of_same (s' := s.poweredOn) ⟨hstep, rfl, hiteration⟩ htmu hpeers hres.cfl
      hfcu (congrArg Bif.notices hbus)
    exact ⟨_, hexec hheldReach, hsame.answered⟩

theorem resumeReach_of_held {u : State} (h : u.rcu.heldReach = true) :
    u.resumeReach = State.reachMet { u with rcu := { u.rcu with heldReach := false } } := if_pos h

/-- A RESUME acts on a held reach met report by entering TIMING (R12, R22). -/
theorem exec_resume_reach {f : RxFrame} {s : State} (htakes : s.takesControl 0x22 f = true)
    (hrun : s.rcu.run = .paused) (hphase : s.rcu.phase = .reaching)
    (htaken : s.rcu.arrivalTaken = true) (hpower : s.rcu.heldPowerOn = false)
    (hreach : s.rcu.heldReach = true) :
    exec (.resume f) s = .next (State.answered 0x22 f 0 (State.enterTiming
      { s.resumed with rcu := { s.resumed.rcu with heldReach := false } })) := by
  have hne : s.rcu.phase ≠ .none := by simp [hphase]
  have hres := resumed_spec hne
  rw [exec_resume htakes hrun, resumeRun_of_no_arrival hne (.inl htaken),
    resumePowerOn_of_not (by rw [hres.rcu]; exact hpower),
    resumeReach_of_held (by rw [hres.rcu]; exact hreach)]
  refine congrArg (fun u => Host.Outcome.next (State.answered 0x22 f 0 u)) (reachMet_of_reaching ?_ ?_)
  · exact congrArg Rcu.run hres.rcu
  · exact (congrArg Rcu.phase hres.rcu).trans hphase

/-- Settles O9: the return by `resumed_spec`, the arrival by `resume_arrives`, and what was held by
`resume_advances`, `resume_iterates` and `exec_resume_reach`. -/
theorem resumeReturnsTargetsAndHeldReports : Obligations.ResumeReturnsTargetsAndHeldReports := by
  refine ⟨fun f s htakes hrun hpower hreach hphase hdue => ?_,
    fun f s htakes hrun hpower hreach hphase htaken hmax hlands hidle =>
      resume_arrives htakes hrun hpower hreach hphase htaken hmax hlands hidle,
    fun f s htakes hrun htaken hpower hreach =>
      ⟨fun hphase => resume_advances htakes hrun htaken hpower hreach hphase,
        fun hphase hon => resume_iterates htakes hrun htaken hpower hreach hphase hon⟩,
    fun f s htakes hrun hphase htaken hpower hreach => ?_,
    fun f s htakes => ⟨fun hrun => ?_, fun hrun => ?_⟩⟩
  · have hexec := resume_returns htakes hrun hpower hreach hphase hdue
    have hres := resumed_spec hphase
    generalize s.resumed = u at *
    refine ⟨_, hexec, hres.rcu, hres.sou, hres.lanesUnder, fun hlines hon hboard i => ?_,
      fun hlines hoff hboard i => ?_, ?_⟩
    · refine (hres.lines i).trans ?_
      have hsupervising : s.supervising = (true && !s.rcu.blanking) := by
        rcases hboard with h | h <;> simp [State.supervising, h]
      have hallowed := (hlines i).on
      rw [hsupervising] at hallowed
      rw [hon]
      exact sync_line_allowed hallowed
    · refine (congrArg Line.sup (hres.lines i)).trans ?_
      have hallowed := hlines i
      rw [State.supervising, hboard, Bool.false_and] at hallowed
      rw [hoff, Bool.false_and]
      exact sync_line_disallowed hallowed
    · rw [answered_bus]
      show ({ u.bus with responses := u.bus.responses ++ _ } : Bif) = _ ∧ u.bgu = _ ∧ u.asc = _ ∧
        u.wck = _ ∧ u.fcu = _ ∧ u.tmu = _ ∧ u.cfl = _
      rw [hres.rest]
      exact ⟨rfl, rfl, rfl, rfl, rfl, rfl, rfl⟩
  · have hexec := exec_resume_reach htakes hrun hphase htaken hpower hreach
    have hres := resumed_spec (s := s) (by simp [hphase])
    generalize s.resumed = u at *
    refine ⟨_, hexec, ?_, hres.sou, hres.lanesUnder, ?_⟩
    · show { u.rcu with
        heldReach := false, phase := .timing, reach := none
        duration := some (u.theStep.durationS * 1000) } = _
      rw [hres.rcu, hres.theStep]
    · rw [answered_bus]
      show ({ u.bus with responses := u.bus.responses ++ _ } : Bif) = _ ∧ u.bgu = _ ∧ u.fcu = _ ∧
        u.wck = _ ∧ u.asc = _ ∧ u.tmu = _ ∧ u.cfl = _
      rw [hres.rest]
      exact ⟨rfl, rfl, rfl, rfl, rfl, rfl, rfl⟩
  · rw [exec_taken (c := .resume f) rfl .resume htakes, takeResume_of_running hrun]
    rfl
  · rw [exec_taken (c := .resume f) rfl .resume htakes, takeResume_of_other hrun]
    rfl

end Sys2Proof.Machine
end

section
/-! SUPPORT. An accepted START (R20, O6): the history cleared, and step 0 that asks its claim, starts at
once or ends in SUPPLY_LOST. -/

namespace Sys2Proof.Machine

/-! ### The history cleared (R20, R108, R122) -/

/-- The run counters of a lane (R108). -/
def Lane.cleared (l : Lane) : Prop :=
  l.signErrors = ⟨0, false⟩ ∧ l.codeErrors = ⟨0, false⟩ ∧ l.markErrors = ⟨0, false⟩ ∧ l.lockLosses = 0

theorem Lane.cleared.sync {l : Lane} (h : l.cleared) (on enabled : Bool) :
    (l.sync on enabled).cleared := by
  obtain ⟨hsign, hcode, hmark, hlosses⟩ := sync_counters on enabled l
  exact ⟨hsign.trans h.1, hcode.trans h.2.1, hmark.trans h.2.2.1, hlosses.trans h.2.2.2⟩

theorem clearHistory_lanes (s : State) (i : Fin 4) : (s.clearHistory.lanes.get i).cleared := by
  rw [State.clearHistory, Quad.get_map]
  exact ⟨rfl, rfl, rfl, rfl⟩

theorem clearHistory_windows (s : State) (i : Fin 8) :
    s.clearHistory.wck.points.get i = ⟨false, 0, 0, 0⟩ := Oct.get_fill ..

theorem clearHistory_line (s : State) (i : Fin 4) :
    s.clearHistory.lines.get i = (s.lines.get i).clearHistory := Quad.get_map ..

/-- A line whose history was cleared with the board off (R20, R122). -/
theorem clearHistory_sync_false (hb : Nat) (l : Line) : l.clearHistory.sync false false hb =
    { l with
      pulses := 0, riseRack := none, riseUptime := none, episodes := 0, timer := none
      sup := match l.sup with
        | .unused => .unused
        | .heartbeat _ => .heartbeat .disarmed
        | .rate _ _ => .rate false false
        | .powerGood _ => .powerGood .off
        | .resetWatch _ => .resetWatch false } := by
  obtain ⟨high, pulses, rack, uptime, sup, timer, count, episodes⟩ := l
  cases sup <;> rfl

/-- The same line as the clearing of the history leaves it (R20, Table 7-3). -/
theorem clearHistory_eq (l : Line) : l.clearHistory =
    { l with
      pulses := 0, riseRack := none, riseUptime := none, episodes := 0, timer := none
      sup := match l.sup with
        | .unused => .unused
        | .heartbeat _ => .heartbeat .disarmed
        | .rate _ _ => .rate false false
        | .powerGood _ => .powerGood .off
        | .resetWatch _ => .resetWatch false } := by
  obtain ⟨high, pulses, rack, uptime, sup, timer, count, episodes⟩ := l
  cases sup <;> rfl

/-! ### Step 0 -/

theorem startRun_of_present {s : State} (h : s.sou.sensePresent = true) :
    s.startRun = s.clearHistory.enterStep 0 := by
  obtain ⟨r, -, kept⟩ := enterStep_kept 0 s.clearHistory
  exact if_pos (kept.sense.trans h)

theorem startRun_of_absent {s : State} (h : s.sou.sensePresent = false) :
    s.startRun = (s.clearHistory.enterStep 0).raise .supplyLost []
      (s.clearHistory.enterStep 0).sou.level0 := by
  obtain ⟨r, -, kept⟩ := enterStep_kept 0 s.clearHistory
  exact if_neg (Bool.eq_false_iff.mp (kept.sense.trans h))

theorem exec_start {f : RxFrame} {s : State} (htakes : s.takesControl 0x20 f = true)
    (hidle : s.rcu.run = .idle) (hslot : s.bgu.slotConflict = false) (hvalid : s.cfl.status = .valid)
    (hsettled : s.tmu.settled = true) :
    exec (.start f) s = .next (s.startRun.answered 0x20 f 0) := by
  rw [exec_taken (c := .start f) rfl .start htakes, takeStart_accepted hidle hslot hvalid hsettled]
  rfl

/-- In IDLE the outputs are safe, and a step that asks for its claim leaves the board off (R17, R38). -/
theorem claiming_boardOn {s : State} (hidle : s.rcu.run = .idle) (hsafe : s.outputsSafe) :
    State.boardOnNow { s.clearHistory.positioned 0 with
      rcu := { (s.clearHistory.positioned 0).rcu with run := .claiming, phase := .none } } = false := by
  obtain ⟨htarget, -⟩ := hsafe (by rw [hidle]; rfl)
  show (true && decide (0 < s.sou.target0) && true) = false
  rw [htarget]
  rfl

/-- An accepted START whose step 0 claims more than is committed has its INTENT queued (R7, R57). -/
theorem startRun_asks {s : State} (hsense : s.sou.sensePresent = true)
    (hlistening : s.bgu.listening = 0) (hintent : s.bgu.intent = none)
    (hattempt : s.bus.attempt = none) (hsettled : s.tmu.settled = true)
    (hmore : s.bgu.committed < (s.stepAt 0).claimW) : s.startRun = { s.clearHistory.claiming 0 with
      bgu := { (s.clearHistory.claiming 0).bgu with intent := some ⟨(s.stepAt 0).claimW, .queued⟩ }
      bus := { s.bus with budget := some ⟨.intent (s.stepAt 0).claimW true, 0⟩ } } := by
  rw [startRun_of_present hsense]
  exact (enterStep_asks (s := s.clearHistory) hmore).trans
    (askClaim_queues _ hintent hattempt hsettled hlistening)

theorem claiming_lane (s : State) (i : Fin 4) :
    ((s.clearHistory.claiming 0).lanes.get i).cleared := by
  have h : (s.clearHistory.claiming 0).lanes.get i = (s.clearHistory.lanes.get i).sync _ _ :=
    Quad.get_mapIdx ..
  rw [h]
  exact (clearHistory_lanes s i).sync _ _

/-- Where step 0 asks its claim under safe outputs every lane is OFF, and every line as the clearing of
the history leaves it (R20, R38, R109, R122). -/
theorem claiming_safe {s : State} (hidle : s.rcu.run = .idle) (hsafe : s.outputsSafe) (i : Fin 4) :
    ((s.clearHistory.claiming 0).lanes.get i).lock = .off ∧
      (s.clearHistory.claiming 0).lines.get i = (s.lines.get i).clearHistory := by
  have hoff := claiming_boardOn hidle hsafe
  refine ⟨(congrArg Lane.lock (Quad.get_mapIdx ..)).trans ?_, (Quad.get_mapIdx ..).trans ?_⟩
  · rw [hoff]
    exact sync_off ..
  · rw [hoff, clearHistory_eq, ← clearHistory_sync_false (s.cfg.lines.get i).hbMaxMs]
    show (s.clearHistory.lines.get i).sync _ _ _ = _
    rw [clearHistory_line]
    rfl

theorem claiming_line (s : State) (i : Fin 4) :
    ((s.clearHistory.claiming 0).lines.get i).pulses = 0 ∧
      ((s.clearHistory.claiming 0).lines.get i).riseRack = none ∧
      ((s.clearHistory.claiming 0).lines.get i).riseUptime = none ∧
      ((s.clearHistory.claiming 0).lines.get i).episodes = 0 ∧
      ((s.clearHistory.claiming 0).lines.get i).high = (s.lines.get i).high := by
  have h : ∃ on force hb, (s.clearHistory.claiming 0).lines.get i =
      (s.clearHistory.lines.get i).sync on force hb := ⟨_, _, _, Quad.get_mapIdx ..⟩
  obtain ⟨on, force, hb, h⟩ := h
  rw [h, clearHistory_line]
  obtain ⟨hhigh, hpulses, hrack, huptime, hepisodes⟩ :=
    sync_counts on force hb (s.lines.get i).clearHistory
  exact ⟨hpulses, hrack, huptime, hepisodes, hhigh⟩

/-! ### The counters of the lanes through the start of a step -/

theorem refresh_cleared {i : Fin 4} {s : State} (h : (s.lanes.get i).cleared) :
    (s.refresh.lanes.get i).cleared := by
  obtain ⟨lanes, lines, e, hlanes, -⟩ := refresh_spec s
  rw [e]
  show (lanes.get i).cleared
  rw [hlanes i]
  exact h.sync _ _

theorem arrive_cleared {i : Fin 4} {s : State}
    (hphase : s.rcu.phase = .settling ∨ s.rcu.phase = .powering) (h : (s.lanes.get i).cleared) :
    (s.arrive.lanes.get i).cleared := by
  have ha := arriving_spec s
  have hlanes : s.arriving.arrivalSequence.lanes = s.arriving.lanes := by
    rw [(arrivalSequence_sequenced s.arriving).rest]
  rw [arrive_eq hphase, hlanes]
  by_cases hblank : s.theStep.blankingMs = 0
  · rw [(ha.cleared hblank i).1]
    exact h.sync _ _
  · rw [(ha.still hblank).1]
    exact h

/-- The start of a step leaves cleared lane counters cleared (R108). -/
theorem startStep_cleared {i : Fin 4} {s : State} (h : (s.lanes.get i).cleared) :
    (s.startStep.lanes.get i).cleared := by
  by_cases hkind : s.theStep.kind = .cycle
  · rw [startStep_of_cycle hkind, startCycle_eq, (enterOff_entered (s := s.cycling) rfl).lanes i]
    exact h
  · have hsettled : (s.settled.lanes.get i).cleared := refresh_cleared h
    have hat : (s.atSettling.lanes.get i).cleared := by
      unfold State.atSettling
      split <;> exact hsettled
    rw [startStep_of_settling hkind]
    by_cases hlands : s.landsAtStart ∧ s.rcu.arrivalTaken = false
    · rw [startSettling_of_lands hlands.1 hlands.2]
      exact arrive_cleared (.inl (atSettling_spec s).phase) hat
    · rw [startSettling_of_ramps ((not_and_or.mp hlands).imp_right Bool.eq_true_of_not_eq_false)]
      exact hat

/-! ### SUPPLY_LOST at the acceptance (R45) -/

/-- The record of a supply that a START finds lost (R45). -/
def State.lossRecord (s : State) : Record := s.formRecord s.asc .supplyLost [] s.sou.level0

/-- The state in which that record has been written, as the first of its run. -/
def State.lossWritten (s : State) : State :=
  { s with
    fcu := ⟨[], [s.lossRecord], 1, 0, false, .ending⟩
    bus := s.bus.queueNotice (.fault s.lossRecord) }

/-- A SUPPLY_LOST before any other record writes its record and ends the run (R45, R144). -/
theorem raise_supplyLost_first {s : State} (hactive : s.rcu.run.active = true) (hfcu : s.fcu = .reset) :
    s.raise .supplyLost [] s.sou.level0 = s.lossWritten.runEnd .aborted .supplyLost := by
  rw [raise_supplyLost hactive, finalClosing_of_noGroups .ending (by rw [hfcu]; rfl),
    writeRecord_stored (by rw [hfcu]; exact Nat.zero_lt_succ 63), hfcu]
  simp only [reduceCtorEq, and_false, if_false]
  rfl

theorem queueNotice_budget (n : Notice) (b : Bif) : (b.queueNotice n).budget = b.budget := by
  rcases queueNotice_spec n b with ⟨-, e⟩ | ⟨-, e⟩ <;> rw [e]

theorem queueNotice_attempt (n : Notice) (b : Bif) : (b.queueNotice n).attempt = b.attempt := by
  rcases queueNotice_spec n b with ⟨-, e⟩ | ⟨-, e⟩ <;> rw [e]

theorem queueNotice_responses (n : Notice) (b : Bif) : (b.queueNotice n).responses = b.responses := by
  rcases queueNotice_spec n b with ⟨-, e⟩ | ⟨-, e⟩ <;> rw [e]

/-- The BUDGET class at a run end is that of the release of the claim (R66). -/
theorem runEnd_budget (v : Verdict) (cause : EndCause) (s : State) :
    (s.runEnd v cause).bus.budget = (State.releaseClaim { s with
      rcu := { s.rcu with verdict := v, cause := cause }, sou := s.sou.runEnd s.cfg cause }).bus.budget :=
  queueNotice_budget _ _

/-- With nothing committed the release of the claim is the withdrawal of the intent (R66). -/
theorem releaseClaim_bus {s : State} (h : s.bgu.committed = 0) :
    s.releaseClaim.bus = s.withdrawIntent.bus := by
  obtain ⟨w, b, bn, e⟩ := withdrawIntent_spec s
  unfold State.releaseClaim
  rw [e]
  dsimp only
  rw [if_pos h]

/-- The entry of a step moves nothing in the outbox but the BUDGET class (R51, R57). -/
theorem enterStep_outbox (n : Nat) (s : State) : (s.enterStep n).bus = { s.bus with
    budget := (s.enterStep n).bus.budget, budgetNext := (s.enterStep n).bus.budgetNext } := by
  rcases Nat.lt_or_ge s.bgu.committed (s.stepAt n).claimW with hmore | hle
  · obtain ⟨i, wd, b, bn, e, -⟩ := askClaim_spec (s.stepAt n).claimW (s.claiming n)
    rw [enterStep_asks hmore]
    exact e ▸ rfl
  · rw [enterStep_of_le hle]
    exact startStep_outbox _

/-- A claim that is asked for during the listening interval is held (R57). -/
theorem askClaim_holds {w : Nat} {s : State} (hintent : s.bgu.intent = none)
    (hlistening : s.bgu.listening ≠ 0) :
    s.askClaim w = { s with bgu := { s.bgu with intent := some ⟨w, .held⟩ } } := by
  have hnot : State.mayAnnounce { s with bgu := { s.bgu with intent := some ⟨w, .held⟩ } } = false := by
    simp [State.mayAnnounce, hlistening]
  rw [State.askClaim, withdrawIntent_of_none hintent]
  exact if_neg (Bool.eq_false_iff.mp hnot)

/-- With nothing committed a run end leaves of a queued intent a COMMIT (R64, R66). -/
theorem runEnd_budget_queued {w : Nat} {v : Verdict} {cause : EndCause} {s : State}
    (hnone : s.bgu.committed = 0) (hintent : s.bgu.intent = some ⟨w, .queued⟩)
    (hattempt : s.bus.attempt = none) : (s.runEnd v cause).bus.budget = some ⟨.commit, 0⟩ := by
  obtain ⟨u, hu⟩ : ∃ u : State, u = { s with
    rcu := { s.rcu with verdict := v, cause := cause }, sou := s.sou.runEnd s.cfg cause } := ⟨_, rfl⟩
  rw [runEnd_budget, ← hu, releaseClaim_bus (by rw [hu]; exact hnone),
    withdrawIntent_of_queued (by rw [hu]; exact hintent), hu]
  exact congrArg Bif.budget (queueBudget_idle .commit s.bus.disown hattempt)

/-- With nothing committed a run end leaves of a held intent nothing in the BUDGET class (R64, R66). -/
theorem runEnd_budget_held {w : Nat} {v : Verdict} {cause : EndCause} {s : State}
    (hnone : s.bgu.committed = 0) (hintent : s.bgu.intent = some ⟨w, .held⟩) :
    (s.runEnd v cause).bus.budget = s.bus.budget := by
  obtain ⟨u, hu⟩ : ∃ u : State, u = { s with
    rcu := { s.rcu with verdict := v, cause := cause }, sou := s.sou.runEnd s.cfg cause } := ⟨_, rfl⟩
  rw [runEnd_budget, ← hu, releaseClaim_bus (by rw [hu]; exact hnone),
    withdrawIntent_of_held (by rw [hu]; exact hintent), hu]

/-- A supply found lost in CLAIMING leaves the phase NONE and the outputs of the step before (R7). -/
theorem start_asks_place {s : State} (hmore : s.bgu.committed < (s.stepAt 0).claimW) :
    (s.clearHistory.enterStep 0).rcu.phase = .none ∧ (s.clearHistory.enterStep 0).sou = s.sou := by
  obtain ⟨i, wd, b, bn, e, -⟩ := askClaim_spec (s.stepAt 0).claimW (s.clearHistory.claiming 0)
  have hasks : s.clearHistory.enterStep 0 = _ := (enterStep_asks (s := s.clearHistory) hmore).trans e
  rw [hasks]
  exact ⟨rfl, rfl⟩

/-- The BUDGET class after a START that finds the supply lost while it asks for its claim (R57, R64,
R66). -/
theorem start_lost_budget {s : State} (hmore : s.bgu.committed < (s.stepAt 0).claimW)
    (hnone : s.bgu.committed = 0) (hattempt : s.bus.attempt = none) (hintent : s.bgu.intent = none)
    (hsettled : s.tmu.settled = true) (v : Verdict) (cause : EndCause) :
    ((s.clearHistory.enterStep 0).lossWritten.runEnd v cause).bus.budget =
      if s.bgu.listening = 0 then some ⟨.commit, 0⟩ else s.bus.budget := by
  have hasks := enterStep_asks (s := s.clearHistory) hmore
  by_cases hlistening : s.bgu.listening = 0
  · have hentered := hasks.trans (askClaim_queues _ hintent hattempt hsettled hlistening)
    obtain ⟨hcommitted, hqueued, hattempt⟩ : (s.clearHistory.enterStep 0).bgu.committed = 0 ∧
        (s.clearHistory.enterStep 0).bgu.intent = some ⟨(s.stepAt 0).claimW, .queued⟩ ∧
        (s.clearHistory.enterStep 0).bus.attempt = none := by
      rw [hentered]
      exact ⟨hnone, rfl, hattempt⟩
    rw [if_pos hlistening]
    exact runEnd_budget_queued (s := (s.clearHistory.enterStep 0).lossWritten) hcommitted hqueued
      ((queueNotice_attempt _ _).trans hattempt)
  · have hentered := hasks.trans (askClaim_holds hintent hlistening)
    obtain ⟨hcommitted, hheld, hbudget⟩ : (s.clearHistory.enterStep 0).bgu.committed = 0 ∧
        (s.clearHistory.enterStep 0).bgu.intent = some ⟨(s.stepAt 0).claimW, .held⟩ ∧
        (s.clearHistory.enterStep 0).bus.budget = s.bus.budget := by
      rw [hentered]
      exact ⟨hnone, rfl, rfl⟩
    rw [if_neg hlistening, ← hbudget]
    exact (runEnd_budget_held (s := (s.clearHistory.enterStep 0).lossWritten) hcommitted hheld).trans
      (queueNotice_budget _ _)

/-- Settles O6: the claim by `startRun_asks`, the start at once by `stepStarted_of`, and the lost supply
by `raise_supplyLost_first`. -/
theorem startClearsTheHistoryAndClaims : Obligations.StartClearsTheHistoryAndClaims := by
  refine ⟨fun f s htakes hidle hslot hvalid hsettled hsense hlistening hintent hattempt hmore => ?_,
    fun f e s htakes hidle hslot hvalid hsettled hsense hsame he hwindows hlines => ?_,
    fun f s htakes hidle hslot hvalid hsettled hsense => ?_⟩
  · have hexec := exec_start htakes hidle hslot hvalid hsettled
    rw [startRun_asks hsense hlistening hintent hattempt hsettled hmore] at hexec
    refine ⟨_, hexec, ⟨rfl, rfl, rfl, rfl, rfl, rfl, rfl, Bool.false_or _, rfl⟩, rfl,
      clearHistory_windows s, claiming_lane s, claiming_line s, fun hsafe i => ?_,
      ⟨rfl, rfl, rfl, rfl, rfl⟩, rfl, rfl, rfl, rfl, rfl⟩
    obtain ⟨hlane, hline⟩ := claiming_safe hidle hsafe i
    exact ⟨hlane, hline.trans (clearHistory_eq _)⟩
  · have hstart : s.startRun = (s.clearHistory.positioned 0).startStep :=
      (startRun_of_present hsense).trans (enterStep_starts (s := s.clearHistory) hsame)
    have hexec := exec_start htakes hidle hslot hvalid hsettled
    rw [hstart] at hexec
    have hline (i : Fin 4) : (s.clearHistory.positioned 0).lines.get i = e.lines.get i :=
      (clearHistory_line s i).trans ((clearHistory_eq _).trans (hlines i).symm)
    have hreads : SameStart e (s.clearHistory.positioned 0) := by
      refine ⟨?_, ?_, ?_, ?_, ?_, ?_, ?_, fun i => (clearHistory_windows s i).trans (hwindows i).symm,
        fun i => congrArg Line.reading (hline i), fun i hoff => (congrArg Line.sup (hline i)).trans hoff⟩
      all_goals
        rw [he]
        rfl
    have hkept := startStep_kept (s.clearHistory.positioned 0)
    obtain ⟨hlasting, -⟩ := startStep_startKept (s.clearHistory.positioned 0)
    simp only [Rcu.lasting, Prod.mk.injEq] at hlasting
    obtain ⟨-, hverdict, hcause, -⟩ := hlasting
    obtain ⟨hbgu, hbus⟩ := startStep_kept_claim (s := s.clearHistory.positioned 0) rfl
    have hstarted := stepStarted_of (startStep_started _) hreads
    have hlanes (i : Fin 4) := startStep_cleared (s := s.clearHistory.positioned 0) (clearHistory_lanes s i)
    generalize (s.clearHistory.positioned 0).startStep = t at *
    refine ⟨_, hexec, ⟨fun h => { hstarted.1 h with }, fun h => { hstarted.2 h with }⟩, hkept.iteration,
      hverdict, hcause, hkept.fcu, hlanes, hbgu, ?_, hkept.asc, hkept.tmu, hkept.cfl⟩
    rw [answered_bus, hbus]
    rfl
  · have hstart := startRun_of_absent hsense
    obtain ⟨r, hactive, kept⟩ := enterStep_kept 0 s.clearHistory
    rw [raise_supplyLost_first (kept.run ▸ hactive) kept.fcu] at hstart
    obtain ⟨-, hended, -⟩ := startRun_supplyLost hsense
    have hexec := exec_start htakes hidle hslot hvalid hsettled
    have houtbox := enterStep_outbox 0 s.clearHistory
    have hplace := start_asks_place (s := s)
    have hbudget (hmore hnone hattempt hintent) :=
      start_lost_budget (s := s) hmore hnone hattempt hintent hsettled .aborted .supplyLost
    rw [← hstart] at hbudget
    generalize s.clearHistory.enterStep 0 = u at *
    obtain ⟨o, b, bn, ns, nd, lanes, lines, e, -, hnotices, -⟩ :=
      runEnd_spec .aborted .supplyLost u.lossWritten
    rw [e] at hstart
    obtain ⟨-, -, -, -, hpresent, -⟩ := runEnd_outputs u.lossWritten.cfg .supplyLost u.sou
    obtain ⟨hsafe, -⟩ := runEnd_safe u.lossWritten.cfg .supplyLost u.sou
    obtain ⟨htarget1, hlevel1, htarget2, hlevel2⟩ := hsafe (.inr rfl)
    have hphase : s.startRun.rcu.phase = u.rcu.phase := by rw [hstart]; rfl
    have hsou : s.startRun.sou = u.sou.runEnd u.lossWritten.cfg .supplyLost := by rw [hstart]; rfl
    have hfcu : s.startRun.fcu = ⟨[], [u.lossRecord], 1, 0, false, .none⟩ := by rw [hstart]; rfl
    have hfirst : u.bus.notices = s.bus.notices := (congrArg Bif.notices houtbox).trans rfl
    refine ⟨_, u.lossRecord, hexec, { hended with }, ?_, ?_, ?_, ?_, ?_, ?_, ?_, ?_, rfl, rfl, rfl,
      kept.step, hphase.symm, fun hmore => ⟨hphase.trans (hplace hmore).1, ?_⟩, hbudget,
      fun hroom => ?_, ?_, ?_, ?_⟩
    · exact (congrArg Sou.sensePresent hsou).trans (hpresent.trans (kept.sense.trans hsense))
    · exact (congrArg Sou.target1 hsou).trans htarget1
    · exact (congrArg Sou.level1 hsou).trans hlevel1
    · exact (congrArg Sou.target2 hsou).trans htarget2
    · exact (congrArg Sou.level2 hsou).trans hlevel2
    · exact congrArg Fcu.log hfcu
    · exact congrArg Fcu.recordCount hfcu
    · exact congrArg Fcu.lostCount hfcu
    · rw [← (hplace hmore).2]
      rfl
    · have hwritten : u.lossWritten.bus.notices = s.bus.notices ++ [⟨.fault u.lossRecord, 0⟩] := by
        rw [← hfirst]
        exact congrArg Bif.notices (queueNotice_room (by rw [hfirst]; omega))
      have hlast := hnotices (by rw [hwritten, List.length_append, List.length_singleton]; omega)
      rw [hwritten, List.append_assoc] at hlast
      refine ⟨u.lossWritten.runNotice .aborted .supplyLost, ?_, rfl, rfl, rfl⟩
      rw [answered_bus, hstart]
      exact hlast
    · rw [answered_bus, hstart]
      refine congrArg (· ++ [answerTo 0x20 f 0 []]) ((queueNotice_responses _ _).trans ?_)
      exact kept.responses
    · rw [hstart]
      exact kept.asc
    · rw [hstart]
      exact kept.cfl

end Sys2Proof.Machine
end
